-- ==== Sys2Proof/Word.lean ====
section
/-! DEFINITION. Words, and the fixed tables of four and of eight that the DX-Q4 is built of
(four paths, slots and ports; eight stations): plain structures, so that a state can be written
out and compared. -/

namespace Sys2Proof

/-- A byte of a frame body, of a packet or of a report page. -/
abbrev Byte := BitVec 8

/-- A 16-bit number: multiplex identifiers, check registers. -/
abbrev Half := BitVec 16

/-- Four of one kind, indexed 0 to 3: paths P0 to P3, slots S0 to S3, ports 0 to 3 (spec 00, 4 (1)). -/
structure Quad (α : Type) where
  a0 : α
  a1 : α
  a2 : α
  a3 : α
deriving DecidableEq, Repr, Inhabited

/-- The same value in all four places. -/
def Quad.fill {α : Type} (x : α) : Quad α := ⟨x, x, x, x⟩

def Quad.get {α : Type} (q : Quad α) (i : Fin 4) : α :=
  match i with
  | 0 => q.a0
  | 1 => q.a1
  | 2 => q.a2
  | 3 => q.a3

def Quad.set {α : Type} (q : Quad α) (i : Fin 4) (x : α) : Quad α :=
  match i with
  | 0 => { q with a0 := x }
  | 1 => { q with a1 := x }
  | 2 => { q with a2 := x }
  | 3 => { q with a3 := x }

/-- Change one place by a function of what it holds. -/
def Quad.update {α : Type} (q : Quad α) (i : Fin 4) (f : α → α) : Quad α := q.set i (f (q.get i))

/-- Change every place, each by a function of its index and of what it holds. -/
def Quad.map {α β : Type} (q : Quad α) (f : Fin 4 → α → β) : Quad β :=
  ⟨f 0 q.a0, f 1 q.a1, f 2 q.a2, f 3 q.a3⟩

/-- The table whose place i holds f i. -/
def Quad.tabulate {β : Type} (f : Fin 4 → β) : Quad β := ⟨f 0, f 1, f 2, f 3⟩

def Quad.toList {α : Type} (q : Quad α) : List α := [q.a0, q.a1, q.a2, q.a3]

/-- The four indices in rising order. -/
def four : List (Fin 4) := [0, 1, 2, 3]

/-- How many places of a set of paths are members. -/
def Quad.count (q : Quad Bool) : Nat := q.toList.count true

/-- A set with no member. -/
def Quad.isEmpty (q : Quad Bool) : Bool := !(q.a0 || q.a1 || q.a2 || q.a3)

/-- Eight of one kind, indexed by station number 0 to 7. -/
structure Oct (α : Type) where
  a0 : α
  a1 : α
  a2 : α
  a3 : α
  a4 : α
  a5 : α
  a6 : α
  a7 : α
deriving DecidableEq, Repr, Inhabited

def Oct.fill {α : Type} (x : α) : Oct α := ⟨x, x, x, x, x, x, x, x⟩

def Oct.get {α : Type} (q : Oct α) (i : Fin 8) : α :=
  match i with
  | 0 => q.a0
  | 1 => q.a1
  | 2 => q.a2
  | 3 => q.a3
  | 4 => q.a4
  | 5 => q.a5
  | 6 => q.a6
  | 7 => q.a7

def Oct.set {α : Type} (q : Oct α) (i : Fin 8) (x : α) : Oct α :=
  match i with
  | 0 => { q with a0 := x }
  | 1 => { q with a1 := x }
  | 2 => { q with a2 := x }
  | 3 => { q with a3 := x }
  | 4 => { q with a4 := x }
  | 5 => { q with a5 := x }
  | 6 => { q with a6 := x }
  | 7 => { q with a7 := x }

def Oct.map {α β : Type} (q : Oct α) (f : α → β) : Oct β :=
  ⟨f q.a0, f q.a1, f q.a2, f q.a3, f q.a4, f q.a5, f q.a6, f q.a7⟩

/-- The eight station numbers in rising order. -/
def eight : List (Fin 8) := [0, 1, 2, 3, 4, 5, 6, 7]

end Sys2Proof
end

