-- ==== Sys2Proof/Syntax.lean ====
section
/-! DEFINITION. The commands of spec/opcode_table.json, one constructor a row, with the operands the
rules give each; and the records those operands are made of. -/

namespace Sys2Proof

/-- Receiver paths P0 to P3. -/
abbrev Path := Fin 4
/-- Service slots S0 to S3. -/
abbrev SlotNo := Fin 4
/-- Lane ports 0 to 3. -/
abbrev Port := Fin 4
/-- Station numbers 0 to 7. -/
abbrev Station := Fin 8

/-! ### What a front end reports -/

/-- R6. -/
inductive SymbolMode where
  | short | long
deriving DecidableEq, Repr

/-- Guard fraction 1/4, 1/8, 1/16 or 1/32 (R6). -/
inductive Guard where
  | quarter | eighth | sixteenth | thirtySecond
deriving DecidableEq, Repr

/-- Code rate 1/2, 2/3, 3/4, 5/6 or 7/8 (R6). -/
inductive CodeRate where
  | half | twoThirds | threeQuarters | fiveSixths | sevenEighths
deriving DecidableEq, Repr

/-- The signalling read complete at one frame start (R8 (3)): N as signalled, in range or not. -/
structure Signalling where
  symbolMode : SymbolMode
  guard : Guard
  codeRate : CodeRate
  n : Nat
  muxId : Half
  superframe : Fin 256
  frame : Fin 4
deriving DecidableEq, Repr

/-- The front end's own values of the three measurements, before R16 clamps them: MER in 0.1 dB,
level in dBµV, frequency offset in Hz. -/
structure Measured where
  mer : Int
  level : Int
  offset : Int
deriving DecidableEq, Repr

/-- What a frame start shows to a path in FRAME or HOLD (R8, R12): whether frame sync has been gained,
whether the outer decoder is locked, the signalling if it was read complete, and the measurements. -/
structure FrameStartRead where
  syncGained : Bool
  decoderLocked : Bool
  signalling : Option Signalling
  measured : Measured
deriving DecidableEq, Repr

/-- Outer-decode status (R21). `corrected k` is CORRECTED with k + 1 corrected bytes, so 1 to 8. -/
inductive Status where
  | clean
  | corrected (k : Fin 8)
  | uncorrectable
deriving DecidableEq, Repr

/-- The first four bytes of a packet as named fields (spec 00, 4 (6)): the sync byte, the three header
fields the part reads or writes, and the six bits it does neither read nor write. DESIGN CHOICE, safe (log 11). -/
structure Header where
  sync : Byte
  errorIndicator : Bool
  otherBits : BitVec 6
  pid : BitVec 13
  continuity : BitVec 4
deriving DecidableEq, Repr

/-- A 188-byte packet: its header and the 184 bytes after it. -/
structure Packet where
  header : Header
  body : List Byte
deriving DecidableEq, Repr

/-! ### What one load reads -/

/-- Antenna inputs A to D. -/
inductive Input where
  | a | b | c | d
deriving DecidableEq, Repr, Inhabited

inductive Bandwidth where
  | mhz6 | mhz7 | mhz8
deriving DecidableEq, Repr

inductive TieMode where
  | sticky | priority
deriving DecidableEq, Repr, Inhabited

inductive Depth where
  | d32 | d64 | d128
deriving DecidableEq, Repr

inductive Conditioning where
  | mark | null | omitting
deriving DecidableEq, Repr

/-- Block 0 as stored (Table 10-1). -/
structure IdentityFields where
  format : Byte
  mask : Quad Bool
deriving DecidableEq, Repr, Inhabited

/-- Block 1 as stored. -/
structure StationFields where
  tw : Byte
deriving DecidableEq, Repr, Inhabited

/-- A candidate block as stored; `bandwidth` is none for the code that names none of 6, 7 and 8 MHz. -/
structure CandidateFields where
  present : Bool
  input : Input
  frequency : BitVec 32
  bandwidth : Option Bandwidth
  expected : Option Half
deriving DecidableEq, Repr, Inhabited

/-- A service block as stored; `depth` and `conditioning` are none for a code that names no value. -/
structure ServiceFields where
  muxId : Half
  contributor : Quad Bool
  priority : Quad (Fin 4)
  tieMode : TieMode
  w : Byte
  port : Option Port
  lane : Fin 16
  depth : Option Depth
  conditioning : Option Conditioning
  holdSteps : Byte
deriving DecidableEq, Repr, Inhabited

/-- The 72 bits of one block in the order read: data byte 0 in the eight most significant bits, the check
byte in the eight least significant (R174, R175). -/
abbrev Block := BitVec 72

/-- The 22 blocks (Table 10-1): candidates by path and place. -/
structure Image where
  identity : Block
  station : Block
  candidates : Quad (Quad Block)
  services : Quad Block
deriving DecidableEq, Repr

/-- What the start of one LOADING takes from outside: the straps (R181), one sensor sample (R161) and
the image (R174). -/
structure BootInputs where
  straps : Station
  sensor : Int
  image : Image
deriving DecidableEq, Repr

/-- The blocks that take an interval end (Table 4-1), with the interval unit's computation of the
figures as a step of its own (R71 lets it fall before or after the fitness monitor's event). -/
inductive Taker where
  | latch | figures | ageing | fitness | thermal
deriving DecidableEq, Repr

/-- The order in which an interval end is taken: takers that act before the rest; whether its publication comes
before the reading of the thermal controller (R161), and whether before the fitness monitor's event, for none of the
takers of Table 4-1 waits for another (R65); and whether a frame that is pending by then starts before what comes behind
the publication, or behind it (R116). DESIGN CHOICE, safe (log 4). -/
structure EndOrder where
  takers : List Taker
  publishFirst : Bool
  publishBeforeFitness : Bool
  startsBetween : Bool
deriving DecidableEq, Repr

/-- A path, and the state entry whose work has completed or whose time limit has run out, by its number
(R2 (4)). DESIGN CHOICE, safe (log 35). -/
structure PathWork where
  path : Path
  work : Nat
deriving DecidableEq, Repr

/-- The moment of a step of the merge unit in µs on the station's time base. DESIGN CHOICE, safe (log 2).
`cut`: after how many resolutions the step leaves its cascade off, for an interval end to fall there (R154);
none: it takes the whole. DESIGN CHOICE, safe (log 40). -/
structure Moment where
  now : Nat
  cut : Option Nat
deriving DecidableEq, Repr

/-! ### The commands -/

/-- One constructor for each row of spec/opcode_table.json. -/
inductive Instr where
  /-- R184; `pinAsserted`: the reset pin is (or stays) asserted. -/
  | powerOnReset (pinAsserted : Bool) (boot : BootInputs)
  | endOfLoading
  /-- R5; `level` is the front end's raw estimate in dBµV. -/
  | gainSettled (a : PathWork) (level : Int)
  | modeDetected (a : PathWork) (symbolMode : SymbolMode) (guard : Guard) (codeRate : CodeRate)
  | timingSettled (a : PathWork)
  | locked (a : PathWork) (read : FrameStartRead)
  | acquisitionTimerExpiry (a : PathWork)
  | packetCompleted (p : Path) (status : Status) (packet : Packet)
  | frameStart (p : Path) (signalling : Signalling)
  | lossOfFrameSync (p : Path)
  | regained (a : PathWork) (read : FrameStartRead)
  | pathFrameEnd (p : Path) (measured : Measured)
  | stopOrder (p : Path)
  | unparkOrder (p : Path)
  | modeMismatchOrder (p : Path)
  | refusalNotice (p : Path)
  | copyArrival (p : Path) (moment : Moment)
  | entryExpiry (k : SlotNo) (moment : Moment)
  | trackingNotice (p : Path)
  | leavingNotice (p : Path) (moment : Moment)
  | parkRequest (moment : Moment)
  | unparkRequest
  | parkAcknowledgement
  | parkRefusal
  | unparkAcknowledgement
  /-- R65; `sensor`: what the sensor shows; `boot`: what a load would read, should the reading bring the
  thermal restart of R172. -/
  | intervalEnd (order : EndOrder) (sensor : Int) (boot : BootInputs)
  | publication
  | dueEvent (x : Port)
  | portServiceStateSignal (x : Port)
  | packetSeen (x : Port)
  | activityTimerExpiry (x : Port)
  /-- R97; `read` and `starts`: the four bytes and the packet-start line on the same four clocks. -/
  | readbackComparison (x : Port) (read : Header) (starts : Quad Bool)
  | packetEnd (x : Port)
  | finishedNotice (x : Port)
  | contentionNotice (x : Port)
  | electionServiceStateSignal (x : Port)
  | laneActivitySignal (x : Port)
  | settleTimerExpiry (x : Port)
  | yieldWaitExpiry (x : Port)
  | holdTimerExpiry (x : Port)
  | lineIdle
  | lineStuck
  /-- R112 (2); `cell`: the number of cells of the own frame sent before the one that read wrong. -/
  | arbitrationLoss (cell : Nat)
  /-- R112 (3); `cell` as in ARBITRATION_LOSS. -/
  | readbackFault (cell : Nat)
  | frameLeavesLine
  | announceFrame
  | claimFrame
  | releaseFrame
  | contentionFrame
  | queryFrame
  | restartFrame
  | monitorFrame
  | reportFrame
  | undefinedKindFrame
  | releasedReport (boot : BootInputs)
  | releaseLimitExpiry (boot : BootInputs)
  | monitorPacketEnd
  /-- R103, R104; `sample`: what the line reads 2 µs after the edge, true for recessive (1). -/
  | fallingEdge (sample : Bool)
  | resetPinRelease (boot : BootInputs)
deriving DecidableEq, Repr

end Sys2Proof
end

