-- ==== Sys2Proof/Decode.lean ====
section
/-! DEFINITION. The command a word spells. spec/opcode_table.json gives no row any bits (every row's
"fields" is empty): the DX-Q4 takes events, not encoded instructions, so no word spells one (log 7). -/

namespace Sys2Proof

/-- None for every word: the table gives no row bits to read. -/
def decodeTableWord (nbits w : Nat) : Option Instr :=
  match nbits, w with
  | _, _ => none

end Sys2Proof
end

