-- ==== Sys2Proof/Config.lean ====
section
/-! DEFINITION. What the manual leaves open and the part fixes: constants with no body, so that a
statement about them holds whatever they are. -/

namespace Sys2Proof

/-- The six bits of the first four bytes of a null packet that are neither sync byte, error
indicator, packet identifier nor continuity count. R93 lists what a null consists of and does not
state them; it says that every null is identical, so they are one constant. DESIGN CHOICE, safe (log 9). -/
opaque Config.nullOtherBits : BitVec 6

/-- A byte of a report page to which chapter 11 gives a place and no value (the counts beside an
absent check result, the value beside an absent fault record, the counter bytes beside an invalid
frame index). The argument is the draw, so no two draws need agree. DESIGN CHOICE, safe (log 10). -/
opaque Config.unstatedByte : Nat → Byte

/-- Whether a frame pending as the line becomes IDLE starts before the good frame that ended there is taken
(R114 (1), R116: either may come first). The argument is the draw. DESIGN CHOICE, safe (log 13). -/
opaque Config.startsFirst : Nat → Bool

/-! ### The layout of the configuration blocks

The manual gives a block as named fields with their ranges (spec 00, 4 (11)) and not the places of the
fields in its eight data bytes. Each layout is a constant function of the data bytes, data byte 0 in the
eight most significant bits: equal data give equal fields. DESIGN CHOICE, safe (log 6). -/

/-- The fields that the data bytes of block 0 spell. -/
opaque Config.identityFields : BitVec 64 → IdentityFields

/-- The fields that the data bytes of block 1 spell. -/
opaque Config.stationFields : BitVec 64 → StationFields

/-- The fields that the data bytes of a candidate block spell. -/
opaque Config.candidateFields : BitVec 64 → CandidateFields

/-- The fields that the data bytes of a service block spell. -/
opaque Config.serviceFields : BitVec 64 → ServiceFields

end Sys2Proof
end

