-- ==== Sys2Proof/Machine/State.lean ====
section
/-! DEFINITION. The state of one station: everything the manual gives the DX-Q4, as plain data, the
messages that travel between its blocks, and the queue of commands that wait. INVENTORY.md gives for
each field the rule that names it and its reset value. -/

namespace Sys2Proof.Machine

/-! ### Outcomes -/

/-- Reasons for which the block stops. There is none: the manual names no event that stops the part
(the fault set of R150 is state). -/
inductive Fault where
deriving DecidableEq, Repr

/-- Commands without a meaning. -/
inductive Refusal where
  /-- Raised by `exec` alone, for a command the model gives no meaning yet. Safe: the run stops. -/
  | notModelled (mnemonic : String)
deriving DecidableEq, Repr

/-! ### Receiver paths (chapters 1 and 2) -/

/-- Table 1-2. -/
inductive PathState where
  | parked | gain | mode | timing | frame | tracking | hold
deriving DecidableEq, Repr

/-- Last failure (Table 1-1). -/
inductive Failure where
  | noFailure | noSignal | noMode | noTiming | noFrame | wrongMux | holdExpired | modeMismatch
deriving DecidableEq, Repr

/-- One entry of a candidate list (R1). -/
structure Candidate where
  input : Input
  frequency : Nat
  bandwidth : Bandwidth
  expected : Option Half
deriving DecidableEq, Repr

/-- The working values of R6. -/
structure Detected where
  symbolMode : SymbolMode
  guard : Guard
  codeRate : CodeRate
deriving DecidableEq, Repr

/-- Decoded signalling (R17). -/
structure Decoded where
  symbolMode : SymbolMode
  guard : Guard
  codeRate : CodeRate
  n : Nat
  muxId : Half
deriving DecidableEq, Repr

/-- The three measurements, clamped (R16). -/
structure Measurement where
  mer : Nat
  level : Nat
  offset : Int
deriving DecidableEq, Repr

/-- A transmitted place (Table 2-1). -/
structure Position where
  superframe : Fin 256
  frame : Fin 4
  packet : Nat
deriving DecidableEq, Repr

/-- A packet record (Table 2-1). -/
structure Record where
  path : Path
  position : Position
  n : Nat
  status : Status
  packet : Packet
deriving DecidableEq, Repr

/-- What a path sends the merge unit (R18); a tracking notice names the stay it opens (R14). -/
inductive PathMessage where
  | record (r : Record)
  | tracking (stay : Nat)
  | leaving
deriving DecidableEq, Repr

/-- What the merge unit sends a path (R14, R15, R29). -/
inductive PathOrder where
  | refusal
  | modeMismatch (stay : Nat)
  | stop
  | unpark
deriving DecidableEq, Repr

/-- An entry of the continuity table (R30). -/
structure ContinuityEntry where
  pid : BitVec 13
  count : BitVec 4
deriving DecidableEq, Repr

/-- The interval counters of Table 2-5. -/
structure PathCounters where
  delivered : Nat
  clean : Nat
  correctedPackets : Nat
  correctedBytes : Nat
  uncorrectable : Nat
  refused : Nat
  slips : Nat
  continuityFaults : Nat
deriving DecidableEq, Repr

/-- One receiver path (Tables 1-1 and 2-5). `continuity` is in order from least to most recently seen. `work`
numbers the entries to states with a time limit (R2 (4)). DESIGN CHOICE, safe (log 35). -/
structure PathUnit where
  state : PathState
  candidateIndex : Nat
  attempts : Nat
  lastFailure : Failure
  timer : Option Nat
  run : Nat
  selection : Option Candidate
  detected : Option Detected
  measurements : Option Measurement
  decoded : Option Decoded
  counter : Option Position
  lastDelivered : Option Position
  continuity : List ContinuityEntry
  counters : PathCounters
  cumulativeUncorrectable : Nat
  stay : Nat
  work : Nat
  outbox : List PathMessage
  inbox : List PathOrder
deriving DecidableEq, Repr

/-! ### The merge unit (chapter 3) -/

/-- R38. -/
inductive ServiceState where
  | dark | live
deriving DecidableEq, Repr

/-- A copy in a copy slot (Table 3-2). -/
structure Copy where
  status : Status
  packet : Packet
deriving DecidableEq, Repr

/-- A merge entry (Table 3-2); times in µs. A copy slot stands for each path; those of paths that are no
configured contributor stay empty. -/
structure Entry where
  position : Position
  openTime : Nat
  expiryTime : Nat
  awaited : Quad Bool
  copies : Quad (Option Copy)
deriving DecidableEq, Repr

/-- Table 3-3. -/
structure ServiceCounters where
  resolved : Nat
  outputUncorrectable : Nat
  missing : Nat
  correctedBytes : Nat
  forced : Nat
  selected : Quad Nat
  unselected : Quad Nat
  late : Quad Nat
  windowPeak : Nat
  darkMark : Bool
  cumulativeMissing : Nat
  cumulativeOutputUncorrectable : Nat
deriving DecidableEq, Repr

/-- One service slot's run-time state; `window` is in order from head to tail. -/
structure Service where
  contributors : Quad Bool
  tracking : Quad Bool
  state : ServiceState
  window : List Entry
  front : Option Position
  refN : Option Nat
  lastSelected : Option Path
  counters : ServiceCounters
deriving DecidableEq, Repr

/-- What a command of the merge unit has still to do once its cascade is at its end: nothing; the opening of
an entry for the copy that forced a resolution (R45); the stop of a parked path and the acknowledgement (R56). -/
inductive AfterCascade where
  | nothing
  | opens (r : Record)
  | stops (p : Path)
deriving DecidableEq, Repr

/-- A cascade that a command has left off for an interval end to come between two of its resolutions (R154):
the service, and what comes after the cascade. DESIGN CHOICE, safe (log 40). -/
structure Cascade where
  slot : SlotNo
  rest : AfterCascade
deriving DecidableEq, Repr

/-- What the thermal controller asks of the merge unit (R165, R168). -/
inductive Request where
  | park (p : Path)
  | unpark (p : Path)
deriving DecidableEq, Repr

/-- What the merge unit answers (R56, R57). -/
inductive Answer where
  | parked (p : Path)
  | parkRefused (p : Path)
  | unparked (p : Path)
  | unparkRefused (p : Path)
deriving DecidableEq, Repr

/-! ### Lane ports (chapter 5) -/

/-- R96. -/
inductive Activity where
  | quiet | active
deriving DecidableEq, Repr

/-- Interval counters of Table 5-4. -/
structure PortCounters where
  entered : Nat
  marked : Nat
  nulled : Nat
  omitted : Nat
  overflow : Nat
  sent : Nat
  stuffed : Nat
  shadowDiscards : Nat
  contentionEvents : Nat
deriving DecidableEq, Repr

/-- The packet on the lane, and whether its readback has been judged (R97). -/
structure OnLane where
  packet : Packet
  judged : Bool
deriving DecidableEq, Repr

/-- What a port sends the election unit beside its activity signals (R95, R97). -/
inductive PortNotice where
  | finished
  | contention
deriving DecidableEq, Repr

/-- One lane port with its rate smoother; `fifo` is in order from head to tail. -/
structure PortUnit where
  fifo : List Packet
  peak : Nat
  rEst : Option Nat
  rOut : Option Nat
  due : Option Nat
  recorded : ServiceState
  driversOn : Bool
  onLane : Option OnLane
  finishOrder : Bool
  mismatch : Nat
  sensing : Bool
  activity : Activity
  activityTimer : Option Nat
  counters : PortCounters
  notices : List PortNotice
  activitySignals : List Activity
deriving DecidableEq, Repr

/-! ### The interval unit (chapter 4) -/

structure PathPart where
  counters : PathCounters
  cumulativeUncorrectable : Nat
deriving DecidableEq, Repr

structure ServicePart where
  counters : ServiceCounters
  tracking : Quad Bool
deriving DecidableEq, Repr

structure FigurePart where
  mer : Nat
  p : Nat
  u : Nat
  c : Nat
  sf : Nat
deriving DecidableEq, Repr

structure PortPart where
  counters : PortCounters
  peak : Nat
  fill : Nat
  rEst : Option Nat
  rOut : Option Nat
  activity : Activity
deriving DecidableEq, Repr

/-- An interval snapshot (Table 4-2); a service part is none for a slot marked unconfigured, a figure
part none while it is empty. `mers` holds each path's MER as it stood at the latch (R67 (4)). -/
structure Snapshot where
  paths : Quad PathPart
  mers : Quad (Option Nat)
  services : Quad (Option ServicePart)
  figures : Quad (Option FigurePart)
  ports : Quad PortPart
deriving DecidableEq, Repr

/-- R65, R68, R76. `latched`: the working snapshot awaits its publication. `figured`: its figure parts
have been filled. -/
structure IntervalUnit where
  running : Bool
  working : Option Snapshot
  latched : Bool
  figured : Bool
  published : Snapshot
deriving DecidableEq, Repr

/-! ### The Coordination Line controller (chapter 6) -/

/-- A frame without its start cell, length field and check, which follow from it (Table 6-1). -/
structure Frame where
  kind : Fin 16
  station : Station
  body : List Byte
deriving DecidableEq, Repr

/-- R104. -/
inductive LineState where
  | idle | busy | stuck
deriving DecidableEq, Repr

/-- R109: nothing being received, a noise pulse, or the cells collected so far (true reads 1). -/
inductive Reception where
  | off
  | noise
  | collecting (cells : List Bool)
deriving DecidableEq, Repr

/-- The six transmit slots (Table 6-5). -/
inductive TxSlot where
  | lane (x : Port)
  | announce
  | report
deriving DecidableEq, Repr

/-- A frame placed in a slot, with the number that tells it from every other (R190). DESIGN CHOICE, safe (log 31). -/
structure PlacedFrame where
  frame : Frame
  serial : Nat
deriving DecidableEq, Repr

structure TxSlots where
  lane : Quad (Option PlacedFrame)
  announce : Option PlacedFrame
  report : Option PlacedFrame
deriving DecidableEq, Repr

/-- The frame in flight. `withdrawn`: R116 (2) has been answered for it. `ended`: its end has come and
it is about to leave the line (R113). -/
structure Flight where
  slot : TxSlot
  placed : PlacedFrame
  withdrawn : Bool
  ended : Bool
deriving DecidableEq, Repr

/-- Table 6-6. -/
structure LineCounters where
  badCheck : Nat
  truncated : Nat
  badLength : Nat
  badField : Nat
  numberClashes : Nat
  arbitrationLosses : Nat
  readbackFaults : Nat
  stuckEpisodes : Nat
deriving DecidableEq, Repr

structure LineUnit where
  state : LineState
  reception : Reception
  slots : TxSlots
  retry : Option TxSlot
  flight : Option Flight
  heard : List Frame
  counters : LineCounters
  serial : Nat
deriving DecidableEq, Repr

/-! ### The election unit (chapter 7) -/

/-- Table 7-2. -/
inductive LaneState where
  | disabled | released | claiming | driving | holding | backoff
deriving DecidableEq, Repr

/-- Reset causes (Table 6-4). -/
inductive Cause where
  | powerOn | lineRestart | thermal
deriving DecidableEq, Repr

/-- Finish marks (R125 (6)). -/
inductive FinishMark where
  | handover | dark | restart
deriving DecidableEq, Repr

/-- The settle timer and the yield wait (R125 (3)), with their limits in ms. -/
inductive Countdown where
  | stopped
  | running (ms : Nat)
  | expired
deriving DecidableEq, Repr

/-- A service record of an ANNOUNCE (Table 6-4); no lane is FF hex. -/
structure ServiceRecord where
  muxId : Half
  sf : Nat
  lane : Option (Fin 16)
  state : LaneState
deriving DecidableEq, Repr

/-- A present entry of the peer view (Table 7-1). -/
structure PeerEntry where
  age : Nat
  fitnessFaults : Byte
  cause : Cause
  records : List ServiceRecord
deriving DecidableEq, Repr

/-- What the election unit holds for one port (R125, R145). -/
structure PortElection where
  lane : LaneState
  challenge : Nat
  settle : Countdown
  yieldWait : Countdown
  holdTimer : Option Nat
  backoff : Nat
  mark : Option FinishMark
  slotMark : Bool
  conflict : Bool
  refused : Nat
  service : ServiceState
  activity : Activity
  releaseOut : Bool
deriving DecidableEq, Repr

structure ElectionUnit where
  ports : Quad PortElection
  peers : Oct (Option PeerEntry)
  lineStuck : Bool
  restarting : Bool
  reported : Bool
deriving DecidableEq, Repr

/-! ### Fitness monitor (chapter 8) and thermal controller (chapter 9) -/

/-- R147. -/
inductive Fitness where
  | listen | fit | unfit | unconfigured
deriving DecidableEq, Repr

/-- Table 8-3. -/
structure FaultSet where
  mergeCheck : Bool
  configCheck : Bool
  lineStuck : Bool
  loadCorrected : Bool
  loadFailed : Bool
  thermalShed : Bool
deriving DecidableEq, Repr

/-- A concluded interval's check (Table 8-1). -/
structure CheckResult where
  slot : SlotNo
  checked : Nat
  mismatches : Nat
deriving DecidableEq, Repr

structure FitnessUnit where
  state : Fitness
  listenCount : Nat
  faults : FaultSet
  underCheck : Option SlotNo
  checked : Nat
  mismatches : Nat
  lastResult : Option CheckResult
  mergeFault : Option (SlotNo × Nat)
  checkValue : Option Half
  configFault : Option Half
deriving DecidableEq, Repr

/-- Table 9-1. `stack` has its top first; its length is the shed level (R166). -/
structure ThermalUnit where
  reading : Int
  shutdown : Bool
  stack : List Path
  spacing : Nat
  cool : Nat
  outstanding : Option Request
  recovery : Nat
deriving DecidableEq, Repr

/-! ### Configuration and loader (chapter 10) -/

/-- A configured service slot (Table 3-1); `priority` matters for contributors only. -/
structure ServiceConfig where
  muxId : Half
  contributors : Quad Bool
  priority : Quad (Fin 4)
  tieMode : TieMode
  w : Nat
  port : Option Port
deriving DecidableEq, Repr

/-- A bound port (Table 5-1); `hold` in ms. -/
structure PortConfig where
  slot : SlotNo
  lane : Fin 16
  depth : Nat
  conditioning : Conditioning
  hold : Nat
deriving DecidableEq, Repr

/-- The working configuration (R156). -/
structure Config where
  tw : Nat
  candidates : Quad (List Candidate)
  services : Quad (Option ServiceConfig)
  ports : Quad (Option PortConfig)
deriving DecidableEq, Repr

/-- The raw configuration (R174): each block's fields, none where the block failed or was not read. -/
structure RawConfig where
  identity : Option IdentityFields
  station : Option StationFields
  candidates : Quad (Quad (Option CandidateFields))
  services : Quad (Option ServiceFields)
deriving DecidableEq, Repr

/-- R177; `notes` saturates at 255. -/
structure LoadRecord where
  memoryAnswered : Bool
  corrected : List Nat
  failed : List Nat
  notes : Nat
deriving DecidableEq, Repr

/-- Held in reset (R184), in LOADING (R181), or started (R182). -/
inductive Phase where
  | held | loading | running
deriving DecidableEq, Repr

structure LoaderUnit where
  phase : Phase
  stationNumber : Station
  cause : Cause
  restartCount : Nat
  record : LoadRecord
  raw : RawConfig
  releasing : Bool
  releaseLimit : Option Nat
  releasedReport : Bool
deriving DecidableEq, Repr

/-! ### Report responder and monitor output (chapter 11) -/

/-- A reply in progress: its page, its whole content, the index of the part placed last and the serial
of the frame that carries that part. -/
structure Reply where
  page : Nat
  content : List Byte
  part : Nat
  serial : Nat
deriving DecidableEq, Repr

/-- R194. -/
inductive MonitorSource where
  | off
  | path (p : Path)
  | port (x : Port)
deriving DecidableEq, Repr

structure MonitorUnit where
  source : MonitorSource
  current : Option Packet
  queue : List Packet
deriving DecidableEq, Repr

/-! ### The whole station -/

structure State where
  /-- The commands that wait, first in first out. -/
  pending : List Instr
  loader : LoaderUnit
  config : Config
  /-- The moment, in µs on the station's time base. -/
  now : Nat
  paths : Quad PathUnit
  services : Quad Service
  /-- The stay each path's last tracking notice named. -/
  mergeStays : Quad Nat
  /-- The cascade left off, none where the merge unit has finished what it took. -/
  cascading : Option Cascade
  requests : List Request
  answers : List Answer
  /-- Service-state signals on their way to each port. -/
  portSignals : Quad (List ServiceState)
  /-- Service-state signals on their way to the election unit, by port. -/
  electionSignals : Quad (List ServiceState)
  interval : IntervalUnit
  ports : Quad PortUnit
  line : LineUnit
  election : ElectionUnit
  fitness : FitnessUnit
  thermal : ThermalUnit
  reply : Option Reply
  monitor : MonitorUnit
  /-- How many free values have been drawn. DESIGN CHOICE, safe (logs 10 and 13). -/
  freeDraws : Nat
deriving DecidableEq, Repr

/-! ### The state after reset -/

def PathCounters.zero : PathCounters := ⟨0, 0, 0, 0, 0, 0, 0, 0⟩

/-- R19, R35. -/
def PathUnit.reset : PathUnit where
  state := .parked
  candidateIndex := 0
  attempts := 0
  lastFailure := .noFailure
  timer := none
  run := 0
  selection := none
  detected := none
  measurements := none
  decoded := none
  counter := none
  lastDelivered := none
  continuity := []
  counters := .zero
  cumulativeUncorrectable := 0
  stay := 0
  work := 0
  outbox := []
  inbox := []

/-- R64: every count 0, the dark mark set. -/
def ServiceCounters.reset : ServiceCounters where
  resolved := 0
  outputUncorrectable := 0
  missing := 0
  correctedBytes := 0
  forced := 0
  selected := .fill 0
  unselected := .fill 0
  late := .fill 0
  windowPeak := 0
  darkMark := true
  cumulativeMissing := 0
  cumulativeOutputUncorrectable := 0

/-- R64, with an empty contributor set: no slot is configured during LOADING. -/
def Service.reset : Service where
  contributors := .fill false
  tracking := .fill false
  state := .dark
  window := []
  front := none
  refN := none
  lastSelected := none
  counters := .reset

def PortCounters.zero : PortCounters := ⟨0, 0, 0, 0, 0, 0, 0, 0, 0⟩

/-- R101. -/
def PortUnit.reset : PortUnit where
  fifo := []
  peak := 0
  rEst := none
  rOut := none
  due := none
  recorded := .dark
  driversOn := false
  onLane := none
  finishOrder := false
  mismatch := 0
  sensing := false
  activity := .quiet
  activityTimer := none
  counters := .zero
  notices := []
  activitySignals := []

/-- The port part of an unbound port (R99), and of every port in the reset snapshot (R79). -/
def PortPart.zero : PortPart := ⟨.zero, 0, 0, none, none, .quiet⟩

/-- The reset snapshot before the services are known (R79 (3)). -/
def Snapshot.reset : Snapshot where
  paths := .fill ⟨.zero, 0⟩
  mers := .fill none
  services := .fill none
  figures := .fill none
  ports := .fill .zero

/-- R79. -/
def IntervalUnit.reset : IntervalUnit where
  running := false
  working := none
  latched := false
  figured := false
  published := .reset

def TxSlots.empty : TxSlots := ⟨.fill none, none, none⟩

def LineCounters.zero : LineCounters := ⟨0, 0, 0, 0, 0, 0, 0, 0⟩

/-- R119. -/
def LineUnit.reset : LineUnit where
  state := .busy
  reception := .off
  slots := .empty
  retry := none
  flight := none
  heard := []
  counters := .zero
  serial := 0

/-- R145. -/
def PortElection.reset : PortElection where
  lane := .disabled
  challenge := 0
  settle := .stopped
  yieldWait := .stopped
  holdTimer := none
  backoff := 0
  mark := none
  slotMark := false
  conflict := false
  refused := 0
  service := .dark
  activity := .active
  releaseOut := false

/-- R120, R145. -/
def ElectionUnit.reset : ElectionUnit where
  ports := .fill .reset
  peers := .fill none
  lineStuck := false
  restarting := false
  reported := false

def FaultSet.empty : FaultSet := ⟨false, false, false, false, false, false⟩

/-- R147, R150, Table 8-4. -/
def FitnessUnit.reset : FitnessUnit where
  state := .listen
  listenCount := 0
  faults := .empty
  underCheck := none
  checked := 0
  mismatches := 0
  lastResult := none
  mergeFault := none
  checkValue := none
  configFault := none

/-- R173; the reading stands until the sample of the start of LOADING replaces it. -/
def ThermalUnit.reset : ThermalUnit where
  reading := 0
  shutdown := false
  stack := []
  spacing := 4
  cool := 0
  outstanding := none
  recovery := 0

/-- No slot configured (R64), no port bound (R101). -/
def Config.reset : Config where
  tw := 105
  candidates := .fill []
  services := .fill none
  ports := .fill none

def RawConfig.reset : RawConfig := ⟨none, none, .fill (.fill none), .fill none⟩

/-- R183: a power-on reset sets the record to POWER_ON with count 0. -/
def LoaderUnit.reset : LoaderUnit where
  phase := .held
  stationNumber := 0
  cause := .powerOn
  restartCount := 0
  record := ⟨true, [], [], 0⟩
  raw := .reset
  releasing := false
  releaseLimit := none
  releasedReport := false

/-- R195. -/
def MonitorUnit.reset : MonitorUnit := ⟨.off, none, []⟩

/-- The station in power-on reset, before LOADING begins (R184). DESIGN CHOICE, safe (log 7); the values the manual
leaves open: DESIGN CHOICE, unsafe (log 8). -/
def State.reset : State where
  pending := []
  loader := .reset
  config := .reset
  now := 0
  paths := .fill .reset
  services := .fill .reset
  mergeStays := .fill 0
  cascading := none
  requests := []
  answers := []
  portSignals := .fill []
  electionSignals := .fill []
  interval := .reset
  ports := .fill .reset
  line := .reset
  election := .reset
  fitness := .reset
  thermal := .reset
  reply := none
  monitor := .reset
  freeDraws := 0

end Sys2Proof.Machine
end

