-- ==== Sys2Proof/Machine/Operands.lean ====
section
/-! DEFINITION. Arithmetic on the values that commands carry and counters hold: saturation, clamping,
positions and their comparison, ranks, the codes of Table 6-4 and of the report pages. -/

namespace Sys2Proof
namespace Machine

/-! ### Counters and clamps -/

/-- An increase of a saturating counter (R32, R62, R99, R117). -/
def satAdd (limit x d : Nat) : Nat := min (x + d) limit

/-- A 16-bit counter raised by one. -/
def inc16 (x : Nat) : Nat := satAdd 65535 x 1

/-- A 32-bit counter raised by one. -/
def inc32 (x : Nat) : Nat := satAdd 4294967295 x 1

/-- clamp(x, lo, hi) of spec 00, 4 (4). -/
def clampInt (x lo hi : Int) : Int := max lo (min x hi)

/-- A clamp to a range of natural numbers. -/
def clampNat (x : Int) (lo hi : Nat) : Nat := (clampInt x lo hi).toNat

/-! ### Measurements (R16) -/

end Machine
def Measured.clamped (m : Measured) : Machine.Measurement where
  mer := Machine.clampNat m.mer 0 400
  level := Machine.clampNat m.level 20 100
  offset := Machine.clampInt m.offset (-100000) 100000
namespace Machine

/-! ### Positions (R22, R26, R27) -/

/-- The counter's advance by one packet (R22). -/
def Position.next (n : Nat) (q : Position) : Position :=
  if q.packet + 1 < n then { q with packet := q.packet + 1 }
  else if q.frame < 3 then { q with frame := q.frame + 1, packet := 0 }
  else { superframe := q.superframe + 1, frame := 0, packet := 0 }

/-- M = 1024 × N (R26). -/
def modulus (n : Nat) : Nat := 1024 * n

/-- R26. -/
def ordinal (n : Nat) (q : Position) : Nat := (q.superframe.val * 4 + q.frame.val) * n + q.packet

/-- d = (a − b) mod M of R27. -/
def distance (n : Nat) (a b : Position) : Nat :=
  (ordinal n a + (modulus n - ordinal n b % modulus n)) % modulus n

/-- R27 (1). -/
def samePosition (n : Nat) (a b : Position) : Bool := distance n a b == 0

/-- R27 (2). -/
def newer (n : Nat) (a b : Position) : Bool :=
  decide (1 ≤ distance n a b) && decide (distance n a b < modulus n / 2)

/-- Whether a signalled N can lock a path (R8 (3)). -/
def frameSizeOk (n : Nat) : Bool := decide (64 ≤ n) && decide (n ≤ 8192)

/-! ### Statuses (R21, R51) -/

end Machine
/-- Corrected bytes a status carries. -/
def Status.correctedBytes : Status → Nat
  | .clean => 0
  | .corrected k => k.val + 1
  | .uncorrectable => 0

/-- The ranking of R51, best first: CLEAN 0, CORRECTED 1 to 8 by its count, UNCORRECTABLE 9. -/
def Status.rank : Status → Nat
  | .clean => 0
  | .corrected k => k.val + 1
  | .uncorrectable => 9
namespace Machine

/-! ### Codes (Table 6-4, Tables 11-2 to 11-4) -/

def Fitness.code : Fitness → Nat
  | .listen => 0
  | .fit => 1
  | .unfit => 2
  | .unconfigured => 3

def Cause.code : Cause → Nat
  | .powerOn => 0
  | .lineRestart => 1
  | .thermal => 2

def Cause.ofCode (n : Nat) : Option Cause :=
  match n with
  | 0 => some .powerOn
  | 1 => some .lineRestart
  | 2 => some .thermal
  | _ => none

def LaneState.code : LaneState → Nat
  | .disabled => 0
  | .released => 1
  | .claiming => 2
  | .driving => 3
  | .holding => 4
  | .backoff => 5

def LaneState.ofCode (n : Nat) : Option LaneState :=
  match n with
  | 0 => some .disabled
  | 1 => some .released
  | 2 => some .claiming
  | 3 => some .driving
  | 4 => some .holding
  | 5 => some .backoff
  | _ => none

/-- RELEASE reasons: HANDOVER, DARK, UNFIT, RESTART. -/
inductive ReleaseReason where
  | handover | dark | unfit | restart
deriving DecidableEq, Repr

def ReleaseReason.code : ReleaseReason → Nat
  | .handover => 0
  | .dark => 1
  | .unfit => 2
  | .restart => 3

/-- The reason a finish mark gives its RELEASE (R137 (3), R142). -/
def FinishMark.reason : FinishMark → ReleaseReason
  | .handover => .handover
  | .dark => .dark
  | .restart => .restart

def PathState.code : PathState → Nat
  | .parked => 0
  | .gain => 1
  | .mode => 2
  | .timing => 3
  | .frame => 4
  | .tracking => 5
  | .hold => 6

def Failure.code : Failure → Nat
  | .noFailure => 0
  | .noSignal => 1
  | .noMode => 2
  | .noTiming => 3
  | .noFrame => 4
  | .wrongMux => 5
  | .holdExpired => 6
  | .modeMismatch => 7

end Machine
def SymbolMode.code : SymbolMode → Nat
  | .short => 0
  | .long => 1

def Guard.code : Guard → Nat
  | .quarter => 0
  | .eighth => 1
  | .sixteenth => 2
  | .thirtySecond => 3

def CodeRate.code : CodeRate → Nat
  | .half => 0
  | .twoThirds => 1
  | .threeQuarters => 2
  | .fiveSixths => 3
  | .sevenEighths => 4

def Input.code : Input → Nat
  | .a => 0
  | .b => 1
  | .c => 2
  | .d => 3

def Bandwidth.mhz : Bandwidth → Nat
  | .mhz6 => 6
  | .mhz7 => 7
  | .mhz8 => 8

def TieMode.code : TieMode → Nat
  | .sticky => 0
  | .priority => 1

def Depth.packets : Depth → Nat
  | .d32 => 32
  | .d64 => 64
  | .d128 => 128

def Conditioning.code : Conditioning → Nat
  | .mark => 0
  | .null => 1
  | .omitting => 2
namespace Machine

def LineState.code : LineState → Nat
  | .idle => 0
  | .busy => 1
  | .stuck => 2

def Activity.code : Activity → Nat
  | .quiet => 0
  | .active => 1

/-- MONITOR source bytes (Table 6-4); none above 8. -/
def MonitorSource.ofCode (n : Nat) : Option MonitorSource :=
  match n with
  | 0 => some .off
  | 1 => some (.path 0)
  | 2 => some (.path 1)
  | 3 => some (.path 2)
  | 4 => some (.path 3)
  | 5 => some (.port 0)
  | 6 => some (.port 1)
  | 7 => some (.port 2)
  | 8 => some (.port 3)
  | _ => none

/-! ### Numbers as bytes, most significant first -/

def byte (n : Nat) : Byte := BitVec.ofNat 8 n

def bytes2 (n : Nat) : List Byte := [byte (n / 256), byte n]

def bytes3 (n : Nat) : List Byte := [byte (n / 65536), byte (n / 256), byte n]

def bytes4 (n : Nat) : List Byte := [byte (n / 16777216), byte (n / 65536), byte (n / 256), byte n]

/-- Two's complement in `w` bits as a natural number. -/
def twosComplement (w : Nat) (x : Int) : Nat := (BitVec.ofInt w x).toNat

/-- A flag as a byte. -/
def flagByte (b : Bool) : Byte := if b then 1 else 0

/-- A reading as it goes into a frame or page: clamped to −128 to +127 (R107). -/
def temperatureByte (reading : Int) : Byte := byte (twosComplement 8 (clampInt reading (-128) 127))

/-! ### Taking one message out of a list -/

/-- The first element that `f` accepts, with the list less that element. -/
def takeFirst {α β : Type} (f : α → Option β) : List α → Option (β × List α)
  | [] => none
  | x :: xs =>
    match f x with
    | some b => some (b, xs)
    | none =>
      match takeFirst f xs with
      | some (b, rest) => some (b, x :: rest)
      | none => none

end Machine
end Sys2Proof
end

