-- ==== Sys2Proof/Machine/Flags.lean ====
section
/-! DEFINITION. The fault set as flags, and the fitness and faults byte of Table 6-4. -/

namespace Sys2Proof.Machine

/-- Bits 7 and 6 the fitness, bits 5 to 0 the fault flags (Table 6-4). -/
def fitnessFaultsByte (f : Fitness) (e : FaultSet) : Byte :=
  byte (f.code * 64 + e.mergeCheck.toNat * 32 + e.configCheck.toNat * 16 + e.lineStuck.toNat * 8
    + e.loadCorrected.toNat * 4 + e.loadFailed.toNat * 2 + e.thermalShed.toNat)

/-- R151 (1): LINE_STUCK follows the line controller's signal. -/
def FitnessUnit.signalLine (f : FitnessUnit) (stuck : Bool) : FitnessUnit :=
  { f with faults := { f.faults with lineStuck := stuck } }

/-- R151 (2): THERMAL_SHED follows the thermal controller's signal. -/
def FitnessUnit.signalShed (f : FitnessUnit) (shedding : Bool) : FitnessUnit :=
  { f with faults := { f.faults with thermalShed := shedding } }

/-- R150: what the loader's outcome adds at the end of LOADING. -/
def FaultSet.withLoad (e : FaultSet) (corrected failed : Bool) : FaultSet :=
  { e with loadCorrected := e.loadCorrected || corrected, loadFailed := e.loadFailed || failed }

end Sys2Proof.Machine
end

