-- ==== Sys2Proof/Machine/Ops.lean ====
section
/-! DEFINITION. The named operations over the state: reading and changing one path, service, port or
port's election, and sending a message from one block to another. Messages wait in the state until a
command takes them. DESIGN CHOICE, safe (log 1). -/

namespace Sys2Proof.Machine

/-! ### One of four -/

def State.path (s : State) (p : Path) : PathUnit := s.paths.get p
def State.service (s : State) (k : SlotNo) : Service := s.services.get k
def State.port (s : State) (x : Port) : PortUnit := s.ports.get x
def State.elect (s : State) (x : Port) : PortElection := s.election.ports.get x

def State.updPath (s : State) (p : Path) (f : PathUnit → PathUnit) : State :=
  { s with paths := s.paths.update p f }

def State.updService (s : State) (k : SlotNo) (f : Service → Service) : State :=
  { s with services := s.services.update k f }

def State.updPort (s : State) (x : Port) (f : PortUnit → PortUnit) : State :=
  { s with ports := s.ports.update x f }

def State.updElect (s : State) (x : Port) (f : PortElection → PortElection) : State :=
  { s with election := { s.election with ports := s.election.ports.update x f } }

/-- The configuration of a slot, none when it is unconfigured (R36). -/
def State.slotConfig (s : State) (k : SlotNo) : Option ServiceConfig := s.config.services.get k

/-- The configuration of a port, none when it is unbound (R80). -/
def State.portConfig (s : State) (x : Port) : Option PortConfig := s.config.ports.get x

/-! ### Where the station stands -/

/-- The station works: LOADING has ended and the run state is RUNNING. -/
def State.working (s : State) : Bool := s.loader.phase == .running && !s.thermal.shutdown

/-- The merge unit's moment of a step; time does not run backwards. DESIGN CHOICE, safe (log 2). -/
def State.tickTo (s : State) (now : Nat) : State := { s with now := max s.now now }

/-! ### Messages -/

/-- R18: a path's records and notices keep their order. -/
def State.sendMerge (s : State) (p : Path) (m : PathMessage) : State :=
  s.updPath p fun u => { u with outbox := u.outbox ++ [m] }

def State.sendPath (s : State) (p : Path) (o : PathOrder) : State :=
  s.updPath p fun u => { u with inbox := u.inbox ++ [o] }

def State.sendElection (s : State) (x : Port) (m : PortNotice) : State :=
  s.updPort x fun u => { u with notices := u.notices ++ [m] }

/-- R38: a change of service state is signalled to the bound port and to the election unit. -/
def State.signalService (s : State) (x : Port) (v : ServiceState) : State :=
  { s with
    portSignals := s.portSignals.update x (· ++ [v])
    electionSignals := s.electionSignals.update x (· ++ [v]) }

/-! ### The monitor output (R194, R195) -/

/-- An offered packet starts at once, joins the queue, or is not sent. -/
def MonitorUnit.offer (m : MonitorUnit) (q : Packet) : MonitorUnit :=
  match m.current with
  | none => { m with current := some q }
  | some _ => if m.queue.length < 2 then { m with queue := m.queue ++ [q] } else m

/-- R194: what a source offers when it is the monitor source. -/
def State.offerFrom (s : State) (src : MonitorSource) (q : Packet) : State :=
  if s.monitor.source = src then { s with monitor := s.monitor.offer q } else s

end Sys2Proof.Machine
end

