-- ==== Sys2Proof/Machine/Paths.lean ====
section
/-! DEFINITION. The receiver paths (chapters 1 and 2): entries to the states, failure, delivery of a
record, and the meanings of the commands a path takes. -/

namespace Sys2Proof.Machine

/-- What a meaning answers. -/
abbrev Answered := Host.Outcome State Fault Refusal

/-! ### Entries and failure -/

/-- The current candidate of a path, none when its list is empty (R1). -/
def State.candidate (s : State) (p : Path) : Option Candidate :=
  (s.config.candidates.get p)[(s.path p).candidateIndex]?

/-- Whether the current candidate expects another multiplex identifier (R8, R11 (3), R12). -/
def State.wrongMux (s : State) (p : Path) (muxId : Half) : Bool :=
  match (s.candidate p).bind Candidate.expected with
  | some e => e != muxId
  | none => false

/-- Entry to a state with a time limit (R2 (1)): its work gets the next number, by which its completion and
the expiry of its limit are told from those of work that has been left (R2 (4)).
DESIGN CHOICE, safe (log 35). -/
def PathUnit.startWork (u : PathUnit) (st : PathState) (limit : Nat) : PathUnit :=
  { u with state := st, timer := some limit, work := u.work + 1 }

/-- Entry to GAIN (R4, R2 (1), R23); it clears the working values of MODE: DESIGN CHOICE, safe (log 21). -/
def enterGain (s : State) (p : Path) : State :=
  s.updPath p fun u =>
    { u.startWork .gain 20 with
      selection := s.candidate p
      measurements := none
      decoded := none
      detected := none
      counter := none
      run := 0 }

/-- Failure (R13); the entry to GAIN leaves attempts and last failure alone (R4). -/
def takeFailure (s : State) (p : Path) (reason : Failure) : State :=
  let u := s.path p
  let noted := s.updPath p fun u => { u with lastFailure := reason }
  let told := if u.state = .tracking then noted.sendMerge p .leaving else noted
  let counted :=
    if u.attempts + 1 < 2 then told.updPath p fun u => { u with attempts := u.attempts + 1 }
    else told.updPath p fun u =>
      { u with
        candidateIndex :=
          if u.candidateIndex + 1 < (s.config.candidates.get p).length then u.candidateIndex + 1 else 0
        attempts := 0 }
  enterGain counted p

/-- Entry to TRACKING (R9, R23, R25, R30), with the signalling and measurements of the frame start.
Stays are numbered: DESIGN CHOICE, safe (log 23). -/
def enterTracking (s : State) (p : Path) (g : Signalling) (m : Measured) : State :=
  s.updPath p fun u =>
    { u with
      state := .tracking
      timer := none
      run := 0
      detected := some ⟨g.symbolMode, g.guard, g.codeRate⟩
      decoded := some ⟨g.symbolMode, g.guard, g.codeRate, g.n, g.muxId⟩
      measurements := some m.clamped
      counter := some ⟨g.superframe, g.frame, 0⟩
      lastDelivered := none
      continuity := []
      stay := u.stay + 1
      outbox := u.outbox ++ [.tracking (u.stay + 1)] }

/-- Entry to HOLD (R12, R23). -/
def enterHold (s : State) (p : Path) : State :=
  s.updPath p fun u =>
    { u.startWork .hold 300 with
      counter := u.lastDelivered <|> u.counter
      outbox := u.outbox ++ [.leaving] }

/-- What a stop does to a path (R15, R3, R23); in PARKED nothing. -/
def PathUnit.stopped (u : PathUnit) : PathUnit :=
  if u.state = .parked then u
  else
    { u with
      state := .parked
      timer := none
      selection := none
      measurements := none
      decoded := none
      detected := none
      counter := none
      outbox := if u.state = .tracking then u.outbox ++ [.leaving] else u.outbox }

/-! ### Delivery -/

/-- The counts of one record (R28, R32). -/
def PathCounters.count (c : PathCounters) (st : Status) : PathCounters :=
  let d := { c with delivered := inc16 c.delivered }
  match st with
  | .clean => { d with clean := inc16 c.clean }
  | .corrected k =>
    { d with
      correctedPackets := inc16 c.correctedPackets
      correctedBytes := satAdd 1048575 c.correctedBytes (k.val + 1) }
  | .uncorrectable => { d with uncorrectable := inc16 c.uncorrectable }

/-- The continuity table after a record that takes part, and whether it shows a fault (R30, R31). -/
def continuityTake (table : List ContinuityEntry) (pid : BitVec 13) (c : BitVec 4) :
    List ContinuityEntry × Bool :=
  match takeFirst (fun e : ContinuityEntry => if e.pid = pid then some e.count else none) table with
  | some (e, rest) => (rest ++ [⟨pid, c⟩], c != e + 1)
  | none => ((if table.length < 8 then table else table.tail) ++ [⟨pid, c⟩], false)

/-- Whether a record takes part in the continuity check (R30). -/
def takesPart (st : Status) (q : Packet) : Bool := st != .uncorrectable && q.header.pid != 8191#13

/-- The path after it has delivered a record (R10, R25 (1), R28, R30, R31). -/
def PathUnit.delivered (u : PathUnit) (r : Record) : PathUnit :=
  let counted := u.counters.count r.status
  let checked := continuityTake u.continuity r.packet.header.pid r.packet.header.continuity
  let part := takesPart r.status r.packet
  { u with
    lastDelivered := some r.position
    counters :=
      if part && checked.2 then { counted with continuityFaults := inc16 counted.continuityFaults }
      else counted
    continuity := if part then checked.1 else u.continuity
    cumulativeUncorrectable :=
      if r.status = .uncorrectable then inc32 u.cumulativeUncorrectable else u.cumulativeUncorrectable
    run := if r.status = .uncorrectable then u.run + 1 else 0
    outbox := u.outbox ++ [.record r] }

/-- Delivery of one record to the merge unit and to the monitor output, and the departure that a run
of 24 brings (R10, R20, R194). -/
def deliver (s : State) (p : Path) (r : Record) : State :=
  let sent := (s.updPath p fun u => u.delivered r).offerFrom (.path p) r.packet
  if 24 ≤ (sent.path p).run then enterHold sent p else sent

/-! ### Meanings -/

/-- Whether a path is in a state and still does the work that a completion or an expiry names (R2 (4)). -/
def State.worksAt (s : State) (a : PathWork) (st : PathState) : Bool :=
  (s.path a.path).state == st && (s.path a.path).work == a.work

/-- GAIN_SETTLED (R5). -/
def execGainSettled (a : PathWork) (level : Int) (s : State) : Answered :=
  if s.worksAt a .gain ∧ 30 ≤ level then .next (s.updPath a.path fun u => u.startWork .mode 150)
  else .next s

/-- MODE_DETECTED (R6). -/
def execModeDetected (a : PathWork) (symbolMode : SymbolMode) (guard : Guard) (codeRate : CodeRate)
    (s : State) : Answered :=
  if s.worksAt a .mode then
    .next (s.updPath a.path fun u =>
      { u.startWork .timing 100 with detected := some ⟨symbolMode, guard, codeRate⟩ })
  else .next s

/-- TIMING_SETTLED (R7). -/
def execTimingSettled (a : PathWork) (s : State) : Answered :=
  if s.worksAt a .timing then .next (s.updPath a.path fun u => u.startWork .frame 400)
  else .next s

/-- The signalling of a frame start that was read complete (R8 (3)). -/
def completeSignalling (r : FrameStartRead) : Option Signalling :=
  r.signalling.bind fun g => if frameSizeOk g.n then some g else none

/-- What a path does with a complete signalling read on locking or regaining (R8, R12). -/
def acceptSignalling (s : State) (p : Path) (g : Signalling) (m : Measured) : State :=
  if s.wrongMux p g.muxId then takeFailure s p .wrongMux else enterTracking s p g m

/-- LOCKED (R8). -/
def execLocked (a : PathWork) (read : FrameStartRead) (s : State) : Answered :=
  match completeSignalling read with
  | some g =>
    if s.worksAt a .frame ∧ read.syncGained ∧ read.decoderLocked then
      .next (acceptSignalling s a.path g read.measured)
    else .next s
  | none => .next s

/-- REGAINED (R12). -/
def execRegained (a : PathWork) (read : FrameStartRead) (s : State) : Answered :=
  match completeSignalling read with
  | some g =>
    if s.worksAt a .hold ∧ read.syncGained then .next (acceptSignalling s a.path g read.measured)
    else .next s
  | none => .next s

/-- The failure a state's time limit brings (Table 1-2); none in PARKED and TRACKING. -/
def PathState.expiryFailure : PathState → Option Failure
  | .parked => none
  | .gain => some .noSignal
  | .mode => some .noMode
  | .timing => some .noTiming
  | .frame => some .noFrame
  | .tracking => none
  | .hold => some .holdExpired

/-- ACQUISITION_TIMER_EXPIRY (R2 (3), (4)): an expiry of a stopped timer, or of a state that has been left,
has no effect. -/
def execAcquisitionTimerExpiry (a : PathWork) (s : State) : Answered :=
  match (s.path a.path).timer, (s.path a.path).state.expiryFailure with
  | some _, some reason =>
    if (s.path a.path).work = a.work then .next (takeFailure s a.path reason) else .next s
  | _, _ => .next s

/-- PACKET_COMPLETED (R22, R25): the packet takes the next position and the counter advances; the
record is delivered when its position is newer than the last delivered one. -/
def execPacketCompleted (p : Path) (status : Status) (packet : Packet) (s : State) : Answered :=
  match (s.path p).state, (s.path p).counter, (s.path p).decoded with
  | .tracking, some q, some d =>
    let advanced := s.updPath p fun u => { u with counter := some (q.next d.n) }
    if ((s.path p).lastDelivered.map (newer d.n q)).getD true then
      .next (deliver advanced p ⟨p, q, d.n, status, packet⟩)
    else .next advanced
  | _, _, _ => .next s

/-- The position check of a frame start (R24). -/
def PathUnit.checkPosition (u : PathUnit) (g : Signalling) : PathUnit :=
  if u.counter = some ⟨g.superframe, g.frame, 0⟩ then u
  else
    { u with
      counter := some ⟨g.superframe, g.frame, 0⟩
      counters := { u.counters with slips := inc16 u.counters.slips } }

/-- FRAME_START (R11, R24). Code rate and identifier are both adopted: DEDUCED, unsafe (log 19). A frame start at
which the signalling is not read complete is no event: DESIGN CHOICE, unsafe (log 43). -/
def execFrameStart (p : Path) (signalling : Signalling) (s : State) : Answered :=
  match (s.path p).state, (s.path p).decoded with
  | .tracking, some d =>
    if signalling.symbolMode ≠ d.symbolMode ∨ signalling.guard ≠ d.guard ∨ signalling.n ≠ d.n then
      .next (enterHold s p)
    else
      let adopted := s.updPath p fun u =>
        { u with decoded := some { d with codeRate := signalling.codeRate, muxId := signalling.muxId } }
      if signalling.muxId ≠ d.muxId ∧ s.wrongMux p signalling.muxId then
        .next (takeFailure adopted p .wrongMux)
      else .next (adopted.updPath p fun u => u.checkPosition signalling)
  | _, _ => .next s

/-- LOSS_OF_FRAME_SYNC (R11): the packet in progress is not completed. -/
def execLossOfFrameSync (p : Path) (s : State) : Answered :=
  if (s.path p).state = .tracking then .next (enterHold s p) else .next s

/-- PATH_FRAME_END (R16). -/
def execPathFrameEnd (p : Path) (measured : Measured) (s : State) : Answered :=
  if (s.path p).state = .tracking then
    .next (s.updPath p fun u => { u with measurements := some measured.clamped })
  else .next s

/-- Takes the first order that `f` accepts from a path's inbox: orders of different kinds are taken in any
order, a stop and an unpark in the order sent. DESIGN CHOICE, safe (log 24). -/
def State.takeOrder {β : Type} (s : State) (p : Path) (f : PathOrder → Option β) : Option (β × State) :=
  (takeFirst f (s.path p).inbox).map fun (b, rest) => (b, s.updPath p fun u => { u with inbox := rest })

/-- A stop (true) or an unpark (false): of these two the one sent first is taken first, or a path on the
parked stack could leave PARKED (R165 (1), R166). DEDUCED, safe (log 24). -/
def PathOrder.parks : PathOrder → Option Bool
  | .stop => some true
  | .unpark => some false
  | .refusal => none
  | .modeMismatch _ => none

/-- STOP_ORDER (R15). -/
def execStopOrder (p : Path) (s : State) : Answered :=
  match s.takeOrder p PathOrder.parks with
  | some (true, t) => .next (t.updPath p PathUnit.stopped)
  | _ => .next s

/-- UNPARK_ORDER (R3, R15): disregarded outside PARKED, with an empty list, and in SHUTDOWN, which
leaves every path PARKED (R171). DEDUCED, safe (log 25). -/
def execUnparkOrder (p : Path) (s : State) : Answered :=
  match s.takeOrder p PathOrder.parks with
  | some (false, t) =>
    if (t.path p).state = .parked ∧ t.config.candidates.get p ≠ [] ∧ t.thermal.shutdown = false then
      .next (enterGain (t.updPath p fun u => { u with attempts := 0 }) p)
    else .next t
  | _ => .next s

/-- MODE_MISMATCH_ORDER (R14). -/
def execModeMismatchOrder (p : Path) (s : State) : Answered :=
  match s.takeOrder p fun | .modeMismatch stay => some stay | _ => none with
  | some (stay, t) =>
    if (t.path p).state = .tracking ∧ (t.path p).stay = stay then .next (takeFailure t p .modeMismatch)
    else .next t
  | none => .next s

/-- REFUSAL_NOTICE (R29), in every path state; in SHUTDOWN too, where R66 has the counters stand: DESIGN
CHOICE, unsafe (log 36). -/
def execRefusalNotice (p : Path) (s : State) : Answered :=
  match s.takeOrder p fun o => if o = .refusal then some () else none with
  | some (_, t) =>
    .next (t.updPath p fun u => { u with counters := { u.counters with refused := inc16 u.counters.refused } })
  | none => .next s

end Sys2Proof.Machine
end

