-- ==== Sys2Proof/Machine/Smoother.lean ====
section
/-! DEFINITION. The lane ports (chapter 5): conditioning, FIFO, rate smoother, drivers, lane sensing and
readback, and the commands a port takes by itself. -/

namespace Sys2Proof.Machine

/-! ### Packets the port makes (R93) -/

def nullPacket : Packet where
  header := ⟨0x47#8, false, Config.nullOtherBits, 8191#13, 0#4⟩
  body := List.replicate 184 0xFF#8

/-! ### The FIFO (R82 to R84) -/

/-- |fill − D/2|. -/
def deviation (d fill : Nat) : Nat := (fill - d / 2) + (d / 2 - fill)

/-- R84: a change of fill raises the peak to a larger absolute deviation. -/
def PortUnit.notePeak (u : PortUnit) (d : Nat) : PortUnit :=
  { u with peak := max u.peak (deviation d u.fifo.length) }

/-- A conditioned packet enters at the tail; a full FIFO discards its head first (R81, R83). -/
def PortUnit.enter (u : PortUnit) (d : Nat) (q : Packet) : PortUnit :=
  let counted := { u with counters := { u.counters with entered := inc16 u.counters.entered } }
  if u.fifo.length < d then ({ counted with fifo := u.fifo ++ [q] }).notePeak d
  else
    { counted with
      fifo := u.fifo.tail ++ [q]
      counters := { counted.counters with overflow := inc16 u.counters.overflow } }

/-- Conditioning (R81). -/
def PortUnit.condition (u : PortUnit) (d : Nat) (mode : Conditioning) (st : Status) (q : Packet) : PortUnit :=
  match st, mode with
  | .uncorrectable, .mark =>
    ({ u with counters := { u.counters with marked := inc16 u.counters.marked } }).enter d
      { q with header := { q.header with errorIndicator := true } }
  | .uncorrectable, .null =>
    ({ u with counters := { u.counters with nulled := inc16 u.counters.nulled } }).enter d nullPacket
  | .uncorrectable, .omitting =>
    { u with counters := { u.counters with omitted := inc16 u.counters.omitted } }
  | .clean, _ => u.enter d q
  | .corrected _, _ => u.enter d q

/-- An output packet handed to a port; an unbound one takes nothing (R80). -/
def State.toPort (s : State) (x : Port) (st : Status) (q : Packet) : State :=
  match s.portConfig x with
  | some c => s.updPort x fun u => u.condition c.depth c.conditioning st q
  | none => s

/-! ### The rate smoother (R85 to R89) -/

/-- The new estimate (R86, R87), from the measured rate `a` and the latched fill. -/
def newEstimate (est : Option Nat) (a fill d : Nat) (darkMark : Bool) : Option Nat :=
  match est, darkMark with
  | none, true => none
  | none, false => some a
  | some r, true => some r
  | some r, false =>
    let g : Int := if fill ≤ 4 ∨ d ≤ fill + 4 then 2 else 8
    some ((r : Int) + Int.tdiv ((a : Int) - r) g).toNat

/-- The output rate of a settled port (R88). -/
def outputRate (r fill d : Nat) : ServiceState → Nat
  | .live => clampNat ((r : Int) + 4 * ((fill : Int) - (d / 2 : Nat))) 1000 40000
  | .dark => clampNat r 1000 40000

/-- The rate update at a publication (R85); the first due event is scheduled by the rate of the update
that settled the port (R90). -/
def PortUnit.rateUpdate (u : PortUnit) (d : Nat) (part : PortPart) (darkMark : Bool) : PortUnit :=
  match newEstimate u.rEst (2 * part.counters.entered) part.fill d darkMark with
  | none => { u with rEst := none }
  | some r =>
    let out := outputRate r part.fill d u.recorded
    { u with rEst := some r, rOut := some out, due := u.due <|> some out }

/-- A service-state signal (R89). A LIVE signal behind a rate update leaves the output rate as the update left it:
DEDUCED, unsafe (log 44). -/
def PortUnit.takeServiceState (u : PortUnit) (v : ServiceState) : PortUnit :=
  if u.recorded = v then u
  else
    match v, u.rEst with
    | .dark, some r => { u with recorded := v, rOut := some (clampNat r 1000 40000) }
    | _, _ => { u with recorded := v }

/-! ### Drivers (R95) -/

/-- Stop at once: a packet on the lane is cut short and no finished notice follows (R95 (2), R98 (1)). -/
def PortUnit.cutOff (u : PortUnit) : PortUnit :=
  { u with driversOn := false, onLane := none, finishOrder := false }

/-- The end of the packet on the lane, with what a finish order makes of it (R95 (3)). -/
def PortUnit.endPacket (u : PortUnit) : PortUnit :=
  match u.onLane with
  | none => u
  | some _ =>
    if u.finishOrder then
      { u with
        onLane := none
        finishOrder := false
        driversOn := false
        notices := u.notices ++ [.finished] }
    else { u with onLane := none }

/-- A finish order (R95 (3)). -/
def PortUnit.finish (u : PortUnit) : PortUnit :=
  match u.onLane with
  | none => { u with driversOn := false, notices := u.notices ++ [.finished] }
  | some _ => { u with finishOrder := true }

/-- Start of drive (R95 (1)). -/
def PortUnit.startDrive (u : PortUnit) : PortUnit := { u with driversOn := true, mismatch := 0 }

/-! ### A due event (R91) -/

/-- The due event of a port that drives: the packet it sends, and the port after it. -/
def PortUnit.sendOne (u : PortUnit) (d : Nat) : Packet × PortUnit :=
  match u.fifo with
  | q :: rest =>
    (q, ({ u with
      fifo := rest
      onLane := some ⟨q, false⟩
      counters := { u.counters with sent := inc16 u.counters.sent } }).notePeak d)
  | [] =>
    (nullPacket, { u with
      onLane := some ⟨nullPacket, false⟩
      counters := { u.counters with stuffed := inc16 u.counters.stuffed } })

/-- The due event of a port in shadow: the packet it discards, if any, and the port after it. -/
def PortUnit.discardOne (u : PortUnit) (d : Nat) : Option Packet × PortUnit :=
  match u.fifo with
  | q :: rest =>
    (some q, ({ u with
      fifo := rest
      counters := { u.counters with shadowDiscards := inc16 u.counters.shadowDiscards } }).notePeak d)
  | [] => (none, u)

/-! ### Latch and shutdown -/

/-- What the latch copies from a bound port (R99). -/
def PortUnit.part (u : PortUnit) : PortPart := ⟨u.counters, u.peak, u.fifo.length, u.rEst, u.rOut, u.activity⟩

/-- What the latch leaves in a bound port (R99). -/
def PortUnit.cleared (u : PortUnit) (d : Nat) : PortUnit :=
  { u with counters := .zero, peak := deviation d u.fifo.length }

/-- Thermal shutdown (R100). The peak stands as the counters do, though the emptying changes the fill (R84):
DESIGN CHOICE, unsafe (log 37). -/
def PortUnit.shutDown (u : PortUnit) : PortUnit :=
  { u.cutOff with fifo := [], due := none, sensing := false, activityTimer := none }

/-! ### Readback (R97) -/

/-- Whether the comparison of R97 agrees. -/
def readbackAgrees (sent read : Header) (starts : Quad Bool) : Bool :=
  sent == read && starts == ⟨true, false, false, false⟩

/-- The contention event (R97 (3)); under a finish order the finished notice follows (R98 (2)). -/
def PortUnit.contend (u : PortUnit) : PortUnit :=
  { u.cutOff with
    mismatch := 0
    counters := { u.counters with contentionEvents := inc16 u.counters.contentionEvents }
    notices := u.notices ++ (if u.finishOrder then [.contention, .finished] else [.contention]) }

/-- One packet's comparison. -/
def PortUnit.judge (u : PortUnit) (l : OnLane) (agrees : Bool) : PortUnit :=
  let judged := { u with onLane := some { l with judged := true } }
  if agrees then { judged with mismatch := 0 }
  else if u.mismatch + 1 < 2 then { judged with mismatch := u.mismatch + 1 }
  else judged.contend

/-! ### Meanings -/

/-- PORT_SERVICE_STATE_SIGNAL (R89); in SHUTDOWN the port no longer acts on it (R100). -/
def execPortServiceStateSignal (x : Port) (s : State) : Answered :=
  match s.portSignals.get x with
  | v :: rest =>
    let t := { s with portSignals := s.portSignals.set x rest }
    if s.thermal.shutdown then .next t else .next (t.updPort x fun u => u.takeServiceState v)
  | [] => .next s

/-- PACKET_SEEN (R96 (1)). -/
def execPacketSeen (x : Port) (s : State) : Answered :=
  if (s.port x).sensing then
    .next (s.updPort x fun u =>
      { u with
        activityTimer := some 5
        activity := .active
        activitySignals := if u.activity = .quiet then u.activitySignals ++ [.active] else u.activitySignals })
  else .next s

/-- ACTIVITY_TIMER_EXPIRY (R96 (2)): an expiry of a stopped timer has no effect. -/
def execActivityTimerExpiry (x : Port) (s : State) : Answered :=
  if (s.port x).sensing ∧ (s.port x).activityTimer ≠ none then
    .next (s.updPort x fun u =>
      { u with
        activityTimer := none
        activity := .quiet
        activitySignals := if u.activity = .active then u.activitySignals ++ [.quiet] else u.activitySignals })
  else .next s

/-- READBACK_COMPARISON (R97): each packet is judged once, and only by a port whose drivers are on. -/
def execReadbackComparison (x : Port) (read : Header) (starts : Quad Bool) (s : State) : Answered :=
  match (s.port x).onLane with
  | some l =>
    if (s.port x).driversOn ∧ l.judged = false then
      .next (s.updPort x fun u => u.judge l (readbackAgrees l.packet.header read starts))
    else .next s
  | none => .next s

/-- PACKET_END (R95 (3)). -/
def execPacketEnd (x : Port) (s : State) : Answered := .next (s.updPort x PortUnit.endPacket)

end Sys2Proof.Machine
end

