-- ==== Sys2Proof/Machine/Frames.lean ====
section
/-! DEFINITION. Coordination Line frames (chapter 6): cells, the check, the tests of a received frame,
and the bodies of Table 6-3 both ways. -/

namespace Sys2Proof.Machine

/-! ### Bits (most significant first) -/

/-- The `w` least significant bits of `n`, most significant first. -/
def natBits : Nat → Nat → List Bool
  | 0, _ => []
  | w + 1, n => n.testBit w :: natBits w n

/-- The number that bits spell, most significant first. -/
def bitsNat (bs : List Bool) : Nat := bs.foldl (fun a b => 2 * a + b.toNat) 0

def byteBits (b : Byte) : List Bool := natBits 8 b.toNat

/-- The first `n` bytes that bits spell. -/
def bitsBytes : Nat → List Bool → List Byte
  | 0, _ => []
  | n + 1, bs => byte (bitsNat (bs.take 8)) :: bitsBytes n (bs.drop 8)

/-! ### The check (R106) -/

/-- One step of the check register: shift, and combine with 1021 hex where the bit shifted out differs
from the bit taken. -/
def crcStep (r : Half) (b : Bool) : Half := if r.msb != b then (r <<< 1) ^^^ 0x1021#16 else r <<< 1

/-- The register after some bits, set to FFFF hex before the first. -/
def crc (bs : List Bool) : Half := bs.foldl crcStep 0xFFFF#16

/-! ### Cells of a frame (Table 6-1) -/

/-- The header and body bits that the check covers. -/
def Frame.covered (f : Frame) : List Bool :=
  natBits 4 f.kind.val ++ natBits 3 f.station.val ++ natBits 6 f.body.length ++ f.body.flatMap byteBits

/-- All cells: the start cell, the covered bits and the check, most significant bit first. -/
def Frame.cells (f : Frame) : List Bool :=
  false :: (f.covered ++ natBits 16 (crc f.covered).toNat)

/-! ### Bodies (Tables 6-3 and 6-4) -/

/-- A two-byte number at a place of a body; bytes beyond its end read 0. -/
def num2 (body : List Byte) (i : Nat) : Nat :=
  (body.getD i 0).toNat * 256 + (body.getD (i + 1) 0).toNat

/-- A service record as sent, before its fields are known to be in range. -/
structure RawRecord where
  muxId : Nat
  sf : Nat
  lane : Nat
  state : Nat
deriving DecidableEq, Repr

/-- The six-byte records of an ANNOUNCE body from its fourth byte on. -/
def rawRecords : List Byte → List RawRecord
  | m1 :: m0 :: f1 :: f0 :: l :: t :: rest =>
    ⟨m1.toNat * 256 + m0.toNat, f1.toNat * 256 + f0.toNat, l.toNat, t.toNat⟩ :: rawRecords rest
  | _ => []

def RawRecord.inRange (r : RawRecord) : Bool :=
  decide (r.sf ≤ 1023) && (decide (r.lane ≤ 15) || r.lane == 255) && decide (r.state ≤ 5)
    && (r.lane != 255 || r.state == 0)

/-- No two records name one lane, FF hex apart (R108 (6)). -/
def lanesDistinct : List RawRecord → Bool
  | [] => true
  | r :: rest => (r.lane == 255 || !(rest.any fun q => q.lane == r.lane)) && lanesDistinct rest

/-- R107. -/
def lengthRight (kind len : Nat) : Bool :=
  match kind with
  | 0 => len == 1
  | 1 => len == 2
  | 2 => len == 5
  | 3 => len == 3 || len == 9 || len == 15 || len == 21 || len == 27
  | 4 => len == 1
  | 5 => decide (1 ≤ len) && decide (len ≤ 32)
  | 6 => len == 0
  | 7 => len == 1
  | _ => decide (len ≤ 32)

/-- R108. -/
def fieldsInRange (f : Frame) : Bool :=
  let b (i : Nat) : Nat := (f.body.getD i 0).toNat
  match f.kind.val with
  | 0 => decide (b 0 ≤ 15)
  | 1 => decide (b 0 ≤ 15) && decide (b 1 ≤ 3)
  | 2 => decide (b 0 ≤ 15) && decide (num2 f.body 3 ≤ 1023)
  | 3 =>
    let rs := rawRecords (f.body.drop 3)
    decide (b 1 ≤ 2) && rs.all RawRecord.inRange && lanesDistinct rs
  | 7 => decide (b 0 ≤ 8)
  | _ => true

/-- What the tests of R110 find. -/
inductive FrameTest where
  | good (f : Frame)
  | truncated
  | badLength
  | badCheck
  | badField
deriving DecidableEq, Repr

/-- The seven tests of R110, in order, on the collected cells. -/
def testFrame (cells : List Bool) : FrameTest :=
  let field (at0 w : Nat) : Nat := bitsNat ((cells.drop at0).take w)
  let len := field 8 6
  if cells.length < 14 then .truncated
  else if 32 < len then .badLength
  else if cells.length < 30 + 8 * len then .truncated
  else if 30 + 8 * len < cells.length then .badLength
  else if (crc ((cells.drop 1).take (13 + 8 * len))).toNat ≠ field (14 + 8 * len) 16 then .badCheck
  else
    let f : Frame := ⟨Fin.ofNat 16 (field 1 4), Fin.ofNat 8 (field 5 3), bitsBytes len (cells.drop 14)⟩
    if !lengthRight f.kind.val len then .badLength
    else if !fieldsInRange f then .badField
    else .good f

/-- The reception error counter a test raises (R110, R117). -/
def LineCounters.countTest (c : LineCounters) : FrameTest → LineCounters
  | .good _ => c
  | .truncated => { c with truncated := inc32 c.truncated }
  | .badLength => { c with badLength := inc32 c.badLength }
  | .badCheck => { c with badCheck := inc32 c.badCheck }
  | .badField => { c with badField := inc32 c.badField }

/-! ### Frames the station builds -/

/-- CONTENTION(X). -/
def contentionOf (st : Station) (lane : Fin 16) : Frame := ⟨0, st, [byte lane.val]⟩

/-- RELEASE(X, reason). -/
def releaseOf (st : Station) (lane : Fin 16) (r : ReleaseReason) : Frame :=
  ⟨1, st, [byte lane.val, byte r.code]⟩

/-- CLAIM(X, m, SF). -/
def claimOf (st : Station) (lane : Fin 16) (m : Half) (sf : Nat) : Frame :=
  ⟨2, st, byte lane.val :: (bytes2 m.toNat ++ bytes2 sf)⟩

def ServiceRecord.bytes (r : ServiceRecord) : List Byte :=
  bytes2 r.muxId.toNat ++ bytes2 r.sf ++ [match r.lane with | some x => byte x.val | none => 255, byte r.state.code]

/-- An ANNOUNCE: fitness and faults, reset cause, temperature, records. -/
def announceOf (st : Station) (fitness : Byte) (cause : Cause) (temperature : Byte)
    (rs : List ServiceRecord) : Frame :=
  ⟨3, st, fitness :: byte cause.code :: temperature :: rs.flatMap ServiceRecord.bytes⟩

/-- A REPORT: page byte and content. -/
def reportOf (st : Station) (page : Byte) (content : List Byte) : Frame := ⟨5, st, page :: content⟩

/-! ### Frames a peer or a maintenance node has sent -/

/-- The lane a CONTENTION, RELEASE or CLAIM names. -/
def Frame.lane (f : Frame) : Fin 16 := Fin.ofNat 16 (f.body.getD 0 0).toNat

/-- The multiplex identifier a CLAIM names. -/
def Frame.claimMux (f : Frame) : Half := BitVec.ofNat 16 (num2 f.body 1)

/-- The claimant SF. -/
def Frame.claimSF (f : Frame) : Nat := num2 f.body 3

/-- A record whose fields are in range (R108 (5)). -/
def RawRecord.record (r : RawRecord) : ServiceRecord where
  muxId := BitVec.ofNat 16 r.muxId
  sf := r.sf
  lane := if r.lane = 255 then none else some (Fin.ofNat 16 r.lane)
  state := (LaneState.ofCode r.state).getD .disabled

/-- What an ANNOUNCE leaves in a peer view entry (R121). -/
def Frame.announced (f : Frame) : PeerEntry where
  age := 0
  fitnessFaults := f.body.getD 0 0
  cause := (Cause.ofCode (f.body.getD 1 0).toNat).getD .powerOn
  records := (rawRecords (f.body.drop 3)).map RawRecord.record

end Sys2Proof.Machine
end

