-- ==== Sys2Proof/Machine/Transmit.lean ====
section
/-! DEFINITION. The transmit slots and the frame in flight (R112 to R116): placing, choosing, starting,
losing and withdrawing a frame. -/

namespace Sys2Proof.Machine

def TxSlots.get (t : TxSlots) : TxSlot → Option PlacedFrame
  | .lane x => t.lane.get x
  | .announce => t.announce
  | .report => t.report

def TxSlots.set (t : TxSlots) (k : TxSlot) (f : Option PlacedFrame) : TxSlots :=
  match k with
  | .lane x => { t with lane := t.lane.set x f }
  | .announce => { t with announce := f }
  | .report => { t with report := f }

/-- The slots in the order that decides among frames of one kind (R115). -/
def txSlots : List TxSlot := [.lane 0, .lane 1, .lane 2, .lane 3, .announce, .report]

/-- Placing a frame; it replaces a pending one, and a retry mark goes with the frame replaced (R115 (1),
(2), Choice). -/
def LineUnit.place (l : LineUnit) (k : TxSlot) (f : Frame) : LineUnit :=
  { l with
    slots := l.slots.set k (some ⟨f, l.serial⟩)
    serial := l.serial + 1
    retry := if l.retry = some k then none else l.retry }

def State.placeFrame (s : State) (k : TxSlot) (f : Frame) : State := { s with line := s.line.place k f }

/-- The slot of the lowest kind among some, the earlier one among equals, with its frame. -/
def lowestKind (t : TxSlots) : List TxSlot → Option (TxSlot × PlacedFrame)
  | [] => none
  | k :: rest =>
    match t.get k, lowestKind t rest with
    | none, r => r
    | some f, none => some (k, f)
    | some f, some (j, g) => if g.frame.kind < f.frame.kind then some (j, g) else some (k, f)

/-- The frame a start takes: one marked for retry, else the one of the lowest kind (R115, Choice). -/
def LineUnit.choose (l : LineUnit) : Option (TxSlot × PlacedFrame) :=
  match l.retry with
  | some k =>
    match l.slots.get k with
    | some f => some (k, f)
    | none => lowestKind l.slots txSlots
  | none => lowestKind l.slots txSlots

/-- The chosen frame's start cell goes onto the line: the line is BUSY from that edge and the cell, a 0,
is the first one collected (R104, R109, R114). -/
def LineUnit.start (l : LineUnit) (k : TxSlot) (f : PlacedFrame) : LineUnit :=
  { l with
    state := .busy
    reception := .collecting [false]
    slots := l.slots.set k none
    retry := if l.retry = some k then none else l.retry
    flight := some ⟨k, f, false, false⟩ }

/-- Starts a pending frame when the line is IDLE, nothing is in flight and the station sends (R114 (1),
(2), R118, R119). -/
def trySend (s : State) : State :=
  if s.working ∧ s.line.state = .idle ∧ s.line.flight = none then
    match s.line.choose with
    | some (k, f) => { s with line := s.line.start k f }
    | none => s
  else s

/-- What becomes of a lost frame: a withdrawn one is discarded, one behind which a newer frame waits is
discarded, any other is pending again, marked for retry (R115 (4), (5), R116 (2)). -/
def LineUnit.lose (l : LineUnit) (f : Flight) : LineUnit :=
  let gone := { l with flight := none }
  if f.withdrawn then gone
  else
    match l.slots.get f.slot with
    | some _ => gone
    | none => { gone with slots := l.slots.set f.slot (some f.placed), retry := some f.slot }

/-- The loss of the frame in flight, with the dropped notice of a withdrawn frame, on which the election
unit clears its slot mark (R116 (2), R132 (3)). -/
def loseFlight (s : State) (f : Flight) : State :=
  let t := { s with line := s.line.lose f }
  match f.withdrawn, f.slot with
  | true, .lane x => t.updElect x fun e => { e with slotMark := false }
  | _, _ => t

/-- Withdrawal of a lane slot's frame (R116); answered in flight, the election unit marks the slot
(R132 (3)). -/
def withdrawFrame (s : State) (x : Port) : State :=
  let emptied : LineUnit :=
    { s.line with
      slots := s.line.slots.set (.lane x) none
      retry := if s.line.retry = some (.lane x) then none else s.line.retry }
  match s.line.flight with
  | some f =>
    if f.slot = .lane x then
      { s with line := { emptied with flight := some { f with withdrawn := true } } }.updElect x
        fun e => { e with slotMark := true }
    else { s with line := emptied }
  | none => { s with line := emptied }

end Sys2Proof.Machine
end

