-- ==== Sys2Proof/Machine/Election.lean ====
section
/-! DEFINITION. The election unit (chapter 7): peer view, evaluation, claims, yields, back-off, and what
unfitness, a line restart and a stuck line do to the ports; the meanings of the commands it takes, a
port's due event among them (admission falls there). -/

namespace Sys2Proof.Machine

/-! ### Peer view (R120 to R124) -/

/-- R124 (5): whether pair (a, i) is better than pair (b, j). -/
def betterPair (a : Nat) (i : Station) (b : Nat) (j : Station) : Bool :=
  decide (b < a) || (a == b && decide (i.val < j.val))

/-- Every record of every present entry, with its station. -/
def ElectionUnit.records (v : ElectionUnit) : List (Station × ServiceRecord) :=
  eight.flatMap fun i =>
    match v.peers.get i with
    | some e => e.records.map fun r => (i, r)
    | none => []

/-- The considered records of a lane and identifier (R124 (1)). -/
def ElectionUnit.considered (v : ElectionUnit) (lane : Fin 16) (m : Half) : List (Station × ServiceRecord) :=
  v.records.filter fun r => r.2.lane == some lane && r.2.muxId == m

def LaneState.drives : LaneState → Bool
  | .driving => true
  | .holding => true
  | _ => false

/-- R124 (3). -/
def ElectionUnit.drivers (v : ElectionUnit) (lane : Fin 16) (m : Half) : List (Station × ServiceRecord) :=
  (v.considered lane m).filter fun r => r.2.state.drives

/-- R124 (4). -/
def ElectionUnit.rivals (v : ElectionUnit) (lane : Fin 16) (m : Half) : List (Station × ServiceRecord) :=
  (v.considered lane m).filter fun r => r.2.state == .released || r.2.state == .claiming

/-- SF_d: the highest SF among the drivers' records (R124 (3)). -/
def driverSF (ds : List (Station × ServiceRecord)) : Nat := ds.foldl (fun m r => max m r.2.sf) 0

/-- The lane conflict test of R124 (2). -/
def ElectionUnit.conflictOn (v : ElectionUnit) (lane : Fin 16) (m : Half) : Bool :=
  v.records.any fun r => r.2.lane == some lane && r.2.muxId != m

/-- A bound port's configuration with the identifier of its service. -/
def State.binding (s : State) (x : Port) : Option (PortConfig × Half) :=
  (s.portConfig x).bind fun c => (s.slotConfig c.slot).map fun v => (c, v.muxId)

/-- The indicators are brought up to date (R124 (2)). -/
def refreshConflicts (s : State) : State :=
  { s with
    election :=
      { s.election with
        ports := s.election.ports.map fun x e =>
          match s.binding x with
          | some (c, m) => { e with conflict := s.election.conflictOn c.lane m }
          | none => e } }

/-- A change of the record of one lane in a peer's entry (R123). -/
def PeerEntry.setRecord (e : PeerEntry) (lane : Fin 16) (f : ServiceRecord → ServiceRecord) : PeerEntry :=
  { e with records := e.records.map fun r => if r.lane = some lane then f r else r }

/-- Whether an entry is present and holds a record naming a lane (R123). -/
def ElectionUnit.names (v : ElectionUnit) (k : Station) (lane : Fin 16) : Bool :=
  match v.peers.get k with
  | some e => e.records.any fun r => r.lane == some lane
  | none => false

/-- R123: the update of entry k by a frame that names a lane. -/
def State.updRecord (s : State) (k : Station) (lane : Fin 16) (f : ServiceRecord → ServiceRecord) : State :=
  { s with
    election :=
      { s.election with
        peers := s.election.peers.set k ((s.election.peers.get k).map fun e => e.setRecord lane f) } }

/-- Ageing of one entry (R122). -/
def PeerEntry.aged (e : PeerEntry) : Option PeerEntry :=
  if e.age + 1 < 3 then some { e with age := e.age + 1 } else none

/-! ### Moves of a port -/

/-- A port's change of lane state: the timers of the state left are stopped, the finish mark goes with
it, and an entry to RELEASED sets the challenge counter to 0 (R125). -/
def PortElection.moveTo (e : PortElection) (l : LaneState) : PortElection :=
  { e with
    lane := l
    challenge := if l = .released then 0 else e.challenge
    settle := .stopped
    yieldWait := .stopped
    holdTimer := none
    mark := none }

/-- A port leaves DRIVING or HOLDING: its drivers are off from then on (R95). DEDUCED, safe (log 32). -/
def standDown (s : State) (x : Port) (l : LaneState) : State :=
  (s.updElect x fun e => e.moveTo l).updPort x PortUnit.cutOff

/-- A claiming port withdraws its CLAIM from the lane slot and goes to another state (R134 (2), R135). -/
def withdrawClaim (s : State) (x : Port) (l : LaneState) : State :=
  (withdrawFrame s x).updElect x fun e => e.moveTo l

/-- Entry to BACKOFF (R139). -/
def enterBackoff (s : State) (x : Port) : State :=
  (standDown s x .backoff).updElect x fun e => { e with backoff := (s.loader.stationNumber.val + 1) * 2 }

/-- A frame for a port's lane goes into its slot; an unbound port has no lane to name. -/
def placeLane (s : State) (x : Port) (f : Station → Fin 16 → Frame) : State :=
  match s.portConfig x with
  | some c => s.placeFrame (.lane x) (f s.loader.stationNumber c.lane)
  | none => s

def placeRelease (s : State) (x : Port) (r : ReleaseReason) : State :=
  placeLane s x fun st lane => releaseOf st lane r

/-- A finish mark and the finish order that goes with it (R136, R138 (3)); the hold timer stops (R137). -/
def markAndFinish (s : State) (x : Port) (m : FinishMark) : State :=
  (s.updElect x fun e => { e with mark := some m, holdTimer := none }).updPort x PortUnit.finish

/-- Admission to DRIVING (R133, R95 (1)). -/
def admitPort (s : State) (x : Port) : State :=
  (s.updElect x fun e => e.moveTo .driving).updPort x PortUnit.startDrive

/-- R133: admissible. -/
def PortElection.admissible (e : PortElection) : Bool :=
  e.lane == .claiming && e.settle == .expired && e.activity == .quiet

/-! ### Evaluation on publication (R127 to R130) -/

/-- The SF of a slot in the published snapshot (R77 (1)). -/
def State.publishedSF (s : State) (k : SlotNo) : Nat :=
  ((s.interval.published.figures.get k).map FigurePart.sf).getD 0

/-- R127: eligibility. -/
def State.eligible (s : State) (x : Port) (own : Nat) : Bool :=
  s.fitness.state == .fit && !s.election.lineStuck && (s.elect x).service == .live && decide (0 < own)

/-- No rival has a pair better than the own pair (R128 to R130). -/
def State.noBetterRival (s : State) (lane : Fin 16) (m : Half) (own : Nat) : Bool :=
  (s.election.rivals lane m).all fun r => !betterPair r.2.sf r.1 own s.loader.stationNumber

/-- The challenge counter an evaluation leaves (R127, R129). -/
def nextChallenge (challenge own : Nat) (ds : List (Station × ServiceRecord)) : Nat :=
  if ds = [] then 0 else if driverSF ds + 48 ≤ own then min 3 (challenge + 1) else 0

/-- Whether an eligible port claims: condition (a) without a driver, (b) or (c) with one (R128 to R130). -/
def State.claims (s : State) (x : Port) (lane : Fin 16) (m : Half) (own : Nat) : Bool :=
  let ds := s.election.drivers lane m
  s.noBetterRival lane m own &&
    (if ds = [] then (s.elect x).activity == .quiet
     else nextChallenge (s.elect x).challenge own ds == 3 || ds.all fun r => r.2.state == .holding)

/-- The evaluation of one port (R127). -/
def evaluate (s : State) (x : Port) : State :=
  match s.binding x with
  | some (c, m) =>
    if (s.elect x).lane = .released then
      let own := s.publishedSF c.slot
      if s.eligible x own then
        let counted := s.updElect x fun e =>
          { e with challenge := nextChallenge e.challenge own (s.election.drivers c.lane m) }
        if s.claims x c.lane m own then
          (counted.updElect x fun e => e.moveTo .claiming).placeFrame (.lane x)
            (claimOf s.loader.stationNumber c.lane m own)
        else counted
      else s.updElect x fun e => { e with challenge := 0 }
    else s
  | none => s

/-- One service record of the ANNOUNCE (R131). -/
def State.announceRecord (s : State) (k : SlotNo) : Option ServiceRecord :=
  (s.slotConfig k).map fun c =>
    let bound := c.port.bind fun x => (s.portConfig x).map fun q => (x, q.lane)
    { muxId := c.muxId
      sf := s.publishedSF k
      lane := bound.map Prod.snd
      state := match bound with | some (x, _) => (s.elect x).lane | none => .disabled }

/-- The ANNOUNCE of a publication (R131). -/
def State.announce (s : State) : Frame :=
  announceOf s.loader.stationNumber (fitnessFaultsByte s.fitness.state s.fitness.faults) s.loader.cause
    (temperatureByte s.thermal.reading) (four.filterMap s.announceRecord)

/-- The election unit's part of a publication; during a line restart it neither evaluates nor announces
(R142). -/
def electOnPublication (s : State) : State :=
  if s.election.restarting then s
  else
    let t := four.foldl evaluate s
    t.placeFrame .announce t.announce

/-! ### Interval end, fitness, restart, shutdown -/

/-- The back-off count of one port at an interval end (R140). -/
def PortElection.countBackoff (e : PortElection) : PortElection :=
  if e.lane = .backoff then
    if e.backoff ≤ 1 then ({ e with backoff := 0 }).moveTo .released else { e with backoff := e.backoff - 1 }
  else e

/-- The election unit's interval end: ageing of the peer view and back-off (R122, R140). -/
def ageOnInterval (s : State) : State :=
  let aged : State :=
    { s with
      election :=
        { s.election with
          peers := s.election.peers.map fun e => e.bind PeerEntry.aged
          ports := s.election.ports.map fun _ e => e.countBackoff } }
  if eight.any fun i => (s.election.peers.get i).isSome && (aged.election.peers.get i).isNone then
    refreshConflicts aged
  else aged

/-- The change from LISTEN to FIT (R126); during a line restart the ports stay DISABLED (Table 7-2).
DEDUCED, unsafe (log 18). -/
def electionFit (s : State) : State :=
  if s.election.restarting then s
  else
    { s with
      election :=
        { s.election with
          ports := s.election.ports.map fun x e =>
            if (s.portConfig x).isSome ∧ e.lane = .disabled then e.moveTo .released else e } }

/-- The change from FIT to UNFIT at one port (R141, R142). -/
def unfitPort (s : State) (x : Port) : State :=
  let e := s.elect x
  match e.lane with
  | .driving | .holding =>
    if e.mark = some .restart then
      (placeRelease (standDown s x .disabled) x .restart).updElect x fun e => { e with releaseOut := true }
    else placeRelease (standDown s x .disabled) x .unfit
  | .claiming => withdrawClaim s x .disabled
  | _ => s.updElect x fun e => e.moveTo .disabled

def electionUnfit (s : State) : State := four.foldl unfitPort s

/-- The released report (R142): when no port drives and no RELEASE(X, RESTART) awaits its sent notice. -/
def reportReleased (s : State) : State :=
  if s.election.restarting ∧ s.election.reported = false ∧
      four.all (fun x => !(s.elect x).lane.drives && !(s.elect x).releaseOut) then
    { s with
      election := { s.election with reported := true }
      loader := { s.loader with releasedReport := true } }
  else s

/-- The beginning of a line restart at one port (R142). -/
def restartPort (s : State) (x : Port) : State :=
  let e := s.elect x
  match e.lane with
  | .driving | .holding =>
    if e.mark = none then markAndFinish s x .restart
    else s.updElect x fun e => { e with mark := some .restart, holdTimer := none }
  | .claiming => withdrawClaim s x .disabled
  | _ => s.updElect x fun e => e.moveTo .disabled

/-- The beginning of a line restart (R142). -/
def electionRestart (s : State) : State :=
  reportReleased
    (four.foldl restartPort { s with election := { s.election with restarting := true, reported := false } })

/-- Thermal shutdown (R143): every port DISABLED, timers stopped, marks cleared, a restart abandoned. -/
def ElectionUnit.shutDown (v : ElectionUnit) : ElectionUnit :=
  { v with
    restarting := false
    reported := false
    ports := v.ports.map fun _ e => { e.moveTo .disabled with slotMark := false, releaseOut := false } }

/-- The line has become stuck (R135 (5), R144). -/
def electionStuck (s : State) : State :=
  four.foldl (fun t x => if (t.elect x).lane = .claiming then withdrawClaim t x .released else t)
    { s with election := { s.election with lineStuck := true } }

/-! ### Notices of the line controller (R132) -/

/-- The sent notice of a lane slot's frame. -/
def sentLane (s : State) (x : Port) (f : Frame) : State :=
  let e := s.elect x
  if e.slotMark then s.updElect x fun e => { e with slotMark := false }
  else if f.kind = 2 then
    if e.lane = .claiming then s.updElect x fun e => { e with settle := .running 40, yieldWait := .running 200 }
    else s
  else if f.kind = 1 ∧ (f.body.getD 1 0).toNat = 3 ∧ e.releaseOut then
    reportReleased (s.updElect x fun e => { e with releaseOut := false })
  else s

/-! ### Meanings: signals and timers of a port -/

/-- The next notice of a port, with the state in which the election unit has taken it. -/
def State.takeNotice (s : State) (x : Port) : Option (PortNotice × State) :=
  match (s.port x).notices with
  | m :: rest => some (m, s.updPort x fun u => { u with notices := rest })
  | [] => none

/-- FINISHED_NOTICE (R137 (3), R142); disregarded without a finish mark and in SHUTDOWN. -/
def execFinishedNotice (x : Port) (s : State) : Answered :=
  match s.takeNotice x with
  | some (.finished, t) =>
    if t.thermal.shutdown then .next t
    else
      match (t.elect x).mark with
      | some .restart =>
        .next (trySend ((placeRelease (standDown t x .disabled) x .restart).updElect x
          fun e => { e with releaseOut := true }))
      | some m => .next (trySend (placeRelease (standDown t x .released) x m.reason))
      | none => .next t
  | _ => .next s

/-- CONTENTION_NOTICE (R139 (1), R137 (4), R142); disregarded outside DRIVING and HOLDING. -/
def execContentionNotice (x : Port) (s : State) : Answered :=
  match s.takeNotice x with
  | some (.contention, t) =>
    if t.thermal.shutdown ∨ (t.elect x).lane.drives = false then .next t
    else if (t.elect x).mark = some .restart then
      .next (trySend ((placeRelease (standDown t x .disabled) x .restart).updElect x
        fun e => { e with releaseOut := true }))
    else .next (trySend (placeLane (enterBackoff t x) x contentionOf))
  | _ => .next s

/-- A service-state signal at a port (R135 (4), R137 (1), R138 (1), (2)). A hold time of 0 starts the timer
too: DESIGN CHOICE, safe (log 28). -/
def electServiceState (s : State) (x : Port) (v : ServiceState) : State :=
  let e := s.elect x
  if e.mark ≠ none then s
  else
    match e.lane, v with
    | .driving, .dark =>
      s.updElect x fun e =>
        { e.moveTo .holding with holdTimer := some (((s.portConfig x).map PortConfig.hold).getD 0) }
    | .holding, .live => s.updElect x fun e => e.moveTo .driving
    | .claiming, .dark => withdrawClaim s x .released
    | _, _ => s

/-- ELECTION_SERVICE_STATE_SIGNAL (R138, R135 (4)). -/
def execElectionServiceStateSignal (x : Port) (s : State) : Answered :=
  match s.electionSignals.get x with
  | v :: rest =>
    let t := { s with electionSignals := s.electionSignals.set x rest }
    if t.thermal.shutdown then .next t
    else .next (electServiceState (t.updElect x fun e => { e with service := v }) x v)
  | [] => .next s

/-- A refused claim: back to RELEASED, counted (R135 (1), R146). -/
def refuseClaim (s : State) (x : Port) : State :=
  s.updElect x fun e => { e.moveTo .released with refused := inc32 e.refused }

/-- A lane activity signal at a claiming port (R133 (2), R135 (1)). -/
def electActivity (s : State) (x : Port) (a : Activity) : State :=
  let e := s.elect x
  match a with
  | .quiet => if e.admissible ∧ (s.port x).due = none then admitPort s x else s
  | .active => if e.lane = .claiming ∧ e.yieldWait = .expired then refuseClaim s x else s

/-- LANE_ACTIVITY_SIGNAL (R133, R135 (1)). -/
def execLaneActivitySignal (x : Port) (s : State) : Answered :=
  match (s.port x).activitySignals with
  | a :: rest =>
    let t := s.updPort x fun u => { u with activitySignals := rest }
    if t.thermal.shutdown then .next t
    else .next (electActivity (t.updElect x fun e => { e with activity := a }) x a)
  | [] => .next s

/-- SETTLE_TIMER_EXPIRY (R133): a port without due events is admitted at once when the lane is QUIET. -/
def execSettleTimerExpiry (x : Port) (s : State) : Answered :=
  match (s.elect x).lane, (s.elect x).settle with
  | .claiming, .running _ =>
    let t := s.updElect x fun e => { e with settle := .expired }
    if (t.elect x).admissible ∧ (t.port x).due = none then .next (admitPort t x) else .next t
  | _, _ => .next s

/-- YIELD_WAIT_EXPIRY (R135 (1)): an admissible port that waits for its due event stays. -/
def execYieldWaitExpiry (x : Port) (s : State) : Answered :=
  match (s.elect x).lane, (s.elect x).yieldWait with
  | .claiming, .running _ =>
    if (s.elect x).admissible then .next (s.updElect x fun e => { e with yieldWait := .expired })
    else .next (refuseClaim s x)
  | _, _ => .next s

/-- HOLD_TIMER_EXPIRY (R138 (3)). -/
def execHoldTimerExpiry (x : Port) (s : State) : Answered :=
  match (s.elect x).lane, (s.elect x).holdTimer, (s.elect x).mark with
  | .holding, some _, none => .next (markAndFinish s x .dark)
  | _, _, _ => .next s

/-- DUE_EVENT (R90, R91, R133 (1)): a packet still on the lane has ended by then; an admissible port is
admitted; the next due event is scheduled by R_out as it stands now. The end of a packet still on the lane:
DEDUCED, safe (log 15); drivers off under DRIVING or HOLDING: DEDUCED, unsafe (log 14). -/
def execDueEvent (x : Port) (s : State) : Answered :=
  match s.portConfig x, (s.port x).due with
  | some c, some _ =>
    let ended := s.updPort x PortUnit.endPacket
    let placed := if (ended.elect x).admissible then admitPort ended x else ended
    let t := placed.updPort x fun u => { u with due := u.rOut }
    if (t.elect x).lane.drives ∧ (t.port x).driversOn then
      .next ((t.updPort x fun u => (u.sendOne c.depth).2).offerFrom (.port x) ((t.port x).sendOne c.depth).1)
    else
      let u := t.updPort x fun u => (u.discardOne c.depth).2
      match ((t.port x).discardOne c.depth).1 with
      | some q => .next (u.offerFrom (.port x) q)
      | none => .next u
  | _, _ => .next s

/-! ### Meanings: frames heard -/

/-- Takes the next good frame when it is of the kinds `f` accepts; only a working station is handed
frames (R111, R118, R119). -/
def State.takeHeard (s : State) (f : Fin 16 → Bool) : Option (Frame × State) :=
  if s.working then
    match s.line.heard with
    | fr :: rest => if f fr.kind then some (fr, { s with line := { s.line with heard := rest } }) else none
    | [] => none
  else none

/-- Kinds 0 to 3: a frame with the own number is a number clash and goes no further (R111 (2)). Whatever
was heard, a frame pending on an IDLE line starts once it has been taken (R114).
DESIGN CHOICE, safe (log 13). -/
def takePeerFrame (s : State) (kind : Fin 16) (act : State → Frame → State) : State :=
  match s.takeHeard (· == kind) with
  | some (f, t) =>
    if f.station = t.loader.stationNumber then
      trySend { t with line := { t.line with
        counters := { t.line.counters with numberClashes := inc32 t.line.counters.numberClashes } } }
    else trySend (act t f)
  | none => s

/-- R121, R124 (2). -/
def hearAnnounce (s : State) (f : Frame) : State :=
  refreshConflicts
    { s with election := { s.election with peers := s.election.peers.set f.station (some f.announced) } }

/-- The bound port of a lane. -/
def State.portOfLane (s : State) (lane : Fin 16) : Option Port :=
  four.find? fun x => ((s.portConfig x).map PortConfig.lane) == some lane

/-- What a port does with a CLAIM for its lane and identifier (R134, R136). During a line restart no port
acts on a frame (R142). -/
def portHearsClaim (s : State) (x : Port) (f : Frame) : State :=
  let e := s.elect x
  let own := s.publishedSF (((s.portConfig x).map PortConfig.slot).getD 0)
  if s.election.restarting then s
  else
    match e.lane with
    | .released =>
      if betterPair f.claimSF f.station own s.loader.stationNumber then
        s.updElect x fun e => { e with challenge := 0 }
      else s
    | .claiming =>
      if betterPair f.claimSF f.station own s.loader.stationNumber then withdrawClaim s x .released else s
    | .driving => if e.mark = none ∧ own + 48 ≤ f.claimSF then markAndFinish s x .handover else s
    | .holding => if e.mark = none then markAndFinish s x .dark else s
    | _ => s

/-- R123 (1), R134, R136. -/
def hearClaim (s : State) (f : Frame) : State :=
  let viewed :=
    if s.election.names f.station f.lane then
      refreshConflicts (s.updRecord f.station f.lane fun r =>
        { r with state := .claiming, sf := f.claimSF, muxId := f.claimMux })
    else s
  match viewed.portOfLane f.lane with
  | some x =>
    if (viewed.binding x).map Prod.snd = some f.claimMux then portHearsClaim viewed x f else viewed
  | none => viewed

/-- R123 (2), R135 (3). -/
def hearRelease (s : State) (f : Frame) : State :=
  s.updRecord f.station f.lane fun r => { r with state := .released }

/-- R123 (3), R135 (2), R139 (2). -/
def hearContention (s : State) (f : Frame) : State :=
  let viewed := s.updRecord f.station f.lane fun r => { r with state := .backoff }
  match viewed.portOfLane f.lane with
  | some x =>
    if viewed.election.restarting then viewed
    else if (viewed.elect x).lane.drives then enterBackoff viewed x
    else if (viewed.elect x).lane = .claiming then withdrawClaim viewed x .released
    else viewed
  | none => viewed

/-- ANNOUNCE_FRAME (R111, R121). -/
def execAnnounceFrame (s : State) : Answered := .next (takePeerFrame s 3 hearAnnounce)

/-- CLAIM_FRAME (R111, R123, R134, R136). -/
def execClaimFrame (s : State) : Answered := .next (takePeerFrame s 2 hearClaim)

/-- RELEASE_FRAME (R111, R123). -/
def execReleaseFrame (s : State) : Answered := .next (takePeerFrame s 1 hearRelease)

/-- CONTENTION_FRAME (R111, R123, R135 (2), R139 (2)). -/
def execContentionFrame (s : State) : Answered := .next (takePeerFrame s 0 hearContention)

end Sys2Proof.Machine
end

