-- ==== Sys2Proof/Machine/Fitness.lean ====
section
/-! DEFINITION. The fitness monitor (chapter 8): the configuration check, the conclusion of the merge
check, the rotation of the merge checker, and the monitor's event at an interval end. -/

namespace Sys2Proof.Machine

/-! ### The configuration check value (R156) -/

/-- The ten bytes of one candidate place (R156 (2)). -/
def candidateBytes : Option Candidate → List Byte
  | none => List.replicate 10 0
  | some c =>
    [1, byte c.input.code] ++ bytes4 c.frequency ++ [byte c.bandwidth.mhz] ++
      (match c.expected with | some m => 1 :: bytes2 m.toNat | none => [0, 0, 0])

/-- The thirteen bytes of one service slot (R156 (3)). -/
def serviceBytes : Option ServiceConfig → List Byte
  | none => List.replicate 13 0
  | some c =>
    1 :: bytes2 c.muxId.toNat ++ c.contributors.toList.map flagByte ++
      (four.map fun p => if c.contributors.get p then byte (c.priority.get p).val else 0) ++
      [byte c.tieMode.code, byte c.w]

/-- The seven bytes of one port (R156 (4)). -/
def portBytes : Option PortConfig → List Byte
  | none => List.replicate 7 0
  | some c =>
    [1, byte c.slot.val, byte c.lane.val, byte c.depth, byte c.conditioning.code] ++ bytes2 c.hold

/-- The 241 bytes that the value covers, in their order. -/
def Config.covered (c : Config) : List Byte :=
  byte c.tw ::
    (c.candidates.toList.flatMap fun l => (List.range 4).flatMap fun i => candidateBytes l[i]?) ++
    c.services.toList.flatMap serviceBytes ++ c.ports.toList.flatMap portBytes

/-- The configuration check value (R156), by the register procedure of R106. -/
def Config.checkValue (c : Config) : Half := crc (c.covered.flatMap byteBits)

/-! ### The steps of an interval end (R148) -/

/-- A failed check takes LISTEN and FIT to UNFIT (R155 (2), R157 (2)). -/
def Fitness.afterFailure : Fitness → Fitness
  | .listen => .unfit
  | .fit => .unfit
  | .unfit => .unfit
  | .unconfigured => .unconfigured

/-- The conclusion of the merge check (R155). With no service under check, as after a usable load without a
configured service, no result is recorded: DESIGN CHOICE, unsafe (log 38). -/
def FitnessUnit.conclude (f : FitnessUnit) : FitnessUnit :=
  match f.underCheck with
  | none => { f with checked := 0, mismatches := 0 }
  | some k =>
    let noted := { f with lastResult := some ⟨k, f.checked, f.mismatches⟩, checked := 0, mismatches := 0 }
    if f.mismatches = 0 then noted
    else
      { noted with
        faults := { f.faults with mergeCheck := true }
        mergeFault := f.mergeFault <|> some (k, f.mismatches)
        state := f.state.afterFailure }

/-- The configuration check (R157), from the value just recomputed. No command corrupts a register:
DESIGN CHOICE, unsafe (log 27). -/
def FitnessUnit.checkConfig (f : FitnessUnit) (found : Half) : FitnessUnit :=
  match f.checkValue with
  | none => f
  | some v =>
    if found = v then f
    else
      { f with
        faults := { f.faults with configCheck := true }
        configFault := f.configFault <|> some found
        state := f.state.afterFailure }

/-- The slots after one, in the order of R152, itself last. -/
def slotsAfter : SlotNo → List SlotNo
  | 0 => [1, 2, 3, 0]
  | 1 => [2, 3, 0, 1]
  | 2 => [3, 0, 1, 2]
  | 3 => [0, 1, 2, 3]

/-- The next service under check (R152 (2)). -/
def FitnessUnit.rotate (f : FitnessUnit) (c : Config) : FitnessUnit :=
  { f with underCheck := f.underCheck.bind fun k => (slotsAfter k).find? fun j => (c.services.get j).isSome }

/-- The listen count (R148 (4)). -/
def FitnessUnit.listen (f : FitnessUnit) : FitnessUnit :=
  if f.state = .listen then
    { f with
      listenCount := min 3 (f.listenCount + 1)
      state := if 3 ≤ f.listenCount + 1 then .fit else .listen }
  else f

/-- The four things done at an interval end, in order (R148); UNCONFIGURED makes no check (R149). -/
def FitnessUnit.intervalEnd (f : FitnessUnit) (c : Config) : FitnessUnit :=
  if f.state = .unconfigured then f else (((f.conclude.checkConfig c.checkValue).rotate c)).listen

/-- The fitness monitor's interval end, with what each change of state brings the election unit (R147,
R126, R141). -/
def fitnessOnInterval (s : State) : State :=
  let f := s.fitness.intervalEnd s.config
  let t := { s with fitness := f }
  match s.fitness.state, f.state with
  | .listen, .fit => electionFit t
  | .fit, .unfit => electionUnfit t
  | _, _ => t

end Sys2Proof.Machine
end

