-- ==== Sys2Proof/Machine/Loader.lean ====
section
/-! DEFINITION. The configuration loader (chapter 10): the check code, the reading of the image,
validation, the resets and the start of the station; the meanings of the commands the loader takes. -/

namespace Sys2Proof
namespace Machine

/-! ### The check code of a block (R175) -/

inductive Decoding where
  | good | corrected | failed
deriving DecidableEq, Repr

/-- Whether a bit number is one of the check byte's: 0, 1, 2, 4, 8, 16, 32, 64. -/
def isCheckNumber (n : Nat) : Bool :=
  n == 0 || n == 1 || n == 2 || n == 4 || n == 8 || n == 16 || n == 32 || n == 64

/-- The numbers of the 64 data bits, in the order read. -/
def dataNumbers : List Nat := (List.range 72).filter fun n => !isCheckNumber n

/-- The numbers of the 72 bits, from the most significant bit of data byte 0 to the least significant
bit of the check byte. -/
def bitNumbers : List Nat := dataNumbers ++ [0, 64, 32, 16, 8, 4, 2, 1]

/-- The numbers of the bits at 1. -/
def onesOf (bits : Block) : List Nat :=
  (bitNumbers.zip (natBits 72 bits.toNat)).filterMap fun b => if b.2 then some b.1 else none

/-- The syndrome: bit j is 1 when the bits whose numbers have bit j set hold an odd number of ones. -/
def syndrome (bits : Block) : Nat := (onesOf bits).foldl Nat.xor 0

/-- Parity of the whole block: true when odd. -/
def oddParity (bits : Block) : Bool := (onesOf bits).length % 2 == 1

def decodeBits (bits : Block) : Decoding :=
  if bits = BitVec.allOnes 72 then .failed
  else if oddParity bits then (if syndrome bits ≤ 71 then .corrected else .failed)
  else if syndrome bits = 0 then .good
  else .failed

/-- A block with the bit of a given number flipped. -/
def flipNumbered (bits : Block) (n : Nat) : Block := bits ^^^ (1#72 <<< (71 - bitNumbers.idxOf n))

/-- The 64 data bits, data byte 0 in the eight most significant. -/
def dataOf (bits : Block) : BitVec 64 := bits.extractLsb' 8 64

/-- The data bytes a block gives: as read, corrected, or none (R175 (1) to (3)). -/
def readData (bits : Block) : Option (BitVec 64) :=
  match decodeBits bits with
  | .good => some (dataOf bits)
  | .corrected => some (dataOf (flipNumbered bits (syndrome bits)))
  | .failed => none

/-! ### Reading the image (R174, R176, R177) -/

end Machine

/-- The 22 blocks in order. -/
def Image.blocks (i : Image) : List Block :=
  i.identity :: i.station :: i.candidates.toList.flatMap Quad.toList ++ i.services.toList

/-- The fields of block 0, none when it failed. -/
def Image.identityRead (i : Image) : Option IdentityFields := (Machine.readData i.identity).map Config.identityFields

/-- The memory is silent when block 0 reads with all 72 bits at 1 (R176 (1)). -/
def Image.silent (i : Image) : Bool := i.identity == BitVec.allOnes 72

/-- The numbers, in increasing order, of the blocks that decode in a given way. -/
def Image.decodedAs (i : Image) (d : Machine.Decoding) : List Nat :=
  i.blocks.zipIdx.filterMap fun b => if Machine.decodeBits b.1 = d then some b.2 else none

/-- Block 0 is taken as failed for its image format (R174). -/
def Image.formatWrong (i : Image) : Bool := i.identityRead.any fun f => f.format != 1

/-- What the reading leaves in the load record; validation counts the notes (R177). Block 0 in both lists:
DEDUCED, unsafe (log 30). -/
def Image.record (i : Image) : Machine.LoadRecord :=
  if i.silent then ⟨false, [], [0], 0⟩
  else
    { memoryAnswered := true
      corrected := i.decodedAs .corrected
      failed := if i.formatWrong then 0 :: i.decodedAs .failed else i.decodedAs .failed
      notes := 0 }

/-- What the reading leaves in the raw configuration (R174). -/
def Image.raw (i : Image) : Machine.RawConfig :=
  if i.silent then .reset
  else
    { identity := if i.formatWrong then none else i.identityRead
      station := (Machine.readData i.station).map Config.stationFields
      candidates := i.candidates.map fun _ q => q.map fun _ b => (Machine.readData b).map Config.candidateFields
      services := i.services.map fun _ b => (Machine.readData b).map Config.serviceFields }

namespace Machine

/-! ### Validation (R178 to R180) -/

/-- One note when a value was changed. -/
def noteIf (changed : Bool) : Nat := if changed then 1 else 0

/-- The warning threshold and its note (R178 (1)); 105 °C where block 1 failed or was not read. -/
def RawConfig.threshold (r : RawConfig) : Nat × Nat :=
  match r.station with
  | none => (105, 0)
  | some f =>
    let v := clampNat f.tw.toNat 85 120
    (v, noteIf (v != f.tw.toNat))

/-- One candidate block, after those of the lower slots of its path (R178 (2), (3)). -/
def addCandidate (acc : List Candidate × Nat) (b : Option CandidateFields) : List Candidate × Nat :=
  match b with
  | none => acc
  | some f =>
    if f.present then
      match f.bandwidth with
      | none => (acc.1, acc.2 + 1)
      | some w =>
        let c : Candidate := ⟨f.input, f.frequency.toNat, w, f.expected⟩
        if c.frequency < 174000 ∨ 862000 < c.frequency ∨ c ∈ acc.1 then (acc.1, acc.2 + 1)
        else (acc.1 ++ [c], acc.2)
    else acc

/-- A path's candidate list and the notes it cost (R178 (2) to (4)). -/
def candidateList (q : Quad (Option CandidateFields)) : List Candidate × Nat :=
  q.toList.foldl addCandidate ([], 0)

/-- A service slot with its single fields validated (R179). -/
structure SlotDraft where
  muxId : Half
  contributors : Quad Bool
  priority : Quad (Fin 4)
  tieMode : TieMode
  w : Nat
  port : Option Port
  lane : Fin 16
  depth : Nat
  conditioning : Conditioning
  hold : Nat
deriving DecidableEq, Repr

/-- The single fields of a slot and the notes they cost (R179). -/
def draftSlot (f : ServiceFields) : SlotDraft × Nat :=
  let w := clampNat f.w.toNat 2 64
  let hold := min (f.holdSteps.toNat * 10) 2000
  let crowded := f.contributor.count == 4
  ({ muxId := f.muxId
     contributors := if crowded then { f.contributor with a3 := false } else f.contributor
     priority := f.priority
     tieMode := f.tieMode
     w := w
     port := f.port
     lane := f.lane
     depth := (f.depth.map Depth.packets).getD 64
     conditioning := f.conditioning.getD .mark
     hold := hold },
   noteIf (w != f.w.toNat) + noteIf (hold != f.holdSteps.toNat * 10) + noteIf f.depth.isNone
     + noteIf f.conditioning.isNone + noteIf crowded)

/-- Where the settling of the slots stands. -/
structure Settling where
  taken : Quad Bool
  portsTaken : Quad Bool
  lanes : List (Fin 16)
  services : Quad (Option ServiceConfig)
  ports : Quad (Option PortConfig)
  notes : Nat
deriving DecidableEq, Repr

def Settling.start : Settling := ⟨.fill false, .fill false, [], .fill none, .fill none, 0⟩

/-- A slot that passed the tests, with the port it binds, if any (R180). -/
def Settling.configure (g : Settling) (k : SlotNo) (d : SlotDraft) (kept : Quad Bool) (bound : Option Port) :
    Settling :=
  let c : ServiceConfig := ⟨d.muxId, kept, d.priority, d.tieMode, d.w, bound⟩
  let marked : Settling :=
    { g with
      taken := g.taken.map fun p b => b || kept.get p
      services := g.services.set k (some c)
      portsTaken := match d.port with | some x => g.portsTaken.set x true | none => g.portsTaken }
  match bound with
  | some x =>
    { marked with
      lanes := d.lane :: g.lanes
      ports := g.ports.set x (some ⟨k, d.lane, d.depth, d.conditioning, d.hold⟩) }
  | none => marked

/-- The four tests of one slot (R180). -/
def Settling.settle (g : Settling) (candidates : Quad (List Candidate)) (k : SlotNo) (d : SlotDraft) : Settling :=
  let kept := d.contributors.map fun p b => b && !g.taken.get p
  let t := { g with notes := g.notes + (d.contributors.count - kept.count) }
  if four.all fun p => !(kept.get p && candidates.get p != []) then { t with notes := t.notes + 1 }
  else
    match d.port with
    | none => t.configure k d kept none
    | some x =>
      if g.portsTaken.get x then { t with notes := t.notes + 1 }
      else if d.lane ∈ g.lanes then { t.configure k d kept none with notes := t.notes + 1 }
      else t.configure k d kept (some x)

/-- One slot of the image: its mask flag, its single fields and its tests (R179, R180). -/
def settleSlot (mask : Quad Bool) (fields : Quad (Option ServiceFields)) (candidates : Quad (List Candidate))
    (g : Settling) (k : SlotNo) : Settling :=
  if mask.get k then
    match fields.get k with
    | none => g
    | some f =>
      ({ g with notes := g.notes + (draftSlot f).2 }).settle candidates k (draftSlot f).1
  else g

/-- The working configuration that validation makes, and the number of its notes before they saturate.
Without an identity nothing is configured, and only T_w is validated (R176). DEDUCED, unsafe (log 20). -/
def RawConfig.validate (r : RawConfig) : Config × Nat :=
  let tw := r.threshold
  match r.identity with
  | none => ({ Config.reset with tw := tw.1 }, tw.2)
  | some i =>
    let lists := r.candidates.map fun _ q => candidateList q
    let candidates := lists.map fun _ l => l.1
    let g := four.foldl (settleSlot i.mask r.services candidates) Settling.start
    (⟨tw.1, candidates, g.services, g.ports⟩,
      tw.2 + (lists.toList.map Prod.snd).sum + g.notes)

/-! ### Resets and the start of LOADING (R181, R183, R184) -/

/-- Every block at its reset state, held in reset. What stands is the sender's queue, the time base, the
draw counter and the reset cause record (R183). -/
def resetBlocks (s : State) (cause : Cause) (count : Nat) : State :=
  { State.reset with
    pending := s.pending
    now := s.now
    freeDraws := s.freeDraws
    loader := { LoaderUnit.reset with cause := cause, restartCount := count } }

/-- The start of LOADING: strap sample, sensor sample and the reading of the image (R161, R174, R181). -/
def beginLoading (s : State) (boot : BootInputs) : State :=
  { s with
    loader :=
      { s.loader with
        phase := .loading
        stationNumber := boot.straps
        record := boot.image.record
        raw := boot.image.raw }
    thermal := { s.thermal with reading := clampInt boot.sensor (-40) 150 } }

/-- A line restart or thermal restart (R183, R186, R188). -/
def restart (s : State) (cause : Cause) (boot : BootInputs) : State :=
  beginLoading (resetBlocks s cause (inc16 s.loader.restartCount)) boot

/-! ### The end of LOADING (R182) -/

/-- A service at the end of LOADING (R64). -/
def startService (c : Option ServiceConfig) : Service :=
  match c with
  | some c => { Service.reset with contributors := c.contributors }
  | none => .reset

/-- Paths that enter GAIN at the end of LOADING (Table 1-3). -/
def Config.starts (c : Config) (p : Path) : Bool :=
  (c.services.toList.any fun v => v.any fun v => v.contributors.get p) && c.candidates.get p != []

/-- A port at the end of LOADING: a bound one begins lane sensing, ACTIVE with the timer started (R96). -/
def startPort (c : Option PortConfig) : PortUnit :=
  match c with
  | some _ => { PortUnit.reset with sensing := true, activity := .active, activityTimer := some 5 }
  | none => .reset

/-- The reset snapshot once the services are known (R79 (3)). -/
def startSnapshot (c : Config) : Snapshot :=
  { Snapshot.reset with
    services := c.services.map fun _ v => v.map fun _ => ⟨.reset, .fill false⟩
    figures := c.services.map fun _ v => v.map fun _ => ⟨0, 0, 0, 0, 0⟩ }

/-- The fitness monitor at the end of LOADING (R147, R150, R152 (1), Table 8-4). -/
def FitnessUnit.afterLoading (f : FitnessUnit) (usable : Bool) (r : LoadRecord) (c : Config) : FitnessUnit :=
  { f with
    state := if usable then .listen else .unconfigured
    listenCount := 0
    faults := f.faults.withLoad (r.corrected != []) (r.failed != [] || !r.memoryAnswered)
    underCheck := four.find? fun k => (c.services.get k).isSome
    checkValue := if usable then some c.checkValue else none }

/-- The hand-overs of R182. -/
def startStation (s : State) : State :=
  let v := s.loader.raw.validate
  let c := v.1
  let handed : State :=
    { s with
      loader :=
        { s.loader with
          phase := .running
          record := { s.loader.record with notes := min v.2 255 } }
      config := c
      services := c.services.map fun _ v => startService v
      cascading := none
      ports := c.ports.map fun _ v => startPort v
      interval := { s.interval with running := true, published := startSnapshot c }
      fitness := s.fitness.afterLoading s.loader.raw.identity.isSome s.loader.record c }
  four.foldl (fun t p => if c.starts p then enterGain t p else t) handed

/-! ### Meanings -/

/-- POWER_ON_RESET (R184): taken in any state; LOADING begins at once unless the reset pin is held.
DEDUCED, safe (log 29). -/
def execPowerOnReset (pinAsserted : Bool) (boot : BootInputs) (s : State) : Answered :=
  if pinAsserted then .next (resetBlocks s .powerOn 0)
  else .next (beginLoading (resetBlocks s .powerOn 0) boot)

/-- RESET_PIN_RELEASE (R184). -/
def execResetPinRelease (boot : BootInputs) (s : State) : Answered :=
  if s.loader.phase = .held then .next (beginLoading s boot) else .next s

/-- END_OF_LOADING (R182). -/
def execEndOfLoading (s : State) : Answered :=
  if s.loader.phase = .loading then .next (startStation s) else .next s

/-- RELEASED_REPORT (R186 (1)); a report that finds no release wait is disregarded. -/
def execReleasedReport (boot : BootInputs) (s : State) : Answered :=
  if s.loader.releasedReport then
    if s.loader.releasing then .next (restart s .lineRestart boot)
    else .next { s with loader := { s.loader with releasedReport := false } }
  else .next s

/-- RELEASE_LIMIT_EXPIRY (R186 (2), R187 (2)): an expiry of a stopped limit has no effect. -/
def execReleaseLimitExpiry (boot : BootInputs) (s : State) : Answered :=
  if s.loader.releasing ∧ s.loader.releaseLimit ≠ none then .next (restart s .lineRestart boot) else .next s

end Machine
end Sys2Proof
end

