-- ==== Sys2Proof/Machine/Checker.lean ====
section
/-! DEFINITION. The merge checker's own selection (R153): the ranking and tie modes of R51 and R52 in
logic of its own, a scan that keeps the best copy so far, and the counts it raises. -/

namespace Sys2Proof.Machine

/-- What the merge unit hands over beside its choice (R55): statuses present by path, tie mode,
priorities, last selected path. -/
structure CheckInputs where
  statuses : Quad (Option Status)
  tieMode : TieMode
  priority : Quad (Fin 4)
  last : Option Path
deriving DecidableEq, Repr

/-- Whether path `q` with status `b` goes before path `p` with status `a`, `p` being the lower path. -/
def CheckInputs.goesBefore (i : CheckInputs) (p : Path) (a : Status) (q : Path) (b : Status) : Bool :=
  let stickyP := i.tieMode == .sticky && i.last == some p
  let stickyQ := i.tieMode == .sticky && i.last == some q
  if b.rank < a.rank then true
  else if a.rank < b.rank then false
  else if stickyP then false
  else if stickyQ then true
  else decide ((i.priority.get p).val < (i.priority.get q).val)

/-- The scan: the best of what is held so far and the next path's copy. -/
def CheckInputs.scan (i : CheckInputs) (best : Option (Path × Status)) (q : Path) : Option (Path × Status) :=
  match best, i.statuses.get q with
  | b, none => b
  | none, some st => some (q, st)
  | some (p, a), some st => if i.goesBefore p a q st then some (q, st) else some (p, a)

/-- The checker's selection (R153 (1)). -/
def CheckInputs.select (i : CheckInputs) : Option Path :=
  (four.foldl i.scan none).map Prod.fst

/-- One resolution of the service under check (R153). -/
def FitnessUnit.check (f : FitnessUnit) (i : CheckInputs) (chosen : Path) : FitnessUnit :=
  { f with
    checked := inc16 f.checked
    mismatches := if i.select = some chosen then f.mismatches else inc16 f.mismatches }

/-- R55, R154: a resolution is handed over only when its service is under check as it stands then, and
in SHUTDOWN to no one (R160). The checker's own logic never goes wrong: DESIGN CHOICE, unsafe (log 39). -/
def State.handToChecker (s : State) (k : SlotNo) (i : CheckInputs) (chosen : Path) : State :=
  if s.fitness.underCheck = some k ∧ s.thermal.shutdown = false then
    { s with fitness := s.fitness.check i chosen }
  else s

end Sys2Proof.Machine
end

