-- ==== Sys2Proof/Machine/Merge.lean ====
section
/-! DEFINITION. The merge unit (chapter 3): the window, selection and resolution, the service state, and
the meanings of the commands the merge unit takes. -/

namespace Sys2Proof.Machine

/-! ### Selection (R51, R52) -/

/-- The paths that have a copy in an entry, with its status, in path order. -/
def presentCopies (copies : Quad (Option Copy)) : List (Path × Copy) :=
  four.filterMap fun p => (copies.get p).map fun c => (p, c)

/-- The best rank present, 9 where nothing is better. -/
def bestRank (cs : List (Path × Copy)) : Nat := cs.foldl (fun r c => min r c.2.status.rank) 9

/-- The copies that share the best rank. -/
def tiedCopies (cs : List (Path × Copy)) : List (Path × Copy) :=
  cs.filter fun c => c.2.status.rank == bestRank cs

/-- The copy of the highest configured priority, among equals the lowest path (R52 (2)). -/
def byPriority (priority : Quad (Fin 4)) : List (Path × Copy) → Option (Path × Copy)
  | [] => none
  | c :: rest =>
    match byPriority priority rest with
    | none => some c
    | some d => if (priority.get c.1).val < (priority.get d.1).val then some d else some c

/-- The selected copy of an entry (R51, R52). -/
def selectCopy (c : ServiceConfig) (last : Option Path) (copies : Quad (Option Copy)) : Option (Path × Copy) :=
  let tied := tiedCopies (presentCopies copies)
  match c.tieMode with
  | .priority => byPriority c.priority tied
  | .sticky =>
    match tied.find? fun d => last == some d.1 with
    | some d => some d
    | none => byPriority c.priority tied

/-! ### Counters (R60, R62) -/

/-- What one resolution raises: the selected path and copy, the copies of the entry, the missing
positions, and whether it was forced. -/
def ServiceCounters.resolve (c : ServiceCounters) (p : Path) (copy : Copy) (copies : Quad (Option Copy))
    (missing : Nat) (forced : Bool) : ServiceCounters :=
  let bad := copy.status == .uncorrectable
  { c with
    resolved := inc16 c.resolved
    selected := c.selected.update p inc16
    unselected := c.unselected.map fun q n => if q ≠ p ∧ (copies.get q).isSome then inc16 n else n
    correctedBytes := satAdd 1048575 c.correctedBytes copy.status.correctedBytes
    outputUncorrectable := if bad then inc16 c.outputUncorrectable else c.outputUncorrectable
    cumulativeOutputUncorrectable :=
      if bad then inc32 c.cumulativeOutputUncorrectable else c.cumulativeOutputUncorrectable
    forced := if forced then inc16 c.forced else c.forced
    missing := satAdd 65535 c.missing missing
    cumulativeMissing := satAdd 4294967295 c.cumulativeMissing missing }

/-- The positions a resolution counts missing (R54): d − 1, and none where no front was set. -/
def missingBefore (v : Service) (e : Entry) : Nat :=
  match v.front, v.refN with
  | some f, some n => distance n e.position f - 1
  | _, _ => 0

/-! ### Resolution (R47, R53) -/

/-- R46. -/
def Entry.complete (e : Entry) : Bool := four.all fun p => !e.awaited.get p || (e.copies.get p).isSome

/-- The head test of R47. -/
def Entry.ready (e : Entry) (now : Nat) : Bool := e.complete || decide (e.expiryTime ≤ now)

def statusesOf (copies : Quad (Option Copy)) : Quad (Option Status) := copies.map fun _ c => c.map Copy.status

/-- The output packet goes to the bound port, or nowhere (R53 (1), R36). -/
def State.output (s : State) (c : ServiceConfig) (copy : Copy) : State :=
  match c.port with
  | some x => s.toPort x copy.status copy.packet
  | none => s

/-- The head resolves (R53 to R55, R60). An entry without a copy, which R39 excludes, leaves without output:
DESIGN CHOICE, safe (log 26). The selection never goes wrong: DESIGN CHOICE, unsafe (log 39). -/
def resolveHead (s : State) (k : SlotNo) (forced : Bool) : State :=
  match s.slotConfig k, (s.service k).window with
  | some c, e :: rest =>
    let v := s.service k
    match selectCopy c v.lastSelected e.copies with
    | some (p, copy) =>
      (((s.handToChecker k ⟨statusesOf e.copies, c.tieMode, c.priority, v.lastSelected⟩ p).output c copy).updService k)
        fun w =>
          { w with
            window := rest
            front := some e.position
            lastSelected := some p
            counters := w.counters.resolve p copy e.copies (missingBefore v e) forced }
    | none => s.updService k fun w => { w with window := rest }
  | _, _ => s

/-- The head test and the cascade (R47), as long as the fuel lasts. -/
def cascade : Nat → State → SlotNo → State
  | 0, s, _ => s
  | n + 1, s, k =>
    match (s.service k).window with
    | e :: _ => if e.ready s.now then cascade n (resolveHead s k false) k else s
    | [] => s

/-- Whether a service's head resolves as things stand (R47). -/
def State.headReady (s : State) (k : SlotNo) : Bool :=
  match (s.service k).window with
  | e :: _ => e.ready s.now
  | [] => false

/-- The head is tested, and a cascade may follow; it ends within as many resolutions as there are entries.
A cut leaves it off after so many of them, with what comes after it (R154). DESIGN CHOICE, safe (log 40). -/
def testHead (s : State) (k : SlotNo) (cut : Option Nat) (rest : AfterCascade) : State :=
  let t := cascade (cut.getD (s.service k).window.length) s k
  if cut.isSome ∧ t.headReady k then { t with cascading := some ⟨k, rest⟩ } else t

/-! ### Service state (R38) -/

/-- The state that tracking set and window give. -/
def Service.stateNow (v : Service) : ServiceState :=
  if v.tracking.isEmpty && v.window.isEmpty then .dark else .live

/-- A service that goes DARK (R38). -/
def Service.darkened (v : Service) : Service :=
  { v with
    state := .dark
    front := none
    refN := none
    lastSelected := none
    counters := { v.counters with darkMark := true } }

/-- Re-evaluation of the service state: a change is signalled, and a service that becomes DARK clears its
front, reference N and last selected path, and sets its dark mark. -/
def review (s : State) (k : SlotNo) : State :=
  let v := s.service k
  if v.stateNow = v.state then s
  else
    let t := s.updService k fun v =>
      match v.stateNow with
      | .live => { v with state := .live }
      | .dark => v.darkened
    match (s.slotConfig k).bind ServiceConfig.port with
    | some x => t.signalService x v.stateNow
    | none => t

/-- Re-evaluation at the end of what a command of the merge unit does; a cascade left off has its own end. -/
def reviewAtEnd (s : State) (k : SlotNo) : State := if s.cascading.isSome then s else review s k

/-! ### Arrival of a copy (R41 to R45) -/

/-- The configured service whose contributor set holds a path (R37). -/
def State.serviceOf (s : State) (p : Path) : Option SlotNo :=
  four.find? fun k => (s.slotConfig k).isSome && (s.service k).contributors.get p

/-- A copy discarded as late (R42, R61). -/
def lateCopy (s : State) (k : SlotNo) (p : Path) : State :=
  (s.updService k fun v => { v with counters := { v.counters with late := v.counters.late.update p inc16 } }).sendPath
    p .refusal

/-- An entry goes before the first entry that lies farther from the anchor (R40). -/
def insertByDistance (n : Nat) (anchor : Position) (e : Entry) : List Entry → List Entry
  | [] => [e]
  | h :: t =>
    if distance n e.position anchor < distance n h.position anchor then e :: h :: t
    else h :: insertByDistance n anchor e t

/-- The window with a new entry at its place (R40, R44). -/
def Service.insertEntry (v : Service) (n : Nat) (e : Entry) : List Entry :=
  match v.front, v.window with
  | some f, w => insertByDistance n f e w
  | none, h :: t =>
    if newer n e.position h.position then insertByDistance n h.position e (h :: t) else e :: h :: t
  | none, [] => [e]

/-- The copy goes into its path's slot of the entry for its position (R43). -/
def storeCopy (n : Nat) (r : Record) : List Entry → List Entry
  | [] => []
  | e :: t =>
    if samePosition n e.position r.position then
      { e with copies := e.copies.set r.path (some ⟨r.status, r.packet⟩) } :: t
    else e :: storeCopy n r t

/-- Whether an entry heads a window. -/
def heads (n : Nat) (q : Position) (w : List Entry) : Bool :=
  match w with
  | e :: _ => samePosition n e.position q
  | [] => false

/-- A new entry opens (R44); as head it is tested at once. -/
def openEntry (s : State) (k : SlotNo) (c : ServiceConfig) (n : Nat) (r : Record) (cut : Option Nat) : State :=
  let v := s.service k
  let e : Entry :=
    { position := r.position
      openTime := s.now
      expiryTime := s.now + c.w * 1000
      awaited := v.tracking
      copies := (Quad.fill none).set r.path (some ⟨r.status, r.packet⟩) }
  let w := v.insertEntry n e
  let t := s.updService k fun v =>
    { v with
      window := w
      counters := { v.counters with windowPeak := max v.counters.windowPeak w.length } }
  if heads n r.position w then testHead t k cut .nothing else t

/-- R44: with no front, a position older than the head needs the tail to be newer than it. -/
def Service.admits (v : Service) (n : Nat) (q : Position) : Bool :=
  match v.front, v.window with
  | none, h :: t =>
    newer n q h.position || newer n ((h :: t).getLast?.getD h).position q
  | _, _ => true

/-- The late test (R42). -/
def Service.late (v : Service) (n : Nat) (q : Position) : Bool :=
  match v.front with
  | some f => !newer n q f
  | none => false

/-- The copy that forced a resolution is tested against the front again, and opens its entry (R45). -/
def openAfterForce (s : State) (k : SlotNo) (c : ServiceConfig) (n : Nat) (r : Record) (cut : Option Nat) : State :=
  if (s.service k).late n r.position then lateCopy s k r.path else openEntry s k c n r cut

/-- Opening with the window full forces one resolution first, with the cascade that follows (R45). A cut
counts the resolutions after the forced one. -/
def openOrForce (s : State) (k : SlotNo) (c : ServiceConfig) (n : Nat) (r : Record) (cut : Option Nat) : State :=
  if (s.service k).window.length < 48 then openEntry s k c n r cut
  else
    let forced := resolveHead s k true
    let t := testHead forced k cut (.opens r)
    let taken := (forced.service k).window.length - (t.service k).window.length
    if t.cascading.isSome then t else openAfterForce t k c n r (cut.map fun m => m - taken)

/-- What follows the mode check (R42 to R45). -/
def afterModeCheck (s : State) (k : SlotNo) (c : ServiceConfig) (n : Nat) (r : Record) (cut : Option Nat) : State :=
  let v := s.service k
  if v.late n r.position then lateCopy s k r.path
  else
    match v.window.find? fun e => samePosition n e.position r.position with
    | some e =>
      if (e.copies.get r.path).isSome then lateCopy s k r.path
      else
        let t := s.updService k fun v => { v with window := storeCopy n r v.window }
        if heads n r.position v.window then testHead t k cut .nothing else t
    | none => if v.admits n r.position then openOrForce s k c n r cut else lateCopy s k r.path

/-- The arrival of a record at its service (R41). -/
def arrive (s : State) (k : SlotNo) (c : ServiceConfig) (r : Record) (cut : Option Nat) : State :=
  match (s.service k).refN with
  | none => afterModeCheck (s.updService k fun v => { v with refN := some r.n }) k c r.n r cut
  | some n =>
    if r.n = n then afterModeCheck s k c n r cut
    else (s.sendPath r.path .refusal).sendPath r.path (.modeMismatch (s.mergeStays.get r.path))

/-! ### Leaving, park and unpark -/

/-- A path leaves the tracking set and every awaited set (R46, R49, R56). -/
def Service.without (v : Service) (p : Path) : Service :=
  { v with
    tracking := v.tracking.set p false
    window := v.window.map fun e => { e with awaited := e.awaited.set p false } }

/-- Flush (R58). -/
def Service.flushed (v : Service) : Service := { v with window := [], front := none }

/-- Thermal shutdown of one service (R59): DARK is signalled whatever the service was. -/
def shutService (s : State) (k : SlotNo) : State :=
  match s.slotConfig k with
  | some c =>
    let dark := s.updService k fun v => { v.flushed.darkened with tracking := .fill false }
    match c.port with
    | some x => dark.signalService x .dark
    | none => dark
  | none => s

/-- The stop order and the acknowledgement of a park (R56 (2)). -/
def stopParked (s : State) (p : Path) : State :=
  { s.sendPath p .stop with answers := s.answers ++ [.parked p] }

/-- The merge unit finishes a cascade that was left off, with what comes after it, before it takes the next
record, notice or request (R47). -/
def finishCascade (s : State) : State :=
  match s.cascading with
  | none => s
  | some a =>
    let t := testHead { s with cascading := none } a.slot none .nothing
    match a.rest, s.slotConfig a.slot with
    | .nothing, _ => review t a.slot
    | .opens r, some c => review (openAfterForce t a.slot c r.n r none) a.slot
    | .opens _, none => review t a.slot
    | .stops p, _ => stopParked (review t a.slot) p

/-! ### Meanings -/

/-- The next message of a path, with the state in which the merge unit has taken it. -/
def State.takeMessage (s : State) (p : Path) : Option (PathMessage × State) :=
  match (s.path p).outbox with
  | m :: rest => some (m, s.updPath p fun u => { u with outbox := rest })
  | [] => none

/-- The service that takes a path's message, none in SHUTDOWN (R37, R59). -/
def State.taker (s : State) (p : Path) : Option (SlotNo × ServiceConfig) :=
  if s.thermal.shutdown then none
  else (s.serviceOf p).bind fun k => (s.slotConfig k).map fun c => (k, c)

/-- The moment of a step of the merge unit, once it has finished what it left off. -/
def State.mergeAt (s : State) (moment : Moment) : State := (finishCascade s).tickTo moment.now

/-- COPY_ARRIVAL (R41 to R45). A record from a path outside the tracking set is disregarded (R37).
DEDUCED, safe (log 41). -/
def execCopyArrival (p : Path) (moment : Moment) (s : State) : Answered :=
  let m := s.mergeAt moment
  match m.takeMessage p with
  | some (.record r, t) =>
    match t.taker p with
    | some (k, c) =>
      if (t.service k).tracking.get p then .next (reviewAtEnd (arrive t k c r moment.cut) k) else .next t
    | none => .next t
  | _ => .next m

/-- ENTRY_EXPIRY (R47 (3), R50): the head's expiry time has been reached. -/
def execEntryExpiry (k : SlotNo) (moment : Moment) (s : State) : Answered :=
  let t := s.mergeAt moment
  match t.slotConfig k, (t.service k).window with
  | some _, e :: _ =>
    if e.expiryTime ≤ t.now ∧ t.thermal.shutdown = false then
      .next (reviewAtEnd (testHead t k moment.cut .nothing) k)
    else .next t
  | _, _ => .next t

/-- TRACKING_NOTICE (R48). -/
def execTrackingNotice (p : Path) (s : State) : Answered :=
  let m := finishCascade s
  match m.takeMessage p with
  | some (.tracking stay, t) =>
    match t.taker p with
    | some (k, _) =>
      .next (review
        ({ t with mergeStays := t.mergeStays.set p stay }.updService k
          fun v => { v with tracking := v.tracking.set p true }) k)
    | none => .next t
  | _ => .next m

/-- LEAVING_NOTICE (R49): disregarded from a path that is not in the tracking set. -/
def execLeavingNotice (p : Path) (moment : Moment) (s : State) : Answered :=
  let m := s.mergeAt moment
  match m.takeMessage p with
  | some (.leaving, t) =>
    match t.taker p with
    | some (k, _) =>
      if (t.service k).tracking.get p then
        .next (reviewAtEnd (testHead (t.updService k fun v => v.without p) k moment.cut .nothing) k)
      else .next t
    | none => .next t
  | _ => .next m

/-- PARK_REQUEST (R56): refused for a path in no contributor set and for the sole member of one;
neither taken nor answered in SHUTDOWN (R59). -/
def execParkRequest (moment : Moment) (s : State) : Answered :=
  let t := s.mergeAt moment
  match t.requests with
  | .park p :: rest =>
    if t.thermal.shutdown then .next t
    else
      let u := { t with requests := rest }
      match u.serviceOf p with
      | some k =>
        if 2 ≤ (u.service k).contributors.count then
          let left := u.updService k fun v => { v.without p with contributors := v.contributors.set p false }
          let settled := reviewAtEnd (testHead left k moment.cut (.stops p)) k
          if settled.cascading.isSome then .next settled else .next (stopParked settled p)
        else .next { u with answers := u.answers ++ [.parkRefused p] }
      | none => .next { u with answers := u.answers ++ [.parkRefused p] }
  | _ => .next t

/-- The configured service of which a path is a configured contributor (R57). -/
def State.configuredServiceOf (s : State) (p : Path) : Option SlotNo :=
  four.find? fun k => (s.slotConfig k).any fun c => c.contributors.get p

/-- Nothing that a path has sent is taken any more. -/
def State.disregardSent (s : State) (p : Path) : State := s.updPath p fun u => { u with outbox := [] }

/-- UNPARK_REQUEST (R57). The records and notices of the time in which the path was parked are disregarded, those
still on their way too (R56). DESIGN CHOICE, safe (log 42). -/
def execUnparkRequest (s : State) : Answered :=
  let t := finishCascade s
  match t.requests with
  | .unpark p :: rest =>
    if t.thermal.shutdown then .next t
    else
      let u := { t with requests := rest }
      match u.configuredServiceOf p with
      | some k =>
        if (u.service k).contributors.get p then .next { u with answers := u.answers ++ [.unparkRefused p] }
        else
          let joined := u.updService k fun v => { v with contributors := v.contributors.set p true }
          .next { (joined.disregardSent p).sendPath p .unpark with answers := joined.answers ++ [.unparked p] }
      | none => .next { u with answers := u.answers ++ [.unparkRefused p] }
  | _ => .next t

end Sys2Proof.Machine
end

