-- ==== Sys2Proof/Machine/Thermal.lean ====
section
/-! DEFINITION. The thermal controller (chapter 9): readings, shedding and unparking, shutdown and
recovery, and the answers it takes from the merge unit. -/

namespace Sys2Proof.Machine

/-! ### Shedding (R163, R164) -/

/-- The service with the most contributors, at least two; ties to the lower slot (R164 (1)). -/
def State.richestService (s : State) : Option SlotNo :=
  four.foldl
    (fun best k =>
      let n := (s.service k).contributors.count
      if (s.slotConfig k).isSome ∧ 2 ≤ n ∧ best.all (fun b => decide ((s.service b).contributors.count < n))
      then some k else best)
    none

/-- The contributor with the lowest configured priority; ties to the higher path (R164 (2)). -/
def lowestPriority (contributors : Quad Bool) (priority : Quad (Fin 4)) : Option Path :=
  four.foldl
    (fun best p =>
      if contributors.get p ∧ best.all (fun b => decide ((priority.get p).val ≤ (priority.get b).val))
      then some p else best)
    none

/-- The path to park (R164). -/
def State.pathToPark (s : State) : Option Path :=
  s.richestService.bind fun k =>
    (s.slotConfig k).bind fun c => lowestPriority (s.service k).contributors c.priority

/-- The shed test (R163, R165). -/
def shedTest (s : State) : State :=
  let found := if (s.config.tw : Int) ≤ s.thermal.reading ∧ s.thermal.spacing = 4 then s.pathToPark else none
  match found with
  | some p =>
    { s with
      requests := s.requests ++ [.park p]
      thermal := { s.thermal with outstanding := some (.park p), spacing := 0 } }
  | none => { s with thermal := { s.thermal with spacing := min 4 (s.thermal.spacing + 1) } }

/-! ### Unparking (R167, R168) -/

/-- The unpark of the top of the stack (R168); the level's fall to 0 is signalled (R166). -/
def unparkTop (s : State) (p : Path) (rest : List Path) : State :=
  { s with
    requests := s.requests ++ [.unpark p]
    thermal := { s.thermal with stack := rest, outstanding := some (.unpark p), cool := 0 }
    fitness := if rest = [] then s.fitness.signalShed false else s.fitness }

/-- The cool test (R167). -/
def coolTest (s : State) : State :=
  match s.thermal.stack with
  | [] => { s with thermal := { s.thermal with cool := 0 } }
  | p :: rest =>
    if s.thermal.reading ≤ (s.config.tw : Int) - 5 then
      if 8 ≤ s.thermal.cool + 1 then unparkTop s p rest
      else { s with thermal := { s.thermal with cool := s.thermal.cool + 1 } }
    else { s with thermal := { s.thermal with cool := 0 } }

/-! ### Shutdown (R170, R171) -/

/-- The line controller at thermal shutdown (R118). -/
def LineUnit.shutDown (l : LineUnit) : LineUnit :=
  { l with reception := .off, slots := .empty, retry := none, flight := none, heard := [] }

/-- The monitor output at thermal shutdown (R195). -/
def MonitorUnit.shutDown (m : MonitorUnit) : MonitorUnit := { m with current := none, queue := [] }

/-- The shutdown event, each block in its own way (R170). -/
def shutDown (s : State) : State :=
  let merged := four.foldl shutService s
  { merged with
    cascading := none
    thermal := { merged.thermal with shutdown := true, recovery := 0, outstanding := none }
    paths := merged.paths.map fun _ u => u.stopped
    ports := merged.ports.map fun x u => if (s.portConfig x).isSome then u.shutDown else u
    line := merged.line.shutDown
    election := merged.election.shutDown
    interval := { merged.interval with latched := false }
    loader := { merged.loader with releasing := false, releaseLimit := none, releasedReport := false }
    monitor := merged.monitor.shutDown }

/-! ### Readings (R161, R162, R172) -/

/-- The recovery test (R172) and the thermal restart it orders (R188). -/
def recoveryTest (s : State) (boot : BootInputs) : State :=
  if s.thermal.reading ≤ (s.config.tw : Int) - 10 then
    if 20 ≤ s.thermal.recovery + 1 then restart s .thermal boot
    else { s with thermal := { s.thermal with recovery := s.thermal.recovery + 1 } }
  else { s with thermal := { s.thermal with recovery := 0 } }

/-- The reading of an interval end (R162, R172). -/
def takeReading (s : State) (sensor : Int) (boot : BootInputs) : State :=
  let t := { s with thermal := { s.thermal with reading := clampInt sensor (-40) 150 } }
  if t.thermal.shutdown then recoveryTest t boot
  else if 125 ≤ t.thermal.reading then shutDown t
  else if t.thermal.outstanding ≠ none then t
  else coolTest (shedTest t)

/-! ### Meanings -/

/-- The push of R165 (1), R166, with the signal of a level that rises from 0. -/
def pushParked (s : State) (p : Path) : State :=
  { s with
    thermal := { s.thermal with stack := p :: s.thermal.stack, outstanding := none, cool := 0 }
    fitness := if s.thermal.stack = [] then s.fitness.signalShed true else s.fitness }

/-- Whether the path of an acknowledged park has still to take its stop (R165 (1)): it is not PARKED yet, or an
order that moves it waits. -/
def PathUnit.stopAwaited (u : PathUnit) : Bool := u.state != .parked || u.inbox.any fun o => o.parks.isSome

/-- PARK_ACKNOWLEDGEMENT (R165 (1), R171): it reaches the controller after the path has taken its stop order,
so the path is PARKED. DEDUCED, safe (log 16). -/
def execParkAcknowledgement (s : State) : Answered :=
  match s.answers with
  | .parked p :: rest =>
    if s.thermal.shutdown then .next { s with answers := rest }
    else if (s.path p).stopAwaited then .next s
    else if s.thermal.outstanding = some (.park p) then .next (pushParked { s with answers := rest } p)
    else .next { s with answers := rest }
  | _ => .next s

/-- PARK_REFUSAL (R165 (2)). -/
def execParkRefusal (s : State) : Answered :=
  match s.answers with
  | .parkRefused p :: rest =>
    let t := { s with answers := rest }
    if s.thermal.shutdown = false ∧ s.thermal.outstanding = some (.park p) then
      .next { t with thermal := { t.thermal with outstanding := none } }
    else .next t
  | _ => .next s

/-- The path an answer to an unpark request names. -/
def Answer.unparkOf : Answer → Option Path
  | .unparked p => some p
  | .unparkRefused p => some p
  | .parked _ => none
  | .parkRefused _ => none

/-- UNPARK_ACKNOWLEDGEMENT: the acknowledgement or the refusal of an unpark request (R168). -/
def execUnparkAcknowledgement (s : State) : Answered :=
  match s.answers with
  | a :: rest =>
    match a.unparkOf with
    | some p =>
      let t := { s with answers := rest }
      if s.thermal.shutdown = false ∧ s.thermal.outstanding = some (.unpark p) then
        .next { t with thermal := { t.thermal with outstanding := none } }
      else .next t
    | none => .next s
  | [] => .next s

end Sys2Proof.Machine
end

