-- ==== Sys2Proof/Machine/Interval.lean ====
section
/-! DEFINITION. The interval unit (chapter 4): the latch, the service figure, publication; and the
interval end as all its takers take it. -/

namespace Sys2Proof.Machine

/-! ### The latch (R67) -/

/-- What the latch leaves of a service's counters (R62 (1) to (4)). -/
def Service.cleared (v : Service) : Service :=
  { v with
    counters :=
      { ServiceCounters.reset with
        windowPeak := v.window.length
        darkMark := v.state == .dark
        cumulativeMissing := v.counters.cumulativeMissing
        cumulativeOutputUncorrectable := v.counters.cumulativeOutputUncorrectable } }

/-- Whether a path is in the tracking set of a configured service. -/
def State.tracked (s : State) (p : Path) : Bool :=
  four.any fun k => (s.slotConfig k).isSome && (s.service k).tracking.get p

/-- The working snapshot that the latch fills (R67, R68). -/
def State.latchedSnapshot (s : State) : Snapshot where
  paths := s.paths.map fun _ u => ⟨u.counters, u.cumulativeUncorrectable⟩
  mers := s.paths.map fun p u => if s.tracked p then u.measurements.map Measurement.mer else none
  services := s.services.map fun k v => (s.slotConfig k).map fun _ => ⟨v.counters, v.tracking⟩
  figures := .fill none
  ports := s.ports.map fun x u => match s.portConfig x with | some _ => u.part | none => .zero

/-- The latch event: every owner clears its counters in the same act. -/
def latch (s : State) : State :=
  { s with
    interval := { s.interval with working := some s.latchedSnapshot, latched := true, figured := false }
    paths := s.paths.map fun _ u => { u with counters := .zero }
    services := s.services.map fun k v => if (s.slotConfig k).isSome then v.cleared else v
    ports := s.ports.map fun x u => match s.portConfig x with | some c => u.cleared c.depth | none => u }

/-! ### The service figure (R69 to R75) -/

/-- R69. -/
def merInput (tracking : Quad Bool) (mers : Quad (Option Nat)) : Nat :=
  four.foldl (fun m p => if tracking.get p then max m ((mers.get p).getD 0) else m) 0

/-- R72. -/
def merPart (mer : Nat) : Nat := 2 * min mer 350

/-- R73. -/
def cleanPart (p u : Nat) : Nat := if u = 0 then 200 else 150 - 1000 * u / p

/-- R74. -/
def marginPart (p c : Nat) : Nat := 123 - min 123 (123 * c / (8 * p))

/-- R71, R75; `fit`: the station is FIT, `tracked`: the latched tracking set is not empty. -/
def serviceFigure (fit tracked : Bool) (mer p u c : Nat) : Nat :=
  if fit && tracked && p != 0 then merPart mer + cleanPart p u + marginPart p c else 0

/-- The figure part of one service (R70, R75). -/
def figureOf (fit : Bool) (mers : Quad (Option Nat)) (v : ServicePart) : FigurePart :=
  let mer := merInput v.tracking mers
  let p := min (v.counters.resolved + v.counters.missing) 65535
  let u := min (v.counters.outputUncorrectable + v.counters.missing) p
  let c := v.counters.correctedBytes
  ⟨mer, p, u, c, serviceFigure fit (!v.tracking.isEmpty) mer p u c⟩

/-- A snapshot with its figure parts filled. -/
def Snapshot.withFigures (w : Snapshot) (fit : Bool) : Snapshot :=
  { w with figures := w.services.map fun _ v => v.map (figureOf fit w.mers) }

/-- The computation of R76, once for each latch. DEDUCED, unsafe (log 5). -/
def computeFigures (s : State) : State :=
  match s.interval.working with
  | some w =>
    if s.interval.latched ∧ s.interval.figured = false then
      { s with
        interval :=
          { s.interval with
            working := some (w.withFigures (s.fitness.state == .fit))
            figured := true } }
    else s
  | none => s

/-! ### The interval end (R65, Table 4-1) -/

/-- One taker's part; outside SHUTDOWN all take it, in SHUTDOWN only the thermal controller does (R66). -/
def takeEnd (sensor : Int) (boot : BootInputs) (s : State) : Taker → State
  | .latch => if s.working then latch s else s
  | .figures => if s.working then computeFigures s else s
  | .ageing => if s.working then ageOnInterval s else s
  | .fitness => if s.working then fitnessOnInterval s else s
  | .thermal => takeReading s sensor boot

/-- Each taker of an order once, at its first place. -/
def firstPlaces : List Taker → List Taker
  | [] => []
  | t :: ts => t :: (firstPlaces ts).filter fun x => x != t

/-- The order given, each taker once, then the takers it leaves out. DESIGN CHOICE, safe (log 4). -/
def takersInOrder (order : List Taker) : List Taker :=
  firstPlaces order ++ ([.latch, .ageing, .fitness, .thermal].filter fun t => !order.contains t)

/-! ### Publication (R77) -/

/-- The rate update of one port from the published snapshot (R85). -/
def rateUpdatePort (s : State) (x : Port) : State :=
  match s.portConfig x with
  | some c =>
    let dark := ((s.interval.published.services.get c.slot).map fun v => v.counters.darkMark).getD true
    s.updPort x fun u => u.rateUpdate c.depth (s.interval.published.ports.get x) dark
  | none => s

/-- The published snapshot becomes the working one, whole. -/
def publish (s : State) : State :=
  match s.interval.working with
  | some w => { s with interval := { s.interval with published := w, latched := false } }
  | none => s

/-- Whether a latch awaits its publication, which SHUTDOWN makes none of (R66, R76). -/
def State.latchAwaits (s : State) : Bool := s.working && s.interval.latched && s.interval.working.isSome

/-- The publication of a latched snapshot with what falls in it: the rate updates, the evaluation of the
ports and the ANNOUNCE (R77, R85, R127, R131). -/
def publishLatched (s : State) : State :=
  if s.latchAwaits then
    electOnPublication (four.foldl rateUpdatePort (publish (computeFigures s)))
  else s

/-- Whether the fitness monitor's event would take the station from LISTEN to FIT (R148 (4)). -/
def State.becomesFit (s : State) : Bool :=
  s.fitness.state == .listen && (fitnessOnInterval s).fitness.state == .fit

/-- Whether a taker comes behind the publication. A change from LISTEN to FIT never does (R126), nor do the latch, the
computation (R76) and the ageing (R127 (6), R140). -/
def behindPublication (order : EndOrder) (s : State) : Taker → Bool
  | .thermal => order.publishFirst
  | .fitness => order.publishBeforeFitness && !s.becomesFit
  | .latch => false
  | .figures => false
  | .ageing => false

/-- The interval end of the takers named, in that order; a frame that one of them places starts on an IDLE
line. -/
def takeEnds (takers : List Taker) (sensor : Int) (boot : BootInputs) (s : State) : State :=
  trySend (takers.foldl (takeEnd sensor boot) s)

/-! ### Meanings -/

/-- INTERVAL_END (R65): it is not taken before the publication of the latch before it (R76): DEDUCED, safe
(log 22). Where a taker comes behind the publication, that falls in this command: behind it the reading is not yet
that of its ANNOUNCE (R161), and the station not yet UNFIT for its figures and its evaluation (R71, R141). -/
def execIntervalEnd (order : EndOrder) (sensor : Int) (boot : BootInputs) (s : State) : Answered :=
  if s.interval.running ∧ s.interval.latched = false then
    let takers := takersInOrder order.takers
    let behind := takers.filter (behindPublication order s)
    let before := (takers.filter fun t => !behindPublication order s t).foldl (takeEnd sensor boot) s
    if behind = [] then .next (trySend before)
    else
      let published := publishLatched before
      .next (takeEnds behind sensor boot (if order.startsBetween then trySend published else published))
  else .next s

/-- PUBLICATION (R76, R77). -/
def execPublication (s : State) : Answered :=
  if s.latchAwaits then .next (trySend (publishLatched s)) else .next s

end Sys2Proof.Machine
end

