-- ==== Sys2Proof/Machine/Responder.lean ====
section
/-! DEFINITION. The report responder and the monitor output (chapter 11): the report pages, the reply in
progress, and the meanings of the commands that take a frame for the responder. -/

namespace Sys2Proof.Machine

/-! ### Pieces of a page -/

/-- Bytes of FF hex. -/
def absentBytes (n : Nat) : List Byte := List.replicate n 0xFF

/-- One of the bytes of a page being built to which the manual gives no value. DESIGN CHOICE, safe (log 10). -/
def State.freeByte (s : State) (i : Nat) : Byte := Config.unstatedByte (s.freeDraws + i)

/-- How many draws one page takes. -/
def drawsPerPage : Nat := 8

/-- A list of block numbers: its length and its first two entries (Table 11-1). -/
def blockListBytes (l : List Nat) : List Byte :=
  [byte l.length, (l[0]?.map byte).getD 0xFF, (l[1]?.map byte).getD 0xFF]

/-! ### Page 0 (Table 11-1) -/

def FitnessUnit.lastResultBytes (f : FitnessUnit) (free : Nat → Byte) : List Byte :=
  match f.lastResult with
  | some r => byte r.slot.val :: (bytes2 r.checked ++ bytes2 r.mismatches)
  | none => [0xFF, free 0, free 1, free 2, free 3]

def FitnessUnit.mergeFaultBytes (f : FitnessUnit) (free : Nat → Byte) : List Byte :=
  match f.mergeFault with
  | some (k, n) => byte k.val :: bytes2 n
  | none => [0xFF, free 4, free 5]

def FitnessUnit.configFaultBytes (f : FitnessUnit) (free : Nat → Byte) : List Byte :=
  match f.configFault with
  | some v => 1 :: bytes2 v.toNat
  | none => [0, free 6, free 7]

/-- The parked stack from bottom to top, FF hex for each empty place. -/
def stackBytes (stack : List Path) : List Byte :=
  let up := stack.reverse
  (List.range 3).map fun i => (up[i]?.map fun p => byte p.val).getD 0xFF

def State.stationPage (s : State) : List Byte :=
  [fitnessFaultsByte s.fitness.state s.fitness.faults, byte s.loader.cause.code] ++
    bytes2 s.loader.restartCount ++
    [temperatureByte s.thermal.reading, byte s.thermal.stack.length] ++ stackBytes s.thermal.stack ++
    [flagByte s.loader.record.memoryAnswered, byte s.loader.record.notes] ++
    blockListBytes s.loader.record.corrected ++ blockListBytes s.loader.record.failed ++
    [(s.fitness.underCheck.map fun k => byte k.val).getD 0xFF] ++
    s.fitness.lastResultBytes s.freeByte ++ s.fitness.mergeFaultBytes s.freeByte ++
    bytes2 (s.fitness.checkValue.getD 0).toNat ++ s.fitness.configFaultBytes s.freeByte

/-! ### Pages 1 to 4 (Table 11-2) -/

def measurementBytes : Option Measurement → List Byte
  | some m => bytes2 m.mer ++ [byte m.level] ++ bytes3 (twosComplement 24 m.offset)
  | none => absentBytes 6

def decodedBytes : Option Decoded → List Byte
  | some d =>
    [byte d.symbolMode.code, byte d.guard.code, byte d.codeRate.code] ++ bytes2 d.n ++ bytes2 d.muxId.toNat
  | none => absentBytes 7

def counterBytes (q : Option Position) (free : Nat → Byte) : List Byte :=
  match q with
  | some q => [byte q.superframe.val, byte q.frame.val] ++ bytes2 q.packet
  | none => [free 0, 0xFF, free 1, free 2]

def PathCounters.bytes (c : PathCounters) : List Byte :=
  bytes2 c.delivered ++ bytes2 c.clean ++ bytes2 c.correctedPackets ++ bytes3 c.correctedBytes ++
    bytes2 c.uncorrectable ++ bytes2 c.refused ++ bytes2 c.slips ++ bytes2 c.continuityFaults

def State.pathPage (s : State) (p : Path) : List Byte :=
  let u := s.path p
  let part := s.interval.published.paths.get p
  [byte u.state.code, byte u.candidateIndex, byte u.attempts, byte u.lastFailure.code] ++
    measurementBytes u.measurements ++ decodedBytes u.decoded ++ counterBytes u.counter s.freeByte ++
    part.counters.bytes ++ bytes4 part.cumulativeUncorrectable

/-! ### Pages 5 to 8 (Table 11-3) -/

/-- The 24 bytes of selected, unselected and late, path by path. DEDUCED, unsafe (log 34). -/
def pathCountBytes (c : ServiceCounters) (contributors : Quad Bool) : List Byte :=
  four.flatMap fun p =>
    if contributors.get p then
      bytes2 (c.selected.get p) ++ bytes2 (c.unselected.get p) ++ bytes2 (c.late.get p)
    else List.replicate 6 0

def FigurePart.bytes (f : FigurePart) : List Byte :=
  bytes2 f.sf ++ bytes2 f.mer ++ bytes2 f.p ++ bytes2 f.u ++ bytes3 f.c

def ServiceCounters.bytes (c : ServiceCounters) (contributors : Quad Bool) : List Byte :=
  bytes2 c.resolved ++ bytes2 c.outputUncorrectable ++ bytes2 c.missing ++ bytes3 c.correctedBytes ++
    bytes2 c.forced ++ [byte c.windowPeak, flagByte c.darkMark] ++ pathCountBytes c contributors ++
    bytes4 c.cumulativeMissing ++ bytes4 c.cumulativeOutputUncorrectable

def ServiceState.code : ServiceState → Nat
  | .dark => 1
  | .live => 2

def State.servicePage (s : State) (k : SlotNo) : List Byte :=
  match s.slotConfig k with
  | some c =>
    [byte (s.service k).state.code] ++
      ((s.interval.published.figures.get k).getD ⟨0, 0, 0, 0, 0⟩).bytes ++
      (((s.interval.published.services.get k).map ServicePart.counters).getD .reset).bytes c.contributors
  | none => [0]

/-! ### Page 9 (Table 11-4) -/

def PortPart.bytes (q : PortPart) : List Byte :=
  [byte q.fill, byte q.peak] ++ bytes3 (q.rEst.getD 0xFFFFFF) ++ bytes2 (q.rOut.getD 0xFFFF) ++
    [byte q.activity.code] ++ bytes2 q.counters.marked ++ bytes2 q.counters.nulled ++
    bytes2 q.counters.omitted ++ bytes2 q.counters.sent ++ bytes2 q.counters.stuffed ++
    bytes2 q.counters.overflow ++ bytes2 q.counters.shadowDiscards ++ bytes2 q.counters.contentionEvents

/-- The 31 bytes of one port. -/
def State.portBytes (s : State) (x : Port) : List Byte :=
  match s.portConfig x with
  | some c =>
    [byte (s.elect x).lane.code, byte c.lane.val, flagByte (s.elect x).conflict] ++
      (s.interval.published.ports.get x).bytes ++ bytes4 (s.elect x).refused
  | none => [byte LaneState.disabled.code, 0xFF, 0] ++ PortPart.zero.bytes ++ bytes4 0

def State.portsPage (s : State) : List Byte := four.flatMap s.portBytes

/-! ### Pages 10 and 11 (Table 11-4) -/

def peerBytes : Option PeerEntry → List Byte
  | some e => [byte e.age, e.fitnessFaults, byte e.cause.code]
  | none => absentBytes 3

def State.peerPage (s : State) : List Byte := eight.flatMap fun i => peerBytes (s.election.peers.get i)

def LineCounters.bytes (c : LineCounters) : List Byte :=
  bytes4 c.badCheck ++ bytes4 c.truncated ++ bytes4 c.badLength ++ bytes4 c.badField ++
    bytes4 c.numberClashes ++ bytes4 c.arbitrationLosses ++ bytes4 c.readbackFaults ++
    bytes4 c.stuckEpisodes

def State.linePage (s : State) : List Byte := s.line.counters.bytes ++ [byte s.line.state.code]

/-! ### Replies (R189, R190) -/

/-- The content of a page (R191 to R193); a page above 11 is page 0 (R189 (1)). -/
def State.pageContent (s : State) (page : Nat) : List Byte :=
  match page with
  | 1 => s.pathPage 0
  | 2 => s.pathPage 1
  | 3 => s.pathPage 2
  | 4 => s.pathPage 3
  | 5 => s.servicePage 0
  | 6 => s.servicePage 1
  | 7 => s.servicePage 2
  | 8 => s.servicePage 3
  | 9 => s.portsPage
  | 10 => s.peerPage
  | 11 => s.linePage
  | _ => s.stationPage

/-- The page a QUERY's page byte asks for (R189 (1)). -/
def pageAsked (n : Nat) : Nat := if n ≤ 11 then n else 0

/-- The REPORT that carries part k of a page (R189 (3)). -/
def partOf (st : Station) (page : Nat) (content : List Byte) (k : Nat) : Frame :=
  reportOf st (byte (16 * k + page)) ((content.drop (31 * k)).take 31)

/-- Part k becomes the reply's part placed last, and goes into the REPORT slot. -/
def placePart (s : State) (page : Nat) (content : List Byte) (k : Nat) : State :=
  { s with reply := some ⟨page, content, k, s.line.serial⟩ }.placeFrame .report
    (partOf s.loader.stationNumber page content k)

/-- The taking of a QUERY (R189); the draws of its free bytes are used up. -/
def answerQuery (s : State) (asked : Nat) : State :=
  placePart { s with freeDraws := s.freeDraws + drawsPerPage } (pageAsked asked)
    (s.pageContent (pageAsked asked)) 0

/-- The sent notice of the REPORT slot (R190). -/
def sentReport (s : State) (serial : Nat) : State :=
  match s.reply with
  | some r =>
    if r.serial = serial then
      if 31 * (r.part + 1) < r.content.length then placePart s r.page r.content (r.part + 1)
      else { s with reply := none }
    else s
  | none => s

/-! ### Meanings -/

/-- Kinds 4, 6 and 7 act only in a frame addressed to this station (R111 (3)). -/
def takeAddressed (s : State) (kind : Fin 16) (act : State → Frame → State) : State :=
  match s.takeHeard (· == kind) with
  | some (f, t) => if f.station = t.loader.stationNumber then trySend (act t f) else trySend t
  | none => s

/-- A frame that is handed to no block (R111 (4)). -/
def takeUnread (s : State) (kinds : Fin 16 → Bool) : State :=
  match s.takeHeard kinds with
  | some (_, t) => trySend t
  | none => s

/-- QUERY_FRAME (R111, R189). -/
def execQueryFrame (s : State) : Answered :=
  .next (takeAddressed s 4 fun t f => answerQuery t (f.body.getD 0 0).toNat)

/-- The restart request (R185): ignored in RELEASING. -/
def requestRestart (s : State) : State :=
  if s.loader.releasing then s
  else electionRestart { s with loader := { s.loader with releasing := true, releaseLimit := some 20 } }

/-- RESTART_FRAME (R111, R185). -/
def execRestartFrame (s : State) : Answered := .next (takeAddressed s 6 fun t _ => requestRestart t)

/-- The selection of a monitor source (R194); a change of source empties the queue (R195).
DEDUCED, unsafe (log 17). -/
def MonitorUnit.choose (m : MonitorUnit) (src : MonitorSource) : MonitorUnit :=
  if m.source = src then m else { m with source := src, queue := [] }

/-- MONITOR_FRAME (R111, R194). -/
def execMonitorFrame (s : State) : Answered :=
  .next (takeAddressed s 7 fun t f =>
    { t with monitor := t.monitor.choose ((MonitorSource.ofCode (f.body.getD 0 0).toNat).getD .off) })

/-- REPORT_FRAME (R111 (4)): handed to no block. -/
def execReportFrame (s : State) : Answered := .next (takeUnread s (· == 5))

/-- UNDEFINED_KIND_FRAME, kinds 8 to 15 (R111 (4)): handed to no block. -/
def execUndefinedKindFrame (s : State) : Answered := .next (takeUnread s fun k => decide (8 ≤ k.val))

/-- The end of a packet on the monitor output (R195 (3)). -/
def MonitorUnit.endPacket (m : MonitorUnit) : MonitorUnit :=
  match m.current, m.queue with
  | some _, q :: rest => { m with current := some q, queue := rest }
  | some _, [] => { m with current := none }
  | none, _ => m

/-- MONITOR_PACKET_END (R195 (3)). -/
def execMonitorPacketEnd (s : State) : Answered := .next { s with monitor := s.monitor.endPacket }

end Sys2Proof.Machine
end

