-- ==== Sys2Proof/Machine/Line.lean ====
section
/-! DEFINITION. The Coordination Line controller (chapter 6): line state, reception, arbitration and the
frame that leaves the line; the meanings of the commands the line brings. -/

namespace Sys2Proof.Machine

/-- The controller tracks the line in LOADING and while the station runs; in power-on reset and in
SHUTDOWN it does not (R118, R119, R184). -/
def State.tracksLine (s : State) : Bool := s.loader.phase != .held && !s.thermal.shutdown

/-! ### Own frames and loss (R112) -/

/-- The cells of the frame in flight, while its end has not come. -/
def LineUnit.sending (l : LineUnit) : Option (Flight × List Bool) :=
  match l.flight with
  | some f => if f.ended then none else some (f, f.placed.frame.cells)
  | none => none

def LineCounters.countLoss (c : LineCounters) : LineCounters :=
  { c with arbitrationLosses := inc32 c.arbitrationLosses }

def LineCounters.countReadbackFault (c : LineCounters) : LineCounters :=
  { c with readbackFaults := inc32 c.readbackFaults }

/-- The frame in flight is lost at a cell that was sent as `sent` and read otherwise (R112 (2), (3)). -/
def loseSending (s : State) (f : Flight) (sent : Bool) : State :=
  let counted := if sent then s.line.counters.countLoss else s.line.counters.countReadbackFault
  loseFlight { s with line := { s.line with counters := counted } } f

/-- The cell that read other than it was sent: `sent` is what the own frame held there. The cells up to
it read as sent (R109, R112 (2), (3)). -/
def loseAtCell (s : State) (f : Flight) (cells : List Bool) (cell : Nat) (sent : Bool) : State :=
  loseSending { s with line := { s.line with reception := .collecting (cells.take cell ++ [!sent]) } } f sent

/-- A loss that a command reports at a given cell: the own frame is being sent, the cell comes after the
start cell and after those already read, and its frame held `sent` there. In STUCK nothing is received, and the
loss leaves it so (R109, R114). -/
def loseWhere (s : State) (cell : Nat) (sent : Bool) : State :=
  match s.line.sending with
  | some (f, cells) =>
    if cells[cell]? = some sent then
      match s.line.reception with
      | .collecting read => if read.length ≤ cell then loseAtCell s f cells cell sent else s
      | _ => if s.line.state = .stuck ∧ 0 < cell then loseSending s f sent else s
    else s
  | none => s

/-- ARBITRATION_LOSS (R112 (2)). -/
def execArbitrationLoss (cell : Nat) (s : State) : Answered := .next (loseWhere s cell true)

/-- READBACK_FAULT (R112 (3)). -/
def execReadbackFault (cell : Nat) (s : State) : Answered := .next (loseWhere s cell false)

/-! ### A falling edge (R104, R109, R114 (3)) -/

/-- The cell of an edge that finds the line IDLE: a pending frame starts on it, else a cell that reads 0
begins a reception and one that reads 1 is a noise pulse. Behind an own frame that is still to leave none starts:
DESIGN CHOICE, safe (log 13). -/
def edgeOnIdle (s : State) (sample : Bool) : State :=
  let begun := trySend s
  if begun.line.state = .idle then
    { begun with
      line :=
        { begun.line with
          state := .busy
          reception := if sample then .noise else .collecting [false] } }
  else begun

/-- The cell of an edge that finds the line BUSY: it is collected; where it reads other than the frame in
flight holds, that frame is lost. -/
def edgeOnBusy (s : State) (sample : Bool) : State :=
  match s.line.reception with
  | .collecting read =>
    match s.line.sending with
    | some (f, cells) =>
      if cells[read.length]? = some (!sample) then loseAtCell s f cells read.length (!sample)
      else { s with line := { s.line with reception := .collecting (read ++ [sample]) } }
    | none => { s with line := { s.line with reception := .collecting (read ++ [sample]) } }
  | _ => s

/-- FALLING_EDGE (R103, R104, R109). -/
def execFallingEdge (sample : Bool) (s : State) : Answered :=
  if s.tracksLine then
    match s.line.state with
    | .idle => .next (edgeOnIdle s sample)
    | .busy => .next (edgeOnBusy s sample)
    | .stuck => .next s
  else .next s

/-! ### The line becomes IDLE (R104, R105, R110, R111) -/

/-- The cells of the frame that ends. Own cells that read as sent need no edge of their own, so a
reception that has read nothing but a part of the own frame stands for the whole of it. DESIGN CHOICE, safe (log 12). -/
def LineUnit.endedCells (l : LineUnit) (read : List Bool) : List Bool :=
  match l.sending with
  | some (_, cells) => if read.isPrefixOf cells then cells else read
  | none => read

/-- The end of a frame: its tests, and its handing on (R110, R111). Own frames go to no block; good ones
that end in LOADING are discarded (R119). -/
def endFrame (s : State) (read : List Bool) : State :=
  let test := testFrame (s.line.endedCells read)
  let own := s.line.sending.isSome
  let heard :=
    match test with
    | .good f => if own ∨ s.loader.phase ≠ .running then s.line.heard else s.line.heard ++ [f]
    | _ => s.line.heard
  { s with
    line :=
      { s.line with
        counters := s.line.counters.countTest test
        heard := heard
        flight := s.line.flight.map fun f => { f with ended := true } } }

/-- The line state and the signals of its departure from STUCK (R104, R144, R151 (1)). -/
def lineClears (s : State) : State :=
  let idle := { s with line := { s.line with state := .idle, reception := .off } }
  if s.line.state = .stuck then
    { idle with
      election := { idle.election with lineStuck := false }
      fitness := idle.fitness.signalLine false }
  else idle

/-- Whether a good frame goes to a block of this station (R111 (2) to (4)). -/
def Frame.reaches (f : Frame) (st : Station) : Bool :=
  match f.kind.val with
  | 0 => f.station != st
  | 1 => f.station != st
  | 2 => f.station != st
  | 3 => f.station != st
  | 4 => f.station == st
  | 6 => f.station == st
  | 7 => f.station == st
  | _ => false

/-- A pending frame starts at once (R114 (1)). Where a good frame that goes to a block ended with it, either
comes first (R116): a free draw says whether the start comes now, or in the step that takes the frame.
DESIGN CHOICE, safe (log 13). -/
def startAtIdle (s : State) : State :=
  if s.line.choose.isSome ∧ s.line.flight.isNone ∧ s.line.heard.any (fun f => f.reaches s.loader.stationNumber) then
    let drawn := { s with freeDraws := s.freeDraws + 1 }
    if Config.startsFirst s.freeDraws then trySend drawn else drawn
  else trySend s

/-- A frame still being sent is lost as by arbitration, wherever that falls (R114). -/
def loseToStuck (s : State) : State :=
  match s.line.sending with
  | some (f, _) => loseSending s f true
  | none => s

/-- LINE_IDLE (R104, R105, R110, R111, R114). Behind an own frame a pending one starts in the step in which
that leaves the line. DESIGN CHOICE, safe (log 13). A frame still being sent as STUCK clears is lost then, so that it
is retried in every case (R114). DEDUCED, safe (log 45). -/
def execLineIdle (s : State) : Answered :=
  if s.tracksLine ∧ s.line.state ≠ .idle then
    let ended :=
      match s.line.reception with
      | .collecting read => endFrame s read
      | _ => s
    .next (startAtIdle (lineClears (if s.line.state = .stuck then loseToStuck ended else ended)))
  else .next s

/-! ### STUCK (R104, R109, R114) -/

/-- What the entry to STUCK does to a reception (R109). -/
def cutReception (s : State) : State :=
  match s.line.reception with
  | .collecting _ =>
    { s with
      line :=
        { s.line with
          reception := .off
          counters := { s.line.counters with truncated := inc32 s.line.counters.truncated } } }
  | _ => { s with line := { s.line with reception := .off } }

/-- Whether the frame in flight has a 1 behind the cells collected so far, at which a held line lets it lose (R114).
Its cells count as sent as far as they have been collected: DESIGN CHOICE, safe (log 45). A frame whose cells have all
been sent, but whose end has not come, has none left, and so fails to leave as in the last case of R114, though R113 has
what follows its last cell only delay its leaving: DESIGN CHOICE, unsafe (log 45). -/
def LineUnit.hasOneLeft (l : LineUnit) : Bool :=
  let read : List Bool := match l.reception with | .collecting read => read | _ => []
  l.sending.any fun q => (q.2.drop read.length).contains true

/-- LINE_STUCK (R104, R109, R114, R135 (5), R144, R151 (1)). A frame that has no 1 left is lost at once; any other
goes on until its next 1, at an ARBITRATION_LOSS. -/
def execLineStuck (s : State) : Answered :=
  if s.tracksLine ∧ s.line.state = .busy then
    let cut := cutReception (if s.line.hasOneLeft then s else loseToStuck s)
    .next (electionStuck
      { cut with
        line :=
          { cut.line with
            state := .stuck
            counters := { cut.line.counters with stuckEpisodes := inc32 cut.line.counters.stuckEpisodes } }
        fitness := cut.fitness.signalLine true })
  else .next s

/-! ### A frame leaves the line (R113) -/

/-- The sent notice to the block that placed the frame (R113, R132, R190). -/
def sendNotice (s : State) (f : Flight) : State :=
  match f.slot with
  | .lane x => sentLane s x f.placed.frame
  | .announce => s
  | .report => sentReport s f.placed.serial

/-- FRAME_LEAVES_LINE (R113): a frame pending by then starts on an IDLE line (R114 (1)). -/
def execFrameLeavesLine (s : State) : Answered :=
  match s.line.flight with
  | some f =>
    if f.ended then .next (trySend (sendNotice { s with line := { s.line with flight := none } } f))
    else .next s
  | none => .next s

end Sys2Proof.Machine
end

