-- ==== Sys2Proof/Machine/Dispatch.lean ====
section
/-! DEFINITION. The meaning of every command, one arm a constructor. -/

namespace Sys2Proof.Machine

def exec (i : Instr) (s : State) : Host.Outcome State Fault Refusal :=
  match i with
  | .powerOnReset pinAsserted boot => Sys2Proof.Machine.execPowerOnReset pinAsserted boot s
  | .endOfLoading => Sys2Proof.Machine.execEndOfLoading s
  | .gainSettled a level => Sys2Proof.Machine.execGainSettled a level s
  | .modeDetected a symbolMode guard codeRate => Sys2Proof.Machine.execModeDetected a symbolMode guard codeRate s
  | .timingSettled a => Sys2Proof.Machine.execTimingSettled a s
  | .locked a read => Sys2Proof.Machine.execLocked a read s
  | .acquisitionTimerExpiry a => Sys2Proof.Machine.execAcquisitionTimerExpiry a s
  | .packetCompleted p status packet => Sys2Proof.Machine.execPacketCompleted p status packet s
  | .frameStart p signalling => Sys2Proof.Machine.execFrameStart p signalling s
  | .lossOfFrameSync p => Sys2Proof.Machine.execLossOfFrameSync p s
  | .regained a read => Sys2Proof.Machine.execRegained a read s
  | .pathFrameEnd p measured => Sys2Proof.Machine.execPathFrameEnd p measured s
  | .stopOrder p => Sys2Proof.Machine.execStopOrder p s
  | .unparkOrder p => Sys2Proof.Machine.execUnparkOrder p s
  | .modeMismatchOrder p => Sys2Proof.Machine.execModeMismatchOrder p s
  | .refusalNotice p => Sys2Proof.Machine.execRefusalNotice p s
  | .copyArrival p moment => Sys2Proof.Machine.execCopyArrival p moment s
  | .entryExpiry k moment => Sys2Proof.Machine.execEntryExpiry k moment s
  | .trackingNotice p => Sys2Proof.Machine.execTrackingNotice p s
  | .leavingNotice p moment => Sys2Proof.Machine.execLeavingNotice p moment s
  | .parkRequest moment => Sys2Proof.Machine.execParkRequest moment s
  | .unparkRequest => Sys2Proof.Machine.execUnparkRequest s
  | .parkAcknowledgement => Sys2Proof.Machine.execParkAcknowledgement s
  | .parkRefusal => Sys2Proof.Machine.execParkRefusal s
  | .unparkAcknowledgement => Sys2Proof.Machine.execUnparkAcknowledgement s
  | .intervalEnd order sensor boot => Sys2Proof.Machine.execIntervalEnd order sensor boot s
  | .publication => Sys2Proof.Machine.execPublication s
  | .dueEvent x => Sys2Proof.Machine.execDueEvent x s
  | .portServiceStateSignal x => Sys2Proof.Machine.execPortServiceStateSignal x s
  | .packetSeen x => Sys2Proof.Machine.execPacketSeen x s
  | .activityTimerExpiry x => Sys2Proof.Machine.execActivityTimerExpiry x s
  | .readbackComparison x read starts => Sys2Proof.Machine.execReadbackComparison x read starts s
  | .packetEnd x => Sys2Proof.Machine.execPacketEnd x s
  | .finishedNotice x => Sys2Proof.Machine.execFinishedNotice x s
  | .contentionNotice x => Sys2Proof.Machine.execContentionNotice x s
  | .electionServiceStateSignal x => Sys2Proof.Machine.execElectionServiceStateSignal x s
  | .laneActivitySignal x => Sys2Proof.Machine.execLaneActivitySignal x s
  | .settleTimerExpiry x => Sys2Proof.Machine.execSettleTimerExpiry x s
  | .yieldWaitExpiry x => Sys2Proof.Machine.execYieldWaitExpiry x s
  | .holdTimerExpiry x => Sys2Proof.Machine.execHoldTimerExpiry x s
  | .lineIdle => Sys2Proof.Machine.execLineIdle s
  | .lineStuck => Sys2Proof.Machine.execLineStuck s
  | .arbitrationLoss cell => Sys2Proof.Machine.execArbitrationLoss cell s
  | .readbackFault cell => Sys2Proof.Machine.execReadbackFault cell s
  | .frameLeavesLine => Sys2Proof.Machine.execFrameLeavesLine s
  | .announceFrame => Sys2Proof.Machine.execAnnounceFrame s
  | .claimFrame => Sys2Proof.Machine.execClaimFrame s
  | .releaseFrame => Sys2Proof.Machine.execReleaseFrame s
  | .contentionFrame => Sys2Proof.Machine.execContentionFrame s
  | .queryFrame => Sys2Proof.Machine.execQueryFrame s
  | .restartFrame => Sys2Proof.Machine.execRestartFrame s
  | .monitorFrame => Sys2Proof.Machine.execMonitorFrame s
  | .reportFrame => Sys2Proof.Machine.execReportFrame s
  | .undefinedKindFrame => Sys2Proof.Machine.execUndefinedKindFrame s
  | .releasedReport boot => Sys2Proof.Machine.execReleasedReport boot s
  | .releaseLimitExpiry boot => Sys2Proof.Machine.execReleaseLimitExpiry boot s
  | .monitorPacketEnd => Sys2Proof.Machine.execMonitorPacketEnd s
  | .fallingEdge sample => Sys2Proof.Machine.execFallingEdge sample s
  | .resetPinRelease boot => Sys2Proof.Machine.execResetPinRelease boot s

end Sys2Proof.Machine
end

