-- ==== Sys2Proof/Safety.lean ====
section
/-! DEFINITION. What the manual calls the laws of the device, as predicates on a state, and the ranges of
Tables 1-1, 2-1, 2-5, 3-3, 5-4, 6-6, 7-1, 8-1 and 9-1 that every step keeps; and the terms in which statements
tell an outcome without the operations of the meanings. -/

namespace Sys2Proof.Machine

/-! ### Lanes -/

/-- A port whose drivers are on is DRIVING or HOLDING (R95). -/
def State.drivesInDriveOnly (s : State) : Prop :=
  ∀ x, (s.port x).driversOn = true → (s.elect x).lane = .driving ∨ (s.elect x).lane = .holding

/-- A port in CLAIMING, DRIVING or HOLDING belongs to a station that is FIT and not in SHUTDOWN (R141). -/
def State.electsWhenFit (s : State) : Prop :=
  ∀ x, ((s.elect x).lane = .claiming ∨ (s.elect x).lane = .driving ∨ (s.elect x).lane = .holding) →
    s.fitness.state = .fit ∧ s.thermal.shutdown = false

/-- A port that is not DISABLED is a bound port of a working station (R80, R126, R143, R145). -/
def State.activePortsBound (s : State) : Prop :=
  ∀ x, (s.elect x).lane ≠ .disabled →
    (s.portConfig x).isSome = true ∧ s.loader.phase = .running ∧ s.thermal.shutdown = false

/-- Only a port in DRIVING or HOLDING carries a finish mark (R125). -/
def State.marksOnDrivers (s : State) : Prop :=
  ∀ x, (s.elect x).mark ≠ none → (s.elect x).lane = .driving ∨ (s.elect x).lane = .holding

/-- The four together: the first needs the third to be kept by a step, and the third the fourth. -/
def State.laneLaw (s : State) : Prop :=
  s.drivesInDriveOnly ∧ s.electsWhenFit ∧ s.activePortsBound ∧ s.marksOnDrivers

/-! ### Merge windows -/

/-- A window holds at most 48 entries (R39). -/
def State.windowsBounded (s : State) : Prop := ∀ k, (s.service k).window.length ≤ 48

/-- Every entry of a window holds at least one copy (R39). -/
def State.entriesHoldCopies (s : State) : Prop :=
  ∀ k, ∀ e ∈ (s.service k).window, ∃ p, (e.copies.get p).isSome = true

/-- A service is DARK while its tracking set and its window are both empty, and LIVE otherwise (R38). -/
def Service.stateFollows (v : Service) : Prop :=
  v.state = .dark ↔ (∀ p, v.tracking.get p = false) ∧ v.window = []

def State.statesFollow (s : State) : Prop := ∀ k, (s.service k).stateFollows

/-- A packets-per-frame N of a locked path (Table 2-1). -/
def sizeOk (n : Nat) : Prop := 64 ≤ n ∧ n ≤ 8192

/-- A record's N and packet index lie in their ranges (Table 2-1). -/
def Record.inRange (r : Record) : Prop := sizeOk r.n ∧ r.position.packet < r.n

/-- Positions rise strictly from head to tail, so that none stands twice, and each is newer than the front
when one is set (R39, R40). -/
def Service.ordered (v : Service) (n : Nat) : Prop :=
  v.window.Pairwise (fun a b => newer n b.position a.position = true) ∧
    ∀ f, v.front = some f → ∀ e ∈ v.window, newer n e.position f = true

/-- The order law of one service by its reference N, which it has whenever a front is set or an entry waits;
every packet index lies below N (R39 to R41). -/
def Service.orderLaw (v : Service) : Prop :=
  (v.refN = none → v.window = [] ∧ v.front = none) ∧
    ∀ n, v.refN = some n → sizeOk n ∧ v.ordered n ∧ (∀ e ∈ v.window, e.position.packet < n) ∧
      ∀ f, v.front = some f → f.packet < n

def State.windowsOrdered (s : State) : Prop := ∀ k, (s.service k).orderLaw

/-- What a path delivers lies in range: its signalled N, its counter, its last delivered position, and the
records on their way (Table 2-1, R8 (3), R22). -/
def PathUnit.positionsInRange (u : PathUnit) : Prop :=
  (∀ d, u.decoded = some d → sizeOk d.n ∧ (∀ q, u.counter = some q → q.packet < d.n) ∧
      ∀ q, u.lastDelivered = some q → q.packet < d.n) ∧
    ∀ r, .record r ∈ u.outbox → r.inRange

def State.recordsInRange (s : State) : Prop := ∀ p, (s.path p).positionsInRange

/-- A copy whose forced resolution was cut still has room in the window and a place of its own (R45, R154). -/
def State.cutKeepsRoom (s : State) : Prop :=
  ∀ k r, s.cascading = some ⟨k, .opens r⟩ →
    (s.slotConfig k).isSome = true ∧ r.inRange ∧ (s.service k).window.length ≤ 47 ∧
      (s.service k).refN = some r.n ∧ (s.service k).front ≠ none ∧
      ∀ e ∈ (s.service k).window, samePosition r.n e.position r.position = false

def State.windowLaw (s : State) : Prop :=
  s.windowsBounded ∧ s.entriesHoldCopies ∧ s.statesFollow ∧ s.windowsOrdered ∧ s.recordsInRange ∧ s.cutKeepsRoom

/-- A configured service's contributor set holds at least one path (R56), a contributor is one of the
service's configured contributors, and no path is one of two services (R36, R37). -/
def State.contributorLaw (s : State) : Prop :=
  ∀ k c, s.slotConfig k = some c →
    (∃ p, (s.service k).contributors.get p = true) ∧
      (∀ p, (s.service k).contributors.get p = true → c.contributors.get p = true) ∧
      ∀ j d, j ≠ k → s.slotConfig j = some d → ∀ p, ¬ (c.contributors.get p = true ∧ d.contributors.get p = true)

/-! ### Port FIFOs -/

/-- A bound port's FIFO has depth 32, 64 or 128 and holds no more than its depth (R83), and its peak
deviation is at most half the depth (R84). -/
def State.fifoLaw (s : State) : Prop :=
  ∀ x c, s.portConfig x = some c →
    (c.depth = 32 ∨ c.depth = 64 ∨ c.depth = 128) ∧ (s.port x).fifo.length ≤ c.depth ∧
      (s.port x).peak ≤ c.depth / 2

/-! ### Figures and peers -/

/-- Every figure of a snapshot is at most 1023 (R71). -/
def Snapshot.figuresBounded (w : Snapshot) : Prop := ∀ k f, w.figures.get k = some f → f.sf ≤ 1023

def State.figureLaw (s : State) : Prop :=
  s.interval.published.figuresBounded ∧ ∀ w, s.interval.working = some w → w.figuresBounded

/-- A present peer view entry has age 0 to 2 (R122). -/
def State.peerLaw (s : State) : Prop := ∀ i e, s.election.peers.get i = some e → e.age ≤ 2

/-! ### Ranges of counts -/

/-- Interval counters of a path within their widths (Table 2-5, R32). -/
def PathCounters.inRange (c : PathCounters) : Prop :=
  c.delivered ≤ 65535 ∧ c.clean ≤ 65535 ∧ c.correctedPackets ≤ 65535 ∧ c.correctedBytes ≤ 1048575 ∧
    c.uncorrectable ≤ 65535 ∧ c.refused ≤ 65535 ∧ c.slips ≤ 65535 ∧ c.continuityFaults ≤ 65535

/-- The three measurements within the limits to which they are clamped (R16). -/
def Measurement.inRange (m : Measurement) : Prop :=
  m.mer ≤ 400 ∧ (20 ≤ m.level ∧ m.level ≤ 100) ∧ -100000 ≤ m.offset ∧ m.offset ≤ 100000

/-- Attempts 0 or 1 (R13), an uncorrectable run of 0 to 24 and below 24 in TRACKING (R10), measurements in range, a
continuity table of at most 8 entries (R30), counters within their widths (R32, R34). -/
def PathUnit.inRange (u : PathUnit) : Prop :=
  u.attempts ≤ 1 ∧ u.run ≤ 24 ∧ (u.state = .tracking → u.run ≤ 23) ∧
    (∀ m, u.measurements = some m → m.inRange) ∧ u.continuity.length ≤ 8 ∧ u.counters.inRange ∧
    u.cumulativeUncorrectable ≤ 4294967295

/-- The path parts of a snapshot. -/
def Snapshot.pathsInRange (w : Snapshot) : Prop :=
  ∀ p, (w.paths.get p).counters.inRange ∧ (w.paths.get p).cumulativeUncorrectable ≤ 4294967295

/-- Every path in range, its candidate index on its list, which has at most four entries and none before the station
has started (Table 1-1, R1), and the snapshots' path parts. -/
def State.pathRanges (s : State) : Prop :=
  (∀ p, (s.path p).inRange ∧ (s.config.candidates.get p).length ≤ 4 ∧
    ((s.path p).candidateIndex = 0 ∨ (s.path p).candidateIndex < (s.config.candidates.get p).length)) ∧
  (s.loader.phase ≠ .running → ∀ p, s.config.candidates.get p = []) ∧
  s.interval.published.pathsInRange ∧ ∀ w, s.interval.working = some w → w.pathsInRange

/-- Interval counters of a port within 16 bits (Table 5-4, R99). -/
def PortCounters.inRange (c : PortCounters) : Prop :=
  c.entered ≤ 65535 ∧ c.marked ≤ 65535 ∧ c.nulled ≤ 65535 ∧ c.omitted ≤ 65535 ∧ c.overflow ≤ 65535 ∧
    c.sent ≤ 65535 ∧ c.stuffed ≤ 65535 ∧ c.shadowDiscards ≤ 65535 ∧ c.contentionEvents ≤ 65535

/-- Counters within their widths (R99), mismatch count below 2 between events (R97), R_est and R_out within
their limits (R85, R88). -/
def PortUnit.inRange (u : PortUnit) : Prop :=
  u.counters.inRange ∧ u.mismatch ≤ 1 ∧ (∀ r, u.rEst = some r → r ≤ 131070) ∧
    ∀ r, u.rOut = some r → 1000 ≤ r ∧ r ≤ 40000

/-- The port parts of a snapshot; from their entered counts rates follow (R85). -/
def Snapshot.portsInRange (w : Snapshot) : Prop := ∀ x, (w.ports.get x).counters.inRange

def State.portRanges (s : State) : Prop :=
  (∀ x, (s.port x).inRange) ∧ s.interval.published.portsInRange ∧
    ∀ w, s.interval.working = some w → w.portsInRange

/-- Counters of a service within their widths, a window peak of at most 48 (Table 3-3, R62, R63). -/
def ServiceCounters.inRange (c : ServiceCounters) : Prop :=
  c.resolved ≤ 65535 ∧ c.outputUncorrectable ≤ 65535 ∧ c.missing ≤ 65535 ∧ c.correctedBytes ≤ 1048575 ∧
    c.forced ≤ 65535 ∧
    (∀ p, c.selected.get p ≤ 65535 ∧ c.unselected.get p ≤ 65535 ∧ c.late.get p ≤ 65535) ∧
    c.windowPeak ≤ 48 ∧ c.cumulativeMissing ≤ 4294967295 ∧ c.cumulativeOutputUncorrectable ≤ 4294967295

/-- The service parts of a snapshot. -/
def Snapshot.servicesInRange (w : Snapshot) : Prop := ∀ k v, w.services.get k = some v → v.counters.inRange

/-- With the bound on the windows, on which the window peak rests. -/
def State.serviceRanges (s : State) : Prop :=
  (∀ k, (s.service k).counters.inRange ∧ (s.service k).window.length ≤ 48) ∧
    (∀ k r, s.cascading = some ⟨k, .opens r⟩ → (s.service k).window.length ≤ 47) ∧
    s.interval.published.servicesInRange ∧ ∀ w, s.interval.working = some w → w.servicesInRange

/-- The line controller's counters within 32 bits (Table 6-6, R117). -/
def State.lineRanges (s : State) : Prop :=
  let c := s.line.counters
  c.badCheck ≤ 4294967295 ∧ c.truncated ≤ 4294967295 ∧ c.badLength ≤ 4294967295 ∧ c.badField ≤ 4294967295 ∧
    c.numberClashes ≤ 4294967295 ∧ c.arbitrationLosses ≤ 4294967295 ∧ c.readbackFaults ≤ 4294967295 ∧
    c.stuckEpisodes ≤ 4294967295

/-- Challenge counter 0 to 3, back-off count 0 to 16, refused claims within 32 bits (R125, R139, R146). -/
def PortElection.inRange (e : PortElection) : Prop :=
  e.challenge ≤ 3 ∧ e.backoff ≤ 16 ∧ e.refused ≤ 4294967295

def State.electionRanges (s : State) : Prop := ∀ x, (s.elect x).inRange

/-- Listen count 0 to 3 and check counts within 16 bits, those of the last result and of the merge fault record too
(Table 8-1, R155); spacing 0 to 4, cool count below 8,
recovery count below 20 and a reading of −40 to 150 between events (Table 9-1); the monitor's queue
holds at most 2 (R195); the restart count and the notes keep within their limits (R177, R183). -/
def State.unitRanges (s : State) : Prop :=
  s.fitness.listenCount ≤ 3 ∧ s.fitness.checked ≤ 65535 ∧ s.fitness.mismatches ≤ 65535 ∧
    (∀ r, s.fitness.lastResult = some r → r.checked ≤ 65535 ∧ r.mismatches ≤ 65535) ∧
    (∀ k n, s.fitness.mergeFault = some (k, n) → n ≤ 65535) ∧
    s.thermal.spacing ≤ 4 ∧ s.thermal.cool ≤ 7 ∧ s.thermal.recovery ≤ 19 ∧
    (-40 ≤ s.thermal.reading ∧ s.thermal.reading ≤ 150) ∧ s.monitor.queue.length ≤ 2 ∧
    s.loader.restartCount ≤ 65535 ∧ s.loader.record.notes ≤ 255

/-! ### The parked stack -/

/-- A path is out of its service by a park: in no configured service's contributor set, but a configured
contributor of one (R56). -/
def State.parkedOut (s : State) (p : Path) : Prop :=
  (∀ k, (s.slotConfig k).isSome = true → (s.service k).contributors.get p = false) ∧
    ∃ k c, s.slotConfig k = some c ∧ c.contributors.get p = true

/-- Whether a cut cascade has the stop of a parked path behind it. -/
def State.stopsAfterCascade (s : State) (p : Path) : Prop := ∃ k, s.cascading = some ⟨k, .stops p⟩

/-- The exchange of a working controller with the merge unit: no request, or the outstanding one in one
place, as request, as park being carried out, or as answer (R165, R168). -/
def State.exchangeLaw (s : State) : Prop :=
  match s.thermal.outstanding with
  | none => s.requests = [] ∧ s.answers = [] ∧ ∀ p, ¬ s.stopsAfterCascade p
  | some (.park p) =>
    p ∉ s.thermal.stack ∧
      ((s.requests = [.park p] ∧ s.answers = [] ∧ ∀ q, ¬ s.stopsAfterCascade q) ∨
        (s.requests = [] ∧ s.answers = [] ∧ s.stopsAfterCascade p ∧ s.parkedOut p) ∨
        (s.requests = [] ∧ s.answers = [.parked p] ∧ s.parkedOut p ∧ ∀ q, ¬ s.stopsAfterCascade q) ∨
        (s.requests = [] ∧ s.answers = [.parkRefused p] ∧ ∀ q, ¬ s.stopsAfterCascade q))
  | some (.unpark p) =>
    p ∉ s.thermal.stack ∧ (∀ q, ¬ s.stopsAfterCascade q) ∧
      ((s.requests = [.unpark p] ∧ s.answers = []) ∨
        (s.requests = [] ∧ (s.answers = [.unparked p] ∨ s.answers = [.unparkRefused p])))

/-- The parked stack holds at most three paths, none twice, and every path on it is PARKED (R166); each is
out of its service with no order to leave PARKED on its way, and before the station has started the stack
is empty. -/
def State.stackLaw (s : State) : Prop :=
  s.thermal.stack.length ≤ 3 ∧ s.thermal.stack.Nodup ∧
    (∀ p ∈ s.thermal.stack,
      (s.path p).state = .parked ∧ s.parkedOut p ∧ PathOrder.unpark ∉ (s.path p).inbox) ∧
    (s.loader.phase ≠ .running → s.thermal.stack = [] ∧ s.thermal.outstanding = none) ∧
    (s.thermal.shutdown = false → s.exchangeLaw)

/-! ### Shutdown -/

/-- What SHUTDOWN, which only a started station enters, leaves until the reset that ends it: every path
PARKED, no window entry and no cascade, every configured service DARK, no pending frame and none in flight,
every port DISABLED (R59, R118, R143, R170). -/
def State.quietInShutdown (s : State) : Prop :=
  s.thermal.shutdown = true →
    s.loader.phase = .running ∧ (∀ p, (s.path p).state = .parked) ∧ s.cascading = none ∧
    (∀ k c, s.slotConfig k = some c → (s.service k).window = [] ∧ (s.service k).state = .dark) ∧
    s.line.slots = .empty ∧ s.line.flight = none ∧ s.line.reception = .off ∧
    ∀ x, (s.elect x).lane = .disabled

/-- The interval timer runs in a started station only (R65, R79). -/
def State.timerWhenStarted (s : State) : Prop := s.interval.running = true → s.loader.phase = .running

def State.shutdownLaw (s : State) : Prop := s.timerWhenStarted ∧ s.quietInShutdown

/-! ### Terms that statements use -/

/-- Every block but the loader, the time base and the draw counter stands as the reset left it; of the
thermal controller, all but its latest reading. -/
def State.blocksAtReset (s : State) : Prop :=
  s.config = State.reset.config ∧ s.paths = State.reset.paths ∧ s.services = State.reset.services ∧
    s.cascading = none ∧ s.mergeStays = State.reset.mergeStays ∧ s.requests = [] ∧ s.answers = [] ∧
    s.portSignals = State.reset.portSignals ∧ s.electionSignals = State.reset.electionSignals ∧
    s.interval = State.reset.interval ∧ s.ports = State.reset.ports ∧ s.line = State.reset.line ∧
    s.election = State.reset.election ∧ s.fitness = State.reset.fitness ∧ s.reply = none ∧
    s.monitor = State.reset.monitor ∧
    s.thermal = { State.reset.thermal with reading := s.thermal.reading }

/-- The current candidate of a path expects another identifier than the one signalled. -/
def State.expectsOther (s : State) (p : Path) (muxId : Half) : Prop :=
  ∃ c e, (s.config.candidates.get p)[(s.path p).candidateIndex]? = some c ∧ c.expected = some e ∧ e ≠ muxId

/-- A path after a failure (R13, R4), told without the operations that the meanings use. -/
def PathUnit.failed (u : PathUnit) (list : List Candidate) (reason : Failure) : PathUnit :=
  let index :=
    if u.attempts = 0 then u.candidateIndex
    else if u.candidateIndex + 1 < list.length then u.candidateIndex + 1 else 0
  { u with
    state := .gain
    lastFailure := reason
    attempts := if u.attempts = 0 then 1 else 0
    candidateIndex := index
    selection := list[index]?
    measurements := none
    decoded := none
    detected := none
    counter := none
    run := 0
    timer := some 20
    work := u.work + 1
    outbox := if u.state = .tracking then u.outbox ++ [.leaving] else u.outbox }

/-- A path after its entry to HOLD (R12, R23). -/
def PathUnit.held (u : PathUnit) : PathUnit :=
  { u with
    state := .hold
    timer := some 300
    work := u.work + 1
    counter := if u.lastDelivered = none then u.counter else u.lastDelivered
    outbox := u.outbox ++ [.leaving] }

/-- A working merge unit that has finished what it took serves a path in one slot (R37): the path is in that
slot's contributor set, and in no other configured slot's. -/
def State.servedIn (s : State) (p : Path) (k : SlotNo) (c : ServiceConfig) : Prop :=
  s.thermal.shutdown = false ∧ s.cascading = none ∧ s.slotConfig k = some c ∧ (s.service k).contributors.get p = true ∧
    ∀ j, j ≠ k → (s.slotConfig j).isSome = true → (s.service j).contributors.get p = false

/-- One resolution of a service's head `e` in favour of the copy of path `p` (R53, R54, R60), told field by
field. -/
def Service.resolvedTo (v : Service) (e : Entry) (rest : List Entry) (p : Path) (copy : Copy) (forced : Bool) :
    Service :=
  let missed :=
    match v.front, v.refN with
    | some f, some n => distance n e.position f - 1
    | _, _ => 0
  let bad := copy.status = .uncorrectable
  { v with
    window := rest
    front := some e.position
    lastSelected := some p
    counters :=
      { v.counters with
        resolved := min (v.counters.resolved + 1) 65535
        selected := v.counters.selected.set p (min (v.counters.selected.get p + 1) 65535)
        unselected := Quad.tabulate fun q =>
          if q ≠ p ∧ (e.copies.get q).isSome = true then min (v.counters.unselected.get q + 1) 65535
          else v.counters.unselected.get q
        correctedBytes := min (v.counters.correctedBytes + copy.status.correctedBytes) 1048575
        outputUncorrectable :=
          if bad then min (v.counters.outputUncorrectable + 1) 65535 else v.counters.outputUncorrectable
        cumulativeOutputUncorrectable :=
          if bad then min (v.counters.cumulativeOutputUncorrectable + 1) 4294967295
          else v.counters.cumulativeOutputUncorrectable
        forced := if forced then min (v.counters.forced + 1) 65535 else v.counters.forced
        missing := min (v.counters.missing + missed) 65535
        cumulativeMissing := min (v.counters.cumulativeMissing + missed) 4294967295 } }

/-- The station after one resolution: the service, the bound port, which conditions the selected copy (R81),
and the checker, which counts it for the service under check and finds no mismatch (R55, R153). -/
def State.resolved (s : State) (k : SlotNo) (c : ServiceConfig) (e : Entry) (rest : List Entry) (p : Path)
    (copy : Copy) (forced : Bool) : State :=
  { s with
    services := s.services.set k ((s.service k).resolvedTo e rest p copy forced)
    ports :=
      match c.port with
      | some x =>
        match s.portConfig x with
        | some q => s.ports.set x ((s.port x).condition q.depth q.conditioning copy.status copy.packet)
        | none => s.ports
      | none => s.ports
    fitness :=
      if s.fitness.underCheck = some k then
        { s.fitness with checked := min (s.fitness.checked + 1) 65535 }
      else s.fitness }

/-- Heads resolve one after another, each complete or expired, until the head is neither (R47); each resolves
in favour of the copy that `selectCopy` selects. -/
inductive State.Drains (k : SlotNo) (c : ServiceConfig) : State → State → Prop where
  | ends (s : State) :
    (∀ e rest, (s.service k).window = e :: rest →
      s.now < e.expiryTime ∧ ∃ p, e.awaited.get p = true ∧ e.copies.get p = none) → Drains k c s s
  | takes (s t : State) (e : Entry) (rest : List Entry) (p : Path) (copy : Copy) :
    (s.service k).window = e :: rest →
    (e.expiryTime ≤ s.now ∨ ∀ q, e.awaited.get q = true → (e.copies.get q).isSome = true) →
    selectCopy c (s.service k).lastSelected e.copies = some (p, copy) →
    Drains k c (s.resolved k c e rest p copy false) t → Drains k c s t

/-- The entry that a copy of path `p` opens now (R44). -/
def State.entryFor (s : State) (k : SlotNo) (c : ServiceConfig) (p : Path) (r : Record) : Entry :=
  { position := r.position
    openTime := s.now
    expiryTime := s.now + 1000 * c.w
    awaited := (s.service k).tracking
    copies := (Quad.fill none).set p (some ⟨r.status, r.packet⟩) }

/-- An entry opens for a copy, behind every older position and before every newer one, and the window peak
follows; as head it is tested at once (R40, R44, R47). -/
def State.OpensFor (s : State) (k : SlotNo) (c : ServiceConfig) (p : Path) (r : Record) (t : State) : Prop :=
  ∃ before after, (s.service k).window = before ++ after ∧
    (∀ d ∈ before, newer r.n r.position d.position = true) ∧
    (∀ d ∈ after, newer r.n d.position r.position = true) ∧
    let opened := s.updService k fun v =>
      { v with
        window := before ++ s.entryFor k c p r :: after
        counters := { v.counters with windowPeak := max v.counters.windowPeak (v.window.length + 1) } }
    (before = [] → State.Drains k c opened t) ∧ (before ≠ [] → t = opened)

/-- A service whose tracking set and window are both empty turns DARK: front, reference N and last selected
path are cleared, the dark mark is set, and DARK is signalled to the bound port and the election unit (R38). -/
def State.turnedDark (s : State) (k : SlotNo) (c : ServiceConfig) : State :=
  let v := s.service k
  if v.state = .live ∧ v.window = [] ∧ ∀ p, v.tracking.get p = false then
    { s with
      services := s.services.set k
        { v with
          state := .dark
          front := none
          refN := none
          lastSelected := none
          counters := { v.counters with darkMark := true } }
      portSignals :=
        match c.port with
        | some x => s.portSignals.set x (s.portSignals.get x ++ [.dark])
        | none => s.portSignals
      electionSignals :=
        match c.port with
        | some x => s.electionSignals.set x (s.electionSignals.get x ++ [.dark])
        | none => s.electionSignals }
  else s

/-- A service whose state follows its sets and whose window holds no empty entry (R38, R39). -/
def Service.sound (v : Service) : Prop :=
  v.stateFollows ∧ ∀ e ∈ v.window, ∃ p, (e.copies.get p).isSome = true

/-- No configured service's contributor set holds a path (R37). -/
def State.servedNowhere (s : State) (p : Path) : Prop :=
  ∀ j, (s.slotConfig j).isSome = true → (s.service j).contributors.get p = false

/-- What no taker of an interval end outside SHUTDOWN changes (R65, Table 4-1). -/
def State.keptByInterval (s t : State) : Prop :=
  t.interval.published = s.interval.published ∧ t.line.counters = s.line.counters ∧
    t = { s with
      interval := t.interval, paths := t.paths, services := t.services, ports := t.ports,
      election := t.election, line := t.line, fitness := t.fitness, thermal := t.thermal,
      requests := t.requests }

/-- The order of an interval end whose publication is a command of its own, behind every taker. -/
def publishesApart (order : EndOrder) : Prop :=
  order.publishFirst = false ∧ order.publishBeforeFitness = false

/-- A running, working station whose interval end may be taken (R65, R66, R76). -/
def State.intervalOpen (s : State) : Prop :=
  s.loader.phase = .running ∧ s.thermal.shutdown = false ∧ s.interval.running = true ∧
    s.interval.latched = false

/-- A port's election once it has changed its lane state (R125). -/
def PortElection.entered (e : PortElection) (l : LaneState) : PortElection :=
  { e with
    lane := l
    challenge := if l = .released then 0 else e.challenge
    settle := .stopped
    yieldWait := .stopped
    holdTimer := none
    mark := none }

/-- A port that has stopped driving at once: its drivers are off and nothing of it is on the lane (R95). -/
def PortUnit.silenced (u : PortUnit) : PortUnit :=
  { u with driversOn := false, onLane := none, finishOrder := false }

/-- What the loss of the frame in flight leaves: a withdrawn frame is dropped and its slot mark cleared, one behind
which a newer frame waits is discarded, any other is pending again with the retry mark (R115 (4), (5), R116 (2)). -/
def State.frameLost (s : State) (f : Flight) : State :=
  let gone : State := { s with line := { s.line with flight := none } }
  if f.withdrawn then
    match f.slot with
    | .lane x => gone.updElect x fun e => { e with slotMark := false }
    | _ => gone
  else if s.line.slots.get f.slot = none then
    { gone with line := { gone.line with slots := s.line.slots.set f.slot (some f.placed), retry := some f.slot } }
  else gone

/-- A number in `w` bytes, most significant first (Tables 6-3 and 11-1 to 11-4). -/
def numBytes (w v : Nat) : List Byte := (List.range w).reverse.map fun i => BitVec.ofNat 8 (v / 256 ^ i)

/-- The fitness in bits 7 and 6, the six fault flags below it (Table 6-4). -/
def faultsByte (f : FitnessUnit) : List Byte :=
  numBytes 1 (64 * ([.listen, .fit, .unfit, .unconfigured] : List Fitness).idxOf f.state +
    [f.faults.mergeCheck, f.faults.configCheck, f.faults.lineStuck, f.faults.loadCorrected, f.faults.loadFailed,
      f.faults.thermalShed].foldl (fun n b => 2 * n + b.toNat) 0)

/-- A reading as a signed byte, clamped to −128 to +127 (R107, Table 11-1). -/
def readingByte (reading : Int) : List Byte := numBytes 1 (max (-128) (min reading 127) % 256).toNat

/-- The number of a lane state in Table 6-4. -/
def LaneState.number (l : LaneState) : Nat :=
  [LaneState.disabled, .released, .claiming, .driving, .holding, .backoff].idxOf l

/-- The number of a reset cause in Table 6-4. -/
def Cause.number (c : Cause) : Nat := [Cause.powerOn, .lineRestart, .thermal].idxOf c

/-- The number that some cells of a reception spell, the first of them the most significant (Table 6-1). -/
def cellsNumber (cells : List Bool) (from_ width : Nat) : Nat :=
  ((cells.drop from_).take width).foldl (fun n b => 2 * n + b.toNat) 0

/-- The check register once some bits have been taken (R106). -/
def checkOver (bits : List Bool) : Half :=
  bits.foldl (fun r b => if r.getLsbD 15 ≠ b then (r <<< 1) ^^^ 0x1021#16 else r <<< 1) 0xFFFF#16

/-- The bits of some bytes, each most significant bit first. -/
def bitsOfBytes (bytes : List Byte) : List Bool :=
  bytes.flatMap fun b => [7, 6, 5, 4, 3, 2, 1, 0].map fun i => b.getLsbD i

/-- The ten bytes of a candidate place (R156 (2)). -/
def placeBytes (c : Option Candidate) : List Byte :=
  match c with
  | some e =>
    numBytes 1 1 ++ numBytes 1 (([.a, .b, .c, .d] : List Input).idxOf e.input) ++ numBytes 4 e.frequency ++
      numBytes 1 (6 + ([.mhz6, .mhz7, .mhz8] : List Bandwidth).idxOf e.bandwidth) ++
      (match e.expected with
        | some m => numBytes 1 1 ++ numBytes 2 m.toNat
        | none => List.replicate 3 0)
  | none => List.replicate 10 0

/-- The thirteen bytes of a service slot (R156 (3)). -/
def slotBytes (c : Option ServiceConfig) : List Byte :=
  match c with
  | some v =>
    numBytes 1 1 ++ numBytes 2 v.muxId.toNat ++
      ([0, 1, 2, 3].flatMap fun p => numBytes 1 (if v.contributors.get p then 1 else 0)) ++
      ([0, 1, 2, 3].flatMap fun p => numBytes 1 (if v.contributors.get p then (v.priority.get p).val else 0)) ++
      numBytes 1 (if v.tieMode = .priority then 1 else 0) ++ numBytes 1 v.w
  | none => List.replicate 13 0

/-- The seven bytes of a port (R156 (4)). -/
def boundBytes (c : Option PortConfig) : List Byte :=
  match c with
  | some q =>
    numBytes 1 1 ++ numBytes 1 q.slot.val ++ numBytes 1 q.lane.val ++ numBytes 1 q.depth ++
      numBytes 1 (([.mark, .null, .omitting] : List Conditioning).idxOf q.conditioning) ++ numBytes 2 q.hold
  | none => List.replicate 7 0

/-- The 241 bytes over which the configuration check value is taken, in their order (R156). -/
def Config.sequence (c : Config) : List Byte :=
  numBytes 1 c.tw ++
    ([0, 1, 2, 3].flatMap fun p => [0, 1, 2, 3].flatMap fun j => placeBytes (c.candidates.get p)[j]?) ++
    ([0, 1, 2, 3].flatMap fun k => slotBytes (c.services.get k)) ++
    [0, 1, 2, 3].flatMap fun x => boundBytes (c.ports.get x)

/-! ### What validation keeps (R178 to R180), told on the working configuration that it makes -/

/-- The entry of a candidate block that is present and in range (R178 (2)). -/
def RawConfig.entry (r : RawConfig) (p : Path) (j : Fin 4) : Option Candidate :=
  ((r.candidates.get p).get j).bind fun f =>
    if f.present = true ∧ 174000 ≤ f.frequency.toNat ∧ f.frequency.toNat ≤ 862000 then
      f.bandwidth.map fun b => ⟨f.input, f.frequency.toNat, b, f.expected⟩
    else none

/-- A path's list: the entries of its blocks in order, one that a lower block has given already left out
(R178 (3), (4)). -/
def RawConfig.listed (r : RawConfig) (p : Path) : List Candidate :=
  ([0, 1, 2, 3] : List (Fin 4)).filterMap fun j =>
    (r.entry p j).filter fun e => ([0, 1, 2, 3] : List (Fin 4)).all fun h => !(decide (h < j) && r.entry p h == some e)

/-- The present candidate blocks of a path; each that is not listed costs a note (R178 (2), (3)). -/
def RawConfig.presentCount (r : RawConfig) (p : Path) : Nat :=
  (([0, 1, 2, 3] : List (Fin 4)).filter fun j => ((r.candidates.get p).get j).any fun f => f.present).length

/-- The block of a slot that the identity mask admits (R179). -/
def RawConfig.admitted (r : RawConfig) (k : SlotNo) : Option ServiceFields :=
  r.identity.bind fun i => if i.mask.get k then r.services.get k else none

/-- A path that a slot names, P3 left out beside the three others (R179 (5)). -/
def RawConfig.names (r : RawConfig) (k : SlotNo) (p : Path) : Bool :=
  (r.admitted k).any fun f =>
    f.contributor.get p && !(p == 3 && f.contributor.get 0 && f.contributor.get 1 && f.contributor.get 2)

/-- The configured slots before one. -/
def Config.before (c : Config) (k : SlotNo) : List SlotNo :=
  [0, 1, 2, 3].filter fun j => decide (j < k) && (c.services.get j).isSome

/-- A configured earlier slot has taken the path (R180 (1)). -/
def Config.takenBefore (c : Config) (k : SlotNo) (p : Path) : Bool :=
  (c.before k).any fun j => (c.services.get j).any fun v => v.contributors.get p

/-- No contributor with a candidate is left to a slot (R180 (2)). -/
def RawConfig.pathless (r : RawConfig) (c : Config) (k : SlotNo) : Bool :=
  ([0, 1, 2, 3] : List Path).all fun p => !(r.names k p && !c.takenBefore k p && c.candidates.get p != [])

/-- A configured earlier slot names the port that a slot names (R180 (3)). -/
def RawConfig.portTaken (r : RawConfig) (c : Config) (k : SlotNo) : Bool :=
  (r.admitted k).any fun f => f.port.isSome && (c.before k).any fun j => (r.admitted j).any fun g => g.port == f.port

/-- A slot names a port, and its lane is that of an earlier slot's port (R180 (4)). -/
def RawConfig.laneTaken (r : RawConfig) (c : Config) (k : SlotNo) : Bool :=
  (r.admitted k).any fun f => f.port.isSome && ([0, 1, 2, 3] : List Port).any fun x =>
    (c.ports.get x).any fun q => decide (q.slot < k) && q.lane == f.lane

/-- The notes of one slot: one for each field changed, one for each path removed, and one where a test of R180
unconfigures or unbinds it. -/
def RawConfig.slotNotes (r : RawConfig) (c : Config) (k : SlotNo) : Nat :=
  match r.admitted k with
  | none => 0
  | some f =>
    (if f.w.toNat < 2 ∨ 64 < f.w.toNat then 1 else 0) + (if 200 < f.holdSteps.toNat then 1 else 0) +
      (if f.depth = none then 1 else 0) + (if f.conditioning = none then 1 else 0) +
      (if ∀ p, f.contributor.get p = true then 1 else 0) +
      (([0, 1, 2, 3] : List Path).filter fun p => r.names k p && c.takenBefore k p).length +
      if r.pathless c k || r.portTaken c k || r.laneTaken c k then 1 else 0

/-! ### What the tests of reception ask (R107, R108) -/

/-- A body byte as a number. -/
def Frame.bodyByte (f : Frame) (i : Nat) : Nat := (f.body.getD i 0).toNat

/-- The length is right for the kind (R107). -/
def Frame.lengthListed (f : Frame) : Prop :=
  f.body.length ≤ 32 ∧
    ((f.kind = 0 ∧ f.body.length = 1) ∨ (f.kind = 1 ∧ f.body.length = 2) ∨ (f.kind = 2 ∧ f.body.length = 5) ∨
      (f.kind = 3 ∧ ∃ n, n ≤ 4 ∧ f.body.length = 3 + 6 * n) ∨ (f.kind = 4 ∧ f.body.length = 1) ∨
      (f.kind = 5 ∧ 1 ≤ f.body.length) ∨ (f.kind = 6 ∧ f.body.length = 0) ∨ (f.kind = 7 ∧ f.body.length = 1) ∨
      8 ≤ f.kind.val)

/-- A field of a service record of an ANNOUNCE is not in range (R108 (3), (5)). -/
def Frame.recordWrong (f : Frame) (i : Nat) : Prop :=
  let b (n : Nat) : Nat := f.bodyByte (3 + 6 * i + n)
  1023 < 256 * b 2 + b 3 ∨ (15 < b 4 ∧ b 4 ≠ 255) ∨ 5 < b 5 ∨ (b 4 = 255 ∧ b 5 ≠ 0)

/-- A field is not in range (R108). -/
def Frame.fieldWrong (f : Frame) : Prop :=
  let records := (f.body.length - 3) / 6
  let laneAt (i : Nat) : Nat := f.bodyByte (7 + 6 * i)
  (f.kind.val ≤ 2 ∧ 15 < f.bodyByte 0) ∨ (f.kind = 1 ∧ 3 < f.bodyByte 1) ∨
    (f.kind = 2 ∧ 1023 < 256 * f.bodyByte 3 + f.bodyByte 4) ∨
    (f.kind = 3 ∧ (2 < f.bodyByte 1 ∨ (∃ i < records, f.recordWrong i) ∨
      ∃ j < records, ∃ i < j, laneAt i = laneAt j ∧ laneAt i ≠ 255)) ∨
    (f.kind = 7 ∧ 8 < f.bodyByte 0)

/-- The deviation of a fill from half the depth (R84). -/
def fillDeviation (d fill : Nat) : Nat := ((fill : Int) - (d / 2 : Nat)).natAbs

end Sys2Proof.Machine
end

