-- ==== Sys2Proof/Certificates/Slice0/Obligations.lean ====
section
/-! DEFINITION. The statements for the provers. Each docstring names the rule or the log entry that the
statement rests on. Throughout, messages between blocks wait in State (log 1) and a timer holds its limit
while it runs (log 2): these are the model's representation, not the manual's words. -/

open Sys2Proof Sys2Proof.Machine

/-! ### The queue -/

/-- One step takes the command at the front of the queue and runs it on the queue's rest; on an empty
queue the block idles, which is the model's choice (log 3). -/
def Obligations.StepRunsFrontCommand : Prop :=
  (∀ (c : Instr) (s : State) (rest : List Instr),
    step { s with pending := c :: rest } = exec c { s with pending := rest }) ∧
  ∀ s : State, s.pending = [] → step s = .next s

/-- Every command answers a next state in every state, keeps the queue, and the clock does not run back.
No rule of the manual stops the part; that the clock is monotone is the model's choice (log 2). -/
def Obligations.EveryCommandAnswersNext : Prop :=
  ∀ (c : Instr) (s : State), ∃ t, exec c s = .next t ∧ t.pending = s.pending ∧ s.now ≤ t.now

/-! ### Resets and loading -/

/-- A power-on reset, in any state: record POWER_ON with count 0, every block at its reset state, held
while the pin is asserted, else in LOADING with straps, sensor and image read. The release of the pin
begins LOADING of a part held in reset and changes nothing else; out of reset it has no effect. What the reading of
an image leaves: each of the 22 blocks that decodes as corrected or fails in its list, in rising order; the fields of
every block that did not fail; a silent memory, of which block 0 alone is failed; block 0 of another format, which is
failed too (sections 1.6, 2.7, 3.8, 4.6, 5.10, 6.7, 7.6, 8.1, 9.7, 10.1, 10.2, 10.4, 10.5 and 11.3). The values that the
manual leaves open at reset are the model's (log 8); what a load reads is an operand, and where its fields lie is a free
constant (logs 6 and 7); that a corrected block 0 of another format stands in both lists is the model's reading
(log 30). -/
def Obligations.PowerOnResetStartsAfresh : Prop :=
  (∀ (pin : Bool) (boot : BootInputs) (s : State), ∃ t,
    exec (.powerOnReset pin boot) s = .next t ∧ t.blocksAtReset ∧ t.pending = s.pending ∧
    t.loader.cause = .powerOn ∧ t.loader.restartCount = 0 ∧ t.loader.releasing = false ∧
    t.loader.releaseLimit = none ∧
    (pin = true → t.loader.phase = .held) ∧
    (pin = false →
      t.loader.phase = .loading ∧ t.loader.stationNumber = boot.straps ∧
      t.loader.record = boot.image.record ∧ t.loader.raw = boot.image.raw ∧
      t.thermal.reading = max (-40) (min boot.sensor 150)) ∧
    (∀ p, (t.path p).state = .parked ∧ (t.path p).candidateIndex = 0 ∧ (t.path p).attempts = 0 ∧
      (t.path p).lastFailure = .noFailure ∧ (t.path p).measurements = none ∧
      (t.path p).decoded = none ∧ (t.path p).run = 0 ∧ (t.path p).timer = none ∧
      (t.path p).counters = ⟨0, 0, 0, 0, 0, 0, 0, 0⟩ ∧ (t.path p).cumulativeUncorrectable = 0 ∧
      (t.path p).counter = none ∧ (t.path p).lastDelivered = none ∧ (t.path p).continuity = []) ∧
    (∀ k, t.slotConfig k = none ∧ (t.service k).window = [] ∧ (t.service k).state = .dark) ∧
    (∀ x, t.portConfig x = none ∧ (t.port x).driversOn = false ∧ (t.port x).onLane = none ∧
      (t.port x).fifo = [] ∧ (t.port x).peak = 0 ∧ (t.port x).rEst = none ∧ (t.port x).rOut = none ∧
      (t.port x).due = none ∧ (t.port x).mismatch = 0 ∧
      (t.port x).counters = ⟨0, 0, 0, 0, 0, 0, 0, 0, 0⟩ ∧ (t.port x).recorded = .dark ∧
      (t.port x).sensing = false) ∧
    (∀ x, (t.elect x).lane = .disabled ∧ (t.elect x).challenge = 0 ∧ (t.elect x).settle = .stopped ∧
      (t.elect x).yieldWait = .stopped ∧ (t.elect x).holdTimer = none ∧ (t.elect x).mark = none ∧
      (t.elect x).slotMark = false ∧ (t.elect x).conflict = false ∧ (t.elect x).service = .dark ∧
      (t.elect x).activity = .active ∧ (t.elect x).refused = 0) ∧
    (∀ i, t.election.peers.get i = none) ∧ t.election.lineStuck = false ∧
    t.line.state = .busy ∧ t.line.reception = .off ∧ t.line.flight = none ∧ t.line.retry = none ∧
    (∀ k, t.line.slots.get k = none) ∧ t.line.counters = ⟨0, 0, 0, 0, 0, 0, 0, 0⟩ ∧
    t.interval.running = false ∧ t.fitness.state = .listen ∧ t.fitness.listenCount = 0 ∧
    t.fitness.faults = ⟨false, false, false, false, false, false⟩ ∧ t.fitness.underCheck = none ∧
    t.thermal.shutdown = false ∧ t.thermal.stack = [] ∧ t.thermal.spacing = 4 ∧ t.thermal.cool = 0 ∧
    t.thermal.outstanding = none ∧ t.thermal.recovery = 0 ∧ t.monitor.source = .off ∧
    t.monitor.current = none ∧ t.monitor.queue = [] ∧ t.reply = none) ∧
  (∀ (boot : BootInputs) (s : State),
    (s.loader.phase = .held →
      exec (.resetPinRelease boot) s = .next
        { s with
          loader :=
            { s.loader with
              phase := .loading
              stationNumber := boot.straps
              record := boot.image.record
              raw := boot.image.raw }
          thermal := { s.thermal with reading := max (-40) (min boot.sensor 150) } }) ∧
    (s.loader.phase ≠ .held → exec (.resetPinRelease boot) s = .next s)) ∧
  ∀ i : Image,
    let blocks : List Block := [i.identity, i.station] ++
      (([0, 1, 2, 3] : List Path).flatMap fun p => [0, 1, 2, 3].map (i.candidates.get p).get) ++
      [0, 1, 2, 3].map i.services.get
    let identity := (readData i.identity).map Config.identityFields
    let wrong := ∃ f, identity = some f ∧ f.format ≠ 1#8
    (i.identity = BitVec.allOnes 72 →
      i.record = ⟨false, [], [0], 0⟩ ∧ i.raw = ⟨none, none, .fill (.fill none), .fill none⟩) ∧
    (i.identity ≠ BitVec.allOnes 72 →
      i.record.memoryAnswered = true ∧ i.record.notes = 0 ∧
      i.record.corrected.Pairwise (· < ·) ∧ i.record.failed.Pairwise (· < ·) ∧
      (∀ n, n ∈ i.record.corrected ↔ ∃ b, blocks[n]? = some b ∧ decodeBits b = .corrected) ∧
      (∀ n, n ∈ i.record.failed ↔ (∃ b, blocks[n]? = some b ∧ decodeBits b = .failed) ∨ n = 0 ∧ wrong) ∧
      i.raw.identity = identity.filter (fun f => f.format == 1#8) ∧
      i.raw.station = (readData i.station).map Config.stationFields ∧
      (∀ p j, (i.raw.candidates.get p).get j = (readData ((i.candidates.get p).get j)).map Config.candidateFields) ∧
      ∀ k, i.raw.services.get k = (readData (i.services.get k)).map Config.serviceFields)

/-- The line restart proceeds at the first of its two events, and both bring the same reset: cause
LINE_RESTART, the restart count raised, every block reset, a fresh load. An expiry that finds no release
wait has no effect (R183, R186, R187). Of the values that a block has after the reset, those that the manual
does not state are the model's (log 8). -/
def Obligations.LineRestartProceedsOnEitherEvent : Prop :=
  ∀ (boot : BootInputs) (s : State),
    (s.loader.releasing = true → s.loader.releasedReport = true → s.loader.releaseLimit ≠ none →
      ∃ t, exec (.releasedReport boot) s = .next t ∧ exec (.releaseLimitExpiry boot) s = .next t) ∧
    ((s.loader.releasing = true ∧ s.loader.releaseLimit ≠ none) →
      ∃ t, exec (.releaseLimitExpiry boot) s = .next t ∧ t.blocksAtReset ∧ t.pending = s.pending ∧
        t.loader.cause = .lineRestart ∧ t.loader.restartCount = min (s.loader.restartCount + 1) 65535 ∧
        t.loader.releasing = false ∧ t.loader.releaseLimit = none ∧ t.loader.releasedReport = false ∧
        t.loader.phase = .loading ∧ t.loader.stationNumber = boot.straps ∧
        t.loader.record = boot.image.record ∧ t.loader.raw = boot.image.raw) ∧
    ((s.loader.releasing = true ∧ s.loader.releasedReport = true) →
      ∃ t, exec (.releasedReport boot) s = .next t ∧ t.blocksAtReset ∧ t.pending = s.pending ∧
        t.loader.cause = .lineRestart ∧ t.loader.restartCount = min (s.loader.restartCount + 1) 65535 ∧
        t.loader.releasing = false ∧ t.loader.phase = .loading ∧
        t.loader.stationNumber = boot.straps ∧ t.loader.raw = boot.image.raw) ∧
    (s.loader.releasing = false → exec (.releaseLimitExpiry boot) s = .next s) ∧
    (s.loader.releaseLimit = none → exec (.releaseLimitExpiry boot) s = .next s)

/-- The end of LOADING hands the validated configuration to every block that takes it, and leaves the
others alone. The configuration check value is the check register over the 241 bytes of the working configuration
(R19, R36, R64, R65, R79, R80, R96, R147, R150, R152, R156, R182). That a path entering GAIN has no
working values of MODE, that its work is numbered, and that lane activity reads QUIET in the reset snapshot and before
lane sensing begins, is the model's choice (logs 21, 35 and 8). -/
def Obligations.EndOfLoadingStartsStation : Prop :=
  ∀ s : State, s.loader.phase = .loading → ∃ t, exec .endOfLoading s = .next t ∧
    t.config = s.loader.raw.validate.1 ∧
    t.loader =
      { s.loader with
        phase := .running
        record := { s.loader.record with notes := min s.loader.raw.validate.2 255 } } ∧
    (∀ k, (t.service k) =
      { Service.reset with
        contributors := ((t.slotConfig k).map ServiceConfig.contributors).getD (.fill false) }) ∧
    (∀ p, ((∃ k c, t.slotConfig k = some c ∧ c.contributors.get p = true) ∧
        t.config.candidates.get p ≠ [] →
        t.path p =
          { s.path p with
            state := .gain
            selection := (t.config.candidates.get p)[(s.path p).candidateIndex]?
            measurements := none
            decoded := none
            detected := none
            counter := none
            run := 0
            timer := some 20
            work := (s.path p).work + 1 }) ∧
      (¬((∃ k c, t.slotConfig k = some c ∧ c.contributors.get p = true) ∧
        t.config.candidates.get p ≠ []) → t.path p = s.path p)) ∧
    (∀ x, t.port x =
      if (t.portConfig x).isSome then
        { PortUnit.reset with sensing := true, activity := .active, activityTimer := some 5 }
      else PortUnit.reset) ∧
    (∃ w : Snapshot,
      t.interval = { s.interval with running := true, published := w } ∧
      (∀ p, w.paths.get p = ⟨⟨0, 0, 0, 0, 0, 0, 0, 0⟩, 0⟩ ∧ w.mers.get p = none) ∧
      (∀ k, w.services.get k = (t.slotConfig k).map fun _ => ⟨ServiceCounters.reset, .fill false⟩) ∧
      (∀ k, w.figures.get k = (t.slotConfig k).map fun _ => ⟨0, 0, 0, 0, 0⟩) ∧
      ∀ x, w.ports.get x = ⟨⟨0, 0, 0, 0, 0, 0, 0, 0, 0⟩, 0, 0, none, none, .quiet⟩) ∧
    t.fitness =
      { s.fitness with
        state := if s.loader.raw.identity = none then .unconfigured else .listen
        listenCount := 0
        faults :=
          { s.fitness.faults with
            loadCorrected := s.fitness.faults.loadCorrected || (s.loader.record.corrected != [])
            loadFailed := s.fitness.faults.loadFailed || (s.loader.record.failed != [])
              || !s.loader.record.memoryAnswered }
        underCheck := [0, 1, 2, 3].find? fun k => (t.slotConfig k).isSome
        checkValue :=
          if s.loader.raw.identity = none then none else some (checkOver (bitsOfBytes t.config.sequence)) } ∧
    t.config.sequence.length = 241 ∧
    t = { s with
      loader := t.loader, config := t.config, services := t.services, paths := t.paths, ports := t.ports,
      interval := t.interval, fitness := t.fitness, cascading := none }

/-- Whatever the image holds, the working configuration is within the ranges of the earlier chapters:
T_w 85 to 120; up to four candidates a path, all different and in range; W 2 to 64; 1 to 3 contributors,
one at least with candidates; no path in two services; a bound port named by one service, on a lane of
its own. What it keeps, clamps and drops: T_w clamped, 105 without block 1; the present candidates in range, each but
once, in order; of the slots that the mask admits, those to which a contributor with candidates and their port are left,
each field clamped or defaulted, unbound where the lane is taken; nothing without an identity. One note for each clamp
and each drop (R1, R36, R80, R176, R178 to R180; that an UNCONFIGURED load notes only its clamp of T_w: log 20). -/
def Obligations.ValidationLeavesConfigurationInRange : Prop :=
  ∀ r : RawConfig, let c := r.validate.1
    (c.tw = (r.station.map fun f => max 85 (min f.tw.toNat 120)).getD 105) ∧
    (r.identity = none → c = { Config.reset with tw := c.tw }) ∧
    (r.identity ≠ none →
      (∀ p, c.candidates.get p = r.listed p) ∧
      (∀ k, r.admitted k = none → c.services.get k = none) ∧
      (∀ k f, r.admitted k = some f →
        c.services.get k =
          if r.pathless c k || r.portTaken c k then none
          else some
            { muxId := f.muxId
              contributors := Quad.tabulate fun p => r.names k p && !c.takenBefore k p
              priority := f.priority
              tieMode := f.tieMode
              w := max 2 (min f.w.toNat 64)
              port := if r.laneTaken c k then none else f.port }) ∧
      (∀ x, c.ports.get x = none ↔ ∀ k v, c.services.get k = some v → v.port ≠ some x) ∧
      ∀ k f v x, r.admitted k = some f → c.services.get k = some v → v.port = some x →
        c.ports.get x = some
          { slot := k
            lane := f.lane
            depth := match f.depth with | some .d32 => 32 | some .d128 => 128 | _ => 64
            conditioning := f.conditioning.getD .mark
            hold := min (10 * f.holdSteps.toNat) 2000 }) ∧
    (r.validate.2 =
      (if r.station.all fun f => decide (85 ≤ f.tw.toNat ∧ f.tw.toNat ≤ 120) then 0 else 1) +
        if r.identity = none then 0
        else (([0, 1, 2, 3] : List Path).map fun p => r.presentCount p - (r.listed p).length).sum +
          (([0, 1, 2, 3] : List SlotNo).map fun k => r.slotNotes c k).sum) ∧
    (85 ≤ c.tw ∧ c.tw ≤ 120) ∧
    (∀ p, (c.candidates.get p).Nodup ∧ (c.candidates.get p).length ≤ 4 ∧
      ∀ e ∈ c.candidates.get p, 174000 ≤ e.frequency ∧ e.frequency ≤ 862000) ∧
    (∀ k v, c.services.get k = some v →
      (2 ≤ v.w ∧ v.w ≤ 64) ∧ (1 ≤ v.contributors.count ∧ v.contributors.count ≤ 3) ∧
      (∃ p, v.contributors.get p = true ∧ c.candidates.get p ≠ []) ∧
      (∀ j u, j ≠ k → c.services.get j = some u →
        ∀ p, ¬(u.contributors.get p = true ∧ v.contributors.get p = true)) ∧
      (∀ x, v.port = some x → ∃ q, c.ports.get x = some q ∧ q.slot = k)) ∧
    (∀ x q, c.ports.get x = some q →
      (q.depth = 32 ∨ q.depth = 64 ∨ q.depth = 128) ∧ q.hold ≤ 2000 ∧ q.hold % 10 = 0 ∧
      (∃ v, c.services.get q.slot = some v ∧ v.port = some x) ∧
      ∀ y z, y ≠ x → c.ports.get y = some z → z.lane ≠ q.lane)

/-- The check code of a block: a code word gives its own data bytes; with any one bit flipped the syndrome is
that bit's number, and the block is corrected to the data bytes of the code word; with any two it fails
(section 10.1). The numbers are those of the 64 data bits in the order read, then of the check byte from bit 7
to bit 0. -/
def Obligations.CheckCodeCorrectsOneFlipDetectsTwo : Prop :=
  let numbers : List Nat :=
    [3, 5, 6, 7, 9, 10, 11, 12, 13, 14, 15, 17, 18, 19, 20, 21, 22, 23, 24, 25, 26, 27, 28, 29, 30, 31, 33, 34, 35,
      36, 37, 38, 39, 40, 41, 42, 43, 44, 45, 46, 47, 48, 49, 50, 51, 52, 53, 54, 55, 56, 57, 58, 59, 60, 61, 62, 63,
      65, 66, 67, 68, 69, 70, 71, 0, 64, 32, 16, 8, 4, 2, 1]
  ∀ b : Block, decodeBits b = .good →
    readData b = some (b.extractLsb' 8 64) ∧
    (∀ i < 72,
      decodeBits (b ^^^ (1#72 <<< i)) = .corrected ∧
      numbers[71 - i]? = some (syndrome (b ^^^ (1#72 <<< i))) ∧
      readData (b ^^^ (1#72 <<< i)) = some (b.extractLsb' 8 64)) ∧
    ∀ i < 72, ∀ j < 72, i ≠ j →
      decodeBits (b ^^^ (1#72 <<< i) ^^^ (1#72 <<< j)) = .failed ∧
      readData (b ^^^ (1#72 <<< i) ^^^ (1#72 <<< j)) = none

/-! ### Receiver paths -/

/-- Completions of GAIN, MODE and TIMING, each with the next state's limit; a loss of frame sync in
TRACKING, which sends the path to HOLD; a frame end in TRACKING, which replaces its measurements, each
clamped. A loop that settles below 30 dBµV, a completion of work that has been left, and an event of a state
the path is not in, have no effect (sections 1.2, 1.4). That the work of a state entry is told by a number is
the model's choice (log 35). -/
def Obligations.PathEventsActInTheirState : Prop :=
  ∀ (a : PathWork) (v : Measured) (s : State), let p := a.path
    let doing (st : PathState) : Prop := (s.path p).state = st ∧ (s.path p).work = a.work
    let enters (st : PathState) (limit : Nat) (u : PathUnit) : PathUnit :=
      { u with state := st, timer := some limit, work := u.work + 1 }
    (∀ level, doing .gain → 30 ≤ level →
      exec (.gainSettled a level) s = .next (s.updPath p (enters .mode 150))) ∧
    (∀ level, (¬ doing .gain ∨ level < 30) → exec (.gainSettled a level) s = .next s) ∧
    (∀ m g r, doing .mode →
      exec (.modeDetected a m g r) s =
        .next (s.updPath p fun u => { enters .timing 100 u with detected := some ⟨m, g, r⟩ })) ∧
    (∀ m g r, ¬ doing .mode → exec (.modeDetected a m g r) s = .next s) ∧
    (doing .timing → exec (.timingSettled a) s = .next (s.updPath p (enters .frame 400))) ∧
    (¬ doing .timing → exec (.timingSettled a) s = .next s) ∧
    ((s.path p).state = .tracking →
      exec (.lossOfFrameSync p) s = .next (s.updPath p PathUnit.held) ∧
      exec (.pathFrameEnd p v) s = .next (s.updPath p fun u =>
        { u with
          measurements := some
            { mer := (max 0 (min v.mer 400)).toNat
              level := (max 20 (min v.level 100)).toNat
              offset := max (-100000) (min v.offset 100000) } })) ∧
    ((s.path p).state ≠ .tracking →
      exec (.lossOfFrameSync p) s = .next s ∧ exec (.pathFrameEnd p v) s = .next s)

/-- The entry to TRACKING, from FRAME and from HOLD alike, when the signalling is complete and the current
candidate expects no other identifier (section 1.2). That stays and the work of state entries are numbered, and
that the working values of MODE are kept with the decoded ones, is the model's choice (logs 23, 35 and 21). -/
def Obligations.LockOrRegainEntersTracking : Prop :=
  ∀ (a : PathWork) (read : FrameStartRead) (g : Signalling) (s : State), let p := a.path
    read.signalling = some g → 64 ≤ g.n → g.n ≤ 8192 → read.syncGained = true →
    ¬ s.expectsOther p g.muxId → (s.path p).work = a.work →
    let entered := s.updPath p fun u =>
      { u with
        state := .tracking
        timer := none
        run := 0
        detected := some ⟨g.symbolMode, g.guard, g.codeRate⟩
        decoded := some ⟨g.symbolMode, g.guard, g.codeRate, g.n, g.muxId⟩
        measurements := some
          { mer := (max 0 (min read.measured.mer 400)).toNat
            level := (max 20 (min read.measured.level 100)).toNat
            offset := max (-100000) (min read.measured.offset 100000) }
        counter := some ⟨g.superframe, g.frame, 0⟩
        lastDelivered := none
        continuity := []
        stay := u.stay + 1
        outbox := u.outbox ++ [.tracking (u.stay + 1)] }
    ((s.path p).state = .frame → read.decoderLocked = true → exec (.locked a read) s = .next entered) ∧
    ((s.path p).state = .hold → exec (.regained a read) s = .next entered)

/-- A frame start that does not lock a path changes nothing: no complete signalling, an N out of range,
no frame sync, in FRAME no outer-decoder lock, a path in another state, or work that has been left; neither
does an expiry of a timer that has been stopped or of a state that has been left (section 1.2). That the work
of a state entry is told by a number is the model's choice (log 35). -/
def Obligations.DisregardedPathEventsChangeNothing : Prop :=
  ∀ (a : PathWork) (read : FrameStartRead) (s : State), let p := a.path
    let incomplete := read.signalling = none ∨ (∃ g, read.signalling = some g ∧ (g.n < 64 ∨ 8192 < g.n)) ∨
      read.syncGained = false
    ((incomplete ∨ read.decoderLocked = false ∨ (s.path p).state ≠ .frame ∨ (s.path p).work ≠ a.work) →
      exec (.locked a read) s = .next s) ∧
    ((incomplete ∨ (s.path p).state ≠ .hold ∨ (s.path p).work ≠ a.work) →
      exec (.regained a read) s = .next s) ∧
    (((s.path p).timer = none ∨ (s.path p).state = .parked ∨ (s.path p).state = .tracking ∨
        (s.path p).work ≠ a.work) →
      exec (.acquisitionTimerExpiry a) s = .next s)

/-- A failure, from each of the events that bring one: reason, leaving notice from TRACKING, attempts, and
the same or the next candidate; nothing but the failing path changes (section 1.3). That the working values of
MODE are cleared in GAIN, that a MODE_MISMATCH order is taken before older messages of other kinds, and that
the work of a state entry is told by a number, is the model's choice (logs 21, 24 and 35). -/
def Obligations.FailureRetriesThenAdvances : Prop :=
  ∀ (a : PathWork) (s : State), let p := a.path
    let list := s.config.candidates.get p
    (∀ reason, (s.path p).timer ≠ none → (s.path p).work = a.work →
      ((s.path p).state, reason) ∈
        [(.gain, .noSignal), (.mode, .noMode), (.timing, .noTiming), (.frame, .noFrame),
          (.hold, Failure.holdExpired)] →
      exec (.acquisitionTimerExpiry a) s = .next (s.updPath p fun u => u.failed list reason)) ∧
    ((s.path p).work = a.work → ∀ read g, read.signalling = some g → 64 ≤ g.n → g.n ≤ 8192 → read.syncGained = true →
      s.expectsOther p g.muxId →
      ((s.path p).state = .frame → read.decoderLocked = true →
        exec (.locked a read) s = .next (s.updPath p fun u => u.failed list .wrongMux)) ∧
      ((s.path p).state = .hold →
        exec (.regained a read) s = .next (s.updPath p fun u => u.failed list .wrongMux))) ∧
    (∀ g d, (s.path p).state = .tracking → (s.path p).decoded = some d → g.symbolMode = d.symbolMode →
      g.guard = d.guard → g.n = d.n → g.muxId ≠ d.muxId → s.expectsOther p g.muxId →
      exec (.frameStart p g) s = .next (s.updPath p fun u => u.failed list .wrongMux)) ∧
    (∀ before after stay, (s.path p).state = .tracking → (s.path p).stay = stay →
      (s.path p).inbox = before ++ .modeMismatch stay :: after →
      (∀ n, PathOrder.modeMismatch n ∉ before) →
      exec (.modeMismatchOrder p) s = .next (s.updPath p fun u =>
        ({ u with inbox := before ++ after }).failed list .modeMismatch))

/-- A packet completed outside TRACKING changes nothing. In TRACKING it takes the next position. Withheld, it moves
the counter alone.
Delivered, it becomes a record in the outbox, is counted, takes part in the continuity check, and is
offered to the monitor output that has this path as its source; the 24th UNCORRECTABLE record in a row is
followed by the entry to HOLD (sections 1.2, 2.1, 2.2, 2.5 and 11.3). That the entry to HOLD is numbered is the
model's choice (log 35). -/
def Obligations.CompletedPacketIsDeliveredOrWithheld : Prop :=
  (∀ (p : Path) (st : Status) (pkt : Packet) (s : State),
    (s.path p).state ≠ .tracking → exec (.packetCompleted p st pkt) s = .next s) ∧
  ∀ (p : Path) (st : Status) (pkt : Packet) (q : Position) (d : Decoded) (s : State),
    (s.path p).state = .tracking → (s.path p).counter = some q → (s.path p).decoded = some d →
    (∀ l, (s.path p).lastDelivered = some l → newer d.n q l = false →
      exec (.packetCompleted p st pkt) s =
        .next (s.updPath p fun u => { u with counter := some (q.next d.n) })) ∧
    ((∀ l, (s.path p).lastDelivered = some l → newer d.n q l = true) →
      let taken := st ≠ .uncorrectable ∧ pkt.header.pid ≠ 8191#13
      let after := continuityTake (s.path p).continuity pkt.header.pid pkt.header.continuity
      let run := if st = .uncorrectable then (s.path p).run + 1 else 0
      let counts (c : PathCounters) : PathCounters :=
        { c with
          delivered := min (c.delivered + 1) 65535
          clean := if st = .clean then min (c.clean + 1) 65535 else c.clean
          correctedPackets :=
            if 1 ≤ st.correctedBytes then min (c.correctedPackets + 1) 65535 else c.correctedPackets
          correctedBytes :=
            if 1 ≤ st.correctedBytes then min (c.correctedBytes + st.correctedBytes) 1048575
            else c.correctedBytes
          uncorrectable :=
            if st = .uncorrectable then min (c.uncorrectable + 1) 65535 else c.uncorrectable
          continuityFaults :=
            if taken ∧ after.2 = true then min (c.continuityFaults + 1) 65535 else c.continuityFaults }
      let recorded := s.updPath p fun u =>
        { u with
          counter := some (q.next d.n)
          lastDelivered := some q
          continuity := if taken then after.1 else u.continuity
          counters := counts u.counters
          cumulativeUncorrectable :=
            if st = .uncorrectable then min (u.cumulativeUncorrectable + 1) 4294967295
            else u.cumulativeUncorrectable
          run := run
          outbox := u.outbox ++ [.record ⟨p, q, d.n, st, pkt⟩] }
      let offered :=
        { recorded with
          monitor := if s.monitor.source = .path p then s.monitor.offer pkt else s.monitor }
      exec (.packetCompleted p st pkt) s =
        .next (if 24 ≤ run then offered.updPath p PathUnit.held else offered))

/-- The continuity table: no identifier twice, at most 8 entries, and the record's identifier last with its
count; the others keep their order, and the least recently seen one goes only where the identifier is absent
and the table full. A fault is counted exactly when the identifier was present with another count than the
one before (section 2.5). -/
def Obligations.ContinuityTableKeepsEightIdentifiers : Prop :=
  ∀ (table : List ContinuityEntry) (pid : BitVec 13) (c : BitVec 4),
    (table.map ContinuityEntry.pid).Nodup → table.length ≤ 8 →
    let after := continuityTake table pid c
    let present := ∃ e ∈ table, e.pid = pid
    (present → after.1 = (table.filter fun e => e.pid ≠ pid) ++ [⟨pid, c⟩]) ∧
    (¬ present → table.length < 8 → after.1 = table ++ [⟨pid, c⟩]) ∧
    (¬ present → table.length = 8 → after.1 = table.drop 1 ++ [⟨pid, c⟩]) ∧
    (after.1.map ContinuityEntry.pid).Nodup ∧ after.1.length ≤ 8 ∧
    (after.2 = true ↔ ∃ e ∈ table, e.pid = pid ∧ c ≠ e.count + 1)

/-- A frame start in TRACKING: another structure or N sends the path to HOLD; else code rate and
identifier are adopted, the path stays, and the counter is checked against the signalled frame start. Outside
TRACKING it changes nothing: what a frame start brings in FRAME and HOLD, LOCKED and REGAINED say (sections 1.2 and 2.2).
That a frame start which changes both adopts both is the model's reading (log 19), that it comes with complete
signalling (log 43) and that the entry to HOLD is numbered (log 35) are its choices. -/
def Obligations.FrameStartHoldsAdoptsOrSlips : Prop :=
  (∀ (p : Path) (g : Signalling) (s : State),
    (s.path p).state ≠ .tracking → exec (.frameStart p g) s = .next s) ∧
  ∀ (p : Path) (g : Signalling) (d : Decoded) (s : State),
    (s.path p).state = .tracking → (s.path p).decoded = some d →
    ((g.symbolMode ≠ d.symbolMode ∨ g.guard ≠ d.guard ∨ g.n ≠ d.n) →
      exec (.frameStart p g) s = .next (s.updPath p PathUnit.held)) ∧
    (g.symbolMode = d.symbolMode → g.guard = d.guard → g.n = d.n →
      (g.muxId = d.muxId ∨ ¬ s.expectsOther p g.muxId) →
      let adopted (u : PathUnit) : PathUnit :=
        { u with decoded := some { d with codeRate := g.codeRate, muxId := g.muxId } }
      ((s.path p).counter = some ⟨g.superframe, g.frame, 0⟩ →
        exec (.frameStart p g) s = .next (s.updPath p adopted)) ∧
      ((s.path p).counter ≠ some ⟨g.superframe, g.frame, 0⟩ →
        exec (.frameStart p g) s = .next (s.updPath p fun u =>
          { adopted u with
            counter := some ⟨g.superframe, g.frame, 0⟩
            counters := { u.counters with slips := min (u.counters.slips + 1) 65535 } })))

/-- The orders and notices of the merge unit, each taken from the path's inbox by kind (log 1, log 24). A
stop parks a path from every state but PARKED, with a leaving notice from TRACKING and no failure. An
unpark takes a PARKED path with candidates to GAIN with attempts 0, and is disregarded otherwise and in
SHUTDOWN (log 25). A stop does not overtake an unpark sent before it, nor an unpark a stop (log 24). A refusal is
counted in every state, in SHUTDOWN too (log 36). A MODE_MISMATCH order that does not name the present stay in
TRACKING is disregarded (sections 1.2, 1.3, 2.5). That the working values of MODE are cleared, and the work of a
state entry numbered, is the model's choice (logs 21 and 35). -/
def Obligations.PathTakesOrdersOfMergeUnit : Prop :=
  ∀ (p : Path) (before after : List PathOrder) (s : State),
    ((s.path p).inbox = before ++ .stop :: after → PathOrder.stop ∉ before →
      (.unpark ∈ before → exec (.stopOrder p) s = .next s) ∧
      (.unpark ∉ before → (s.path p).state ≠ .parked →
        exec (.stopOrder p) s = .next (s.updPath p fun u =>
          { u with
            inbox := before ++ after
            state := .parked
            timer := none
            selection := none
            measurements := none
            decoded := none
            detected := none
            counter := none
            outbox := if u.state = .tracking then u.outbox ++ [.leaving] else u.outbox })) ∧
      (.unpark ∉ before → (s.path p).state = .parked →
        exec (.stopOrder p) s = .next (s.updPath p fun u => { u with inbox := before ++ after }))) ∧
    ((s.path p).inbox = before ++ .unpark :: after → PathOrder.unpark ∉ before →
      (.stop ∈ before → exec (.unparkOrder p) s = .next s) ∧
      (.stop ∉ before → (s.path p).state = .parked → s.config.candidates.get p ≠ [] →
        s.thermal.shutdown = false →
        exec (.unparkOrder p) s = .next (s.updPath p fun u =>
          { u with
            inbox := before ++ after
            attempts := 0
            state := .gain
            selection := (s.config.candidates.get p)[u.candidateIndex]?
            measurements := none
            decoded := none
            detected := none
            counter := none
            run := 0
            timer := some 20
            work := u.work + 1 })) ∧
      (.stop ∉ before →
        ((s.path p).state ≠ .parked ∨ s.config.candidates.get p = [] ∨ s.thermal.shutdown = true) →
        exec (.unparkOrder p) s = .next (s.updPath p fun u => { u with inbox := before ++ after }))) ∧
    ((s.path p).inbox = before ++ .refusal :: after → PathOrder.refusal ∉ before →
      exec (.refusalNotice p) s = .next (s.updPath p fun u =>
        { u with
          inbox := before ++ after
          counters := { u.counters with refused := min (u.counters.refused + 1) 65535 } })) ∧
    (∀ stay, (s.path p).inbox = before ++ .modeMismatch stay :: after →
      (∀ n, PathOrder.modeMismatch n ∉ before) →
      ((s.path p).state ≠ .tracking ∨ (s.path p).stay ≠ stay) →
      exec (.modeMismatchOrder p) s = .next (s.updPath p fun u => { u with inbox := before ++ after }))

/-- R27, with the ordinal and the modulus of R26: d is the difference of the ordinals on a circle of
1024 × N; d = 0 is the same position, d from 1 to M/2 − 1 newer, the rest older. Newer one way is not
newer the other way, and half a turn apart neither is newer. The
ordinal lies in 0 to M − 1, and an advance of the counter raises it by one, from M − 1 to 0. -/
def Obligations.PositionsCompareOnACircle : Prop :=
  (∀ (n : Nat) (a b : Position), 64 ≤ n → n ≤ 8192 → a.packet < n → b.packet < n →
    let ord (q : Position) : Int := (q.superframe.val * 4 + q.frame.val) * n + q.packet
    let d := (ord a - ord b) % (1024 * n)
    (samePosition n a b = true ↔ d = 0) ∧
    (newer n a b = true ↔ 1 ≤ d ∧ d ≤ 512 * n - 1) ∧
    (samePosition n a b = false ∧ newer n a b = false ↔ 512 * n ≤ d ∧ d ≤ 1024 * n - 1) ∧
    (newer n a b = true → newer n b a = false ∧ samePosition n b a = false) ∧
    (d = 512 * n → newer n a b = false ∧ newer n b a = false)) ∧
  ∀ (n : Nat) (q : Position), 0 < n → q.packet < n →
    ordinal n q = (q.superframe.val * 4 + q.frame.val) * n + q.packet ∧
    ordinal n q < 1024 * n ∧ (q.next n).packet < n ∧
    ordinal n (q.next n) = (ordinal n q + 1) % (1024 * n)

/-! ### Merge unit -/

/-- A tracking notice adds its path to the tracking set of the service that has it as a contributor, notes
the stay it names, and makes a DARK service LIVE, which is signalled to the bound port and to the election
unit. From a path in no contributor set, and in SHUTDOWN, it is disregarded (sections 3.1, 3.4 and 3.6). -/
def Obligations.TrackingNoticeJoinsService : Prop :=
  ∀ (p : Path) (k : SlotNo) (c : ServiceConfig) (stay : Nat) (rest : List PathMessage) (s : State),
    (s.path p).outbox = .tracking stay :: rest → s.cascading = none →
    let taken := s.updPath p fun u => { u with outbox := rest }
    (s.servedIn p k c →
      let joined : State :=
        { taken with mergeStays := s.mergeStays.set p stay }.updService k fun v =>
          { v with tracking := v.tracking.set p true, state := .live }
      exec (.trackingNotice p) s = .next
        (match (s.service k).state, c.port with
        | .dark, some x =>
          { joined with
            portSignals := s.portSignals.set x (s.portSignals.get x ++ [.live])
            electionSignals := s.electionSignals.set x (s.electionSignals.get x ++ [.live]) }
        | _, _ => joined)) ∧
    ((s.thermal.shutdown = true ∨ s.servedNowhere p) → exec (.trackingNotice p) s = .next taken)

/-- What becomes of an arriving copy. From a path outside the tracking set: disregarded (log 41). Another N: a
refusal and a MODE_MISMATCH order for the stay. Not newer than the front, already held, or too old to open an
entry: a refusal and a late count. A position already open: the copy goes into its entry, and where that is
the head, the head and what follows it resolve as far as they are complete or expired. Another position,
while the window has room: an entry opens at its place with W counted from now (sections 3.2 to 3.5). -/
def Obligations.CopyIsRefusedStoredOrOpened : Prop :=
  ∀ (p : Path) (k : SlotNo) (c : ServiceConfig) (now : Nat) (r : Record) (rest : List PathMessage)
    (s : State),
    s.servedIn p k c → (s.path p).outbox = .record r :: rest → r.path = p → (s.service k).sound →
    let v := s.service k
    let arrives := exec (.copyArrival p ⟨now, none⟩) s
    let taken := { s with now := max s.now now }.updPath p fun u => { u with outbox := rest }
    let known := taken.updService k fun v => { v with refN := some r.n }
    let late := (known.updService k fun v =>
        { v with
          counters :=
            { v.counters with late := v.counters.late.set p (min (v.counters.late.get p + 1) 65535) } }).updPath p
      fun u => { u with inbox := u.inbox ++ [.refusal] }
    (v.tracking.get p = false → arrives = .next taken) ∧
    (v.tracking.get p = true →
      (∀ n, v.refN = some n → r.n ≠ n → arrives = .next (taken.updPath p fun u =>
        { u with inbox := u.inbox ++ [.refusal, .modeMismatch (s.mergeStays.get p)] })) ∧
      ((v.refN = none ∨ v.refN = some r.n) →
        (∀ f, v.front = some f → newer r.n r.position f = false → arrives = .next late) ∧
        (∀ before e after, v.window = before ++ e :: after →
          (∀ d ∈ before, samePosition r.n d.position r.position = false) →
          samePosition r.n e.position r.position = true → (e.copies.get p).isSome = true →
          arrives = .next late) ∧
        (∀ h t l, v.front = none → v.window = h :: t → v.window.getLast? = some l →
          (∀ d ∈ v.window, samePosition r.n d.position r.position = false) →
          newer r.n r.position h.position = false → newer r.n l.position r.position = false →
          arrives = .next late) ∧
        ((∀ f, v.front = some f → newer r.n r.position f = true) →
          (∀ before e after, v.window = before ++ e :: after →
            (∀ d ∈ before, samePosition r.n d.position r.position = false) →
            samePosition r.n e.position r.position = true → e.copies.get p = none →
            let stored := known.updService k fun v =>
              { v with
                window :=
                  before ++ { e with copies := e.copies.set p (some ⟨r.status, r.packet⟩) } :: after }
            (before ≠ [] → arrives = .next stored) ∧
            (before = [] → ∃ t, State.Drains k c stored t ∧ arrives = .next t)) ∧
          (r.inRange → v.orderLaw → (∀ d ∈ v.window, samePosition r.n d.position r.position = false) →
            (v.front ≠ none ∨ v.window = [] ∨
              ∃ h t l, v.window = h :: t ∧ v.window.getLast? = some l ∧
                (newer r.n r.position h.position = true ∨ newer r.n l.position r.position = true)) →
            v.window.length < 48 →
            ∃ t, known.OpensFor k c p r t ∧ arrives = .next t))))

/-- A copy from the only tracking path of a service with an empty window completes its entry and resolves
at once: front, last selected path and counts, the positions missed since the front among them; the
checker counts it when the service is under check; the packet goes to the bound port (sections 3.4, 3.5,
3.7, 8.3). The premise on N is the range of Table 2-1. -/
def Obligations.SoleTrackerCopyResolvesAtOnce : Prop :=
  ∀ (p : Path) (k : SlotNo) (c : ServiceConfig) (now : Nat) (r : Record) (rest : List PathMessage)
    (s : State),
    s.servedIn p k c → (s.path p).outbox = .record r :: rest → r.path = p → 64 ≤ r.n → r.n ≤ 8192 →
    let v := s.service k
    v.window = [] → v.tracking = (Quad.fill false).set p true → v.state = .live →
    (v.refN = none ∨ v.refN = some r.n) → (∀ f, v.front = some f → newer r.n r.position f = true) →
    let bad := r.status = .uncorrectable
    let missed := match v.front with | some f => distance r.n r.position f - 1 | none => 0
    ∃ t, exec (.copyArrival p ⟨now, none⟩) s = .next t ∧
      t.service k =
        { v with
          front := some r.position
          refN := some r.n
          lastSelected := some p
          counters :=
            { v.counters with
              resolved := min (v.counters.resolved + 1) 65535
              selected := v.counters.selected.set p (min (v.counters.selected.get p + 1) 65535)
              correctedBytes := min (v.counters.correctedBytes + r.status.correctedBytes) 1048575
              outputUncorrectable :=
                if bad then min (v.counters.outputUncorrectable + 1) 65535
                else v.counters.outputUncorrectable
              cumulativeOutputUncorrectable :=
                if bad then min (v.counters.cumulativeOutputUncorrectable + 1) 4294967295
                else v.counters.cumulativeOutputUncorrectable
              missing := min (v.counters.missing + missed) 65535
              cumulativeMissing := min (v.counters.cumulativeMissing + missed) 4294967295
              windowPeak := max v.counters.windowPeak 1 } } ∧
      t.fitness =
        (if s.fitness.underCheck = some k then
          { s.fitness with checked := min (s.fitness.checked + 1) 65535 } else s.fitness) ∧
      (∀ x q, c.port = some x → s.portConfig x = some q →
        t.ports = s.ports.set x ((s.port x).condition q.depth q.conditioning r.status r.packet)) ∧
      ((∀ x, c.port = some x → s.portConfig x = none) → t.ports = s.ports) ∧
      t.path p = { s.path p with outbox := rest } ∧ (∀ q, q ≠ p → t.path q = s.path q) ∧
      (∀ j, j ≠ k → t.service j = s.service j) ∧
      t = { s with
        now := max s.now now, paths := t.paths, services := t.services, fitness := t.fitness,
        ports := t.ports }

/-- A copy that would open a 49th entry forces the resolution of the head, whatever it waits for; heads that
are then complete or expired follow; and the copy, tested against the new front, is late or opens its entry
(sections 3.2, 3.3). -/
def Obligations.FullWindowForcesOneResolution : Prop :=
  ∀ (p : Path) (k : SlotNo) (c : ServiceConfig) (now : Nat) (r : Record) (rest : List PathMessage) (e : Entry)
    (behind : List Entry) (best : Path) (copy : Copy) (s : State),
    s.servedIn p k c → (s.path p).outbox = .record r :: rest → r.path = p → r.inRange →
    let v := s.service k
    v.tracking.get p = true → v.sound → v.orderLaw → v.window = e :: behind → v.window.length = 48 →
    v.refN = some r.n → (∀ d ∈ v.window, samePosition r.n d.position r.position = false) →
    v.late r.n r.position = false → v.admits r.n r.position = true →
    selectCopy c v.lastSelected e.copies = some (best, copy) →
    let taken := { s with now := max s.now now }.updPath p fun u => { u with outbox := rest }
    ∃ u, State.Drains k c (taken.resolved k c e behind best copy true) u ∧
      ∃ front, (u.service k).front = some front ∧
        (newer r.n r.position front = false →
          exec (.copyArrival p ⟨now, none⟩) s = .next
            ((u.updService k fun v =>
              { v with
                counters :=
                  { v.counters with
                    late := v.counters.late.set p (min (v.counters.late.get p + 1) 65535) } }).updPath p
              fun u => { u with inbox := u.inbox ++ [.refusal] })) ∧
        (newer r.n r.position front = true →
          ∃ t, u.OpensFor k c p r t ∧ exec (.copyArrival p ⟨now, none⟩) s = .next t)

/-- An expired head, and a leaving notice, resolve every head that is complete or expired, one after
another, and no other entry; one that has not expired, and a notice from a path that does not track, have
no effect. A service that its last tracking path leaves with its window resolved goes DARK (sections 3.1, 3.4).
A cascade may be left off for an interval end to come between two of its resolutions; the merge unit finishes
it before it takes anything else, and cut and finished it is the cascade whole (sections 3.4, 8.3; the cut is an
operand: log 40). -/
def Obligations.ExpiryAndLeavingResolveReadyHeads : Prop :=
  (∀ (k : SlotNo) (c : ServiceConfig) (now : Nat) (s : State),
    s.slotConfig k = some c → s.cascading = none →
    let v := s.service k
    let moment := max s.now now
    (∀ e rest, v.window = e :: rest → e.expiryTime ≤ moment → s.thermal.shutdown = false → v.sound →
      ∃ t, State.Drains k c { s with now := moment } t ∧
        exec (.entryExpiry k ⟨now, none⟩) s = .next (t.turnedDark k c)) ∧
    (∀ e rest n, v.window = e :: rest → e.expiryTime ≤ moment → s.thermal.shutdown = false → v.sound →
      ∀ t u, State.Drains k c { s with now := moment } u → exec (.entryExpiry k ⟨now, some n⟩) s = .next t →
        (u.service k).window.length + n < v.window.length →
        t.cascading = some ⟨k, .nothing⟩ ∧ (t.service k).window = v.window.drop n) ∧
    ((v.window = [] ∨ (∃ e rest, v.window = e :: rest ∧ moment < e.expiryTime) ∨ s.thermal.shutdown = true) →
      ∀ cut, exec (.entryExpiry k ⟨now, cut⟩) s = .next { s with now := moment }) ∧
    (∀ p rest, s.servedIn p k c → (s.path p).outbox = .leaving :: rest →
      let taken := { s with now := moment }.updPath p fun u => { u with outbox := rest }
      (v.tracking.get p = false → ∀ cut, exec (.leavingNotice p ⟨now, cut⟩) s = .next taken) ∧
      (v.tracking.get p = true → v.sound →
        let left := taken.updService k fun v =>
          { v with
            tracking := v.tracking.set p false
            window := v.window.map fun e => { e with awaited := e.awaited.set p false } }
        ∃ t, State.Drains k c left t ∧ exec (.leavingNotice p ⟨now, none⟩) s = .next (t.turnedDark k c)))) ∧
  (∀ (p : Path) (k : SlotNo) (m : Moment) (s : State),
    exec (.copyArrival p m) s = exec (.copyArrival p m) (finishCascade s) ∧
    exec (.entryExpiry k m) s = exec (.entryExpiry k m) (finishCascade s) ∧
    exec (.trackingNotice p) s = exec (.trackingNotice p) (finishCascade s) ∧
    exec (.leavingNotice p m) s = exec (.leavingNotice p m) (finishCascade s) ∧
    exec (.parkRequest m) s = exec (.parkRequest m) (finishCascade s) ∧
    exec .unparkRequest s = exec .unparkRequest (finishCascade s) ∧ (finishCascade s).cascading = none) ∧
  ∀ (p : Path) (k : SlotNo) (now n : Nat) (s t : State),
    (exec (.copyArrival p ⟨now, some n⟩) s = .next t →
      exec (.copyArrival p ⟨now, none⟩) s = .next (finishCascade t)) ∧
    (exec (.entryExpiry k ⟨now, some n⟩) s = .next t →
      exec (.entryExpiry k ⟨now, none⟩) s = .next (finishCascade t)) ∧
    (exec (.leavingNotice p ⟨now, some n⟩) s = .next t →
      exec (.leavingNotice p ⟨now, none⟩) s = .next (finishCascade t)) ∧
    (exec (.parkRequest ⟨now, some n⟩) s = .next t →
      exec (.parkRequest ⟨now, none⟩) s = .next (finishCascade t))

/-- A park request for one of several contributors takes the path out of contributor set, tracking set and
awaited sets, resolves what waited for it alone, stops the path and is acknowledged; for the sole member
of a contributor set, or a path in none, it is refused and changes nothing. An unpark request for a
configured contributor that is parked puts it back into the contributor set, not into the tracking set,
orders the path out of PARKED and is acknowledged; otherwise it is refused and changes nothing. In
SHUTDOWN neither is taken. Between the two requests the path's records and notices are disregarded, and those still on
their way at the unpark request are taken no more (sections 3.1, 3.4, 3.6; the latter: log 42). -/
def Obligations.ParkAndUnparkRequestsAreAnswered : Prop :=
  (∀ (p : Path) (now : Nat) (cut : Option Nat) (rest : List Request) (s : State),
    s.requests = .park p :: rest → s.cascading = none →
    let moment := max s.now now
    let refused : State :=
      { s with now := moment, requests := rest, answers := s.answers ++ [.parkRefused p] }
    (s.thermal.shutdown = true → exec (.parkRequest ⟨now, cut⟩) s = .next { s with now := moment }) ∧
    (s.thermal.shutdown = false → s.servedNowhere p → exec (.parkRequest ⟨now, cut⟩) s = .next refused) ∧
    ∀ k c, s.servedIn p k c →
      ((∀ q, q ≠ p → (s.service k).contributors.get q = false) →
        exec (.parkRequest ⟨now, cut⟩) s = .next refused) ∧
      ((∃ q, q ≠ p ∧ (s.service k).contributors.get q = true) → (s.service k).sound →
        let taken : State := { s with now := moment, requests := rest }
        let left := taken.updService k fun v =>
          { v with
            contributors := v.contributors.set p false
            tracking := v.tracking.set p false
            window := v.window.map fun e => { e with awaited := e.awaited.set p false } }
        ∃ t, State.Drains k c left t ∧
          let stopped := (t.turnedDark k c).updPath p fun u => { u with inbox := u.inbox ++ [.stop] }
          exec (.parkRequest ⟨now, none⟩) s = .next { stopped with answers := s.answers ++ [.parked p] })) ∧
  (∀ (p : Path) (rest : List Request) (s : State), s.requests = .unpark p :: rest → s.cascading = none →
    let refused : State := { s with requests := rest, answers := s.answers ++ [.unparkRefused p] }
    (s.thermal.shutdown = true → exec .unparkRequest s = .next s) ∧
    (s.thermal.shutdown = false → (∀ j c, s.slotConfig j = some c → c.contributors.get p = false) →
      exec .unparkRequest s = .next refused) ∧
    ∀ k c, s.thermal.shutdown = false → s.slotConfig k = some c → c.contributors.get p = true →
      (∀ j d, j ≠ k → s.slotConfig j = some d → d.contributors.get p = false) →
      ((s.service k).contributors.get p = true → exec .unparkRequest s = .next refused) ∧
      ((s.service k).contributors.get p = false →
        let answered : State := { s with requests := rest, answers := s.answers ++ [.unparked p] }
        let joined : State := answered.updService k fun v =>
          { v with contributors := v.contributors.set p true }
        exec .unparkRequest s = .next (joined.updPath p fun u =>
          { u with inbox := u.inbox ++ [.unpark], outbox := [] }))) ∧
  ∀ (p : Path) (now : Nat) (cut : Option Nat) (m : PathMessage) (rest : List PathMessage) (s : State),
    (s.path p).outbox = m :: rest → s.cascading = none → s.servedNowhere p →
    let disregarded : State := s.updPath p fun u => { u with outbox := rest }
    match m with
    | .record _ => exec (.copyArrival p ⟨now, cut⟩) s = .next { disregarded with now := max s.now now }
    | .tracking _ => exec (.trackingNotice p) s = .next disregarded
    | .leaving => exec (.leavingNotice p ⟨now, cut⟩) s = .next { disregarded with now := max s.now now }

/-- R51 and R52: the selected copy is of the best rank present; among those, the last selected path's
under STICKY, else the one of highest priority, the lowest path among equals. An entry with a copy always
selects one. -/
def Obligations.SelectionTakesBestRankThenTieBreak : Prop :=
  ∀ (c : ServiceConfig) (last : Option Path) (copies : Quad (Option Copy)),
    let rank (st : Status) : Nat :=
      match st with | .clean => 0 | .corrected k => k.val + 1 | .uncorrectable => 9
    ((∃ p, copies.get p ≠ none) → selectCopy c last copies ≠ none) ∧
    ∀ p copy, selectCopy c last copies = some (p, copy) →
      copies.get p = some copy ∧
      (∀ q d, copies.get q = some d → rank copy.status ≤ rank d.status) ∧
      (c.tieMode = .sticky → ∀ q d, last = some q → copies.get q = some d →
        rank d.status = rank copy.status → p = q) ∧
      ((c.tieMode = .priority ∨
          ∀ q d, last = some q → copies.get q = some d → rank copy.status < rank d.status) →
        ∀ q d, copies.get q = some d → rank d.status = rank copy.status →
          (c.priority.get q).val < (c.priority.get p).val ∨
            ((c.priority.get q).val = (c.priority.get p).val ∧ p.val ≤ q.val))

/-- The merge checker's own selection is the merge unit's, whatever copies, tie mode, priorities and last
selected path: a check on a sound unit counts no mismatch (section 8.3). -/
def Obligations.CheckerAgreesWithSelection : Prop :=
  ∀ (c : ServiceConfig) (last : Option Path) (copies : Quad (Option Copy)),
    CheckInputs.select ⟨statusesOf copies, c.tieMode, c.priority, last⟩ =
      (selectCopy c last copies).map Prod.fst

/-! ### Thermal controller -/

/-- A park acknowledgement is taken once the path is PARKED and no order to stop or to leave PARKED is on its way: the
path is pushed, the cool
count is 0, and a level that rises from 0 is signalled. A park refusal and an answer to an unpark request
clear the outstanding request alone. An answer that matches no outstanding request has no effect, and
neither has one in SHUTDOWN (sections 9.4, 9.5, 9.6; that an acknowledgement waits for the path: log 16). -/
def Obligations.AnswersSettleOutstandingRequest : Prop :=
  ∀ (p : Path) (a : Answer) (rest : List Answer) (s : State), s.answers = a :: rest →
    let taken : State := { s with answers := rest }
    (a = .parked p → s.thermal.shutdown = false →
      let awaited := (s.path p).state ≠ .parked ∨ .stop ∈ (s.path p).inbox ∨ .unpark ∈ (s.path p).inbox
      (awaited → exec .parkAcknowledgement s = .next s) ∧
      (¬ awaited →
        (s.thermal.outstanding = some (.park p) →
          exec .parkAcknowledgement s = .next
            { taken with
              thermal := { s.thermal with stack := p :: s.thermal.stack, outstanding := none, cool := 0 }
              fitness :=
                { s.fitness with
                  faults :=
                    { s.fitness.faults with
                      thermalShed := s.fitness.faults.thermalShed || s.thermal.stack.isEmpty } } }) ∧
        (s.thermal.outstanding ≠ some (.park p) → exec .parkAcknowledgement s = .next taken))) ∧
    (a = .parked p → s.thermal.shutdown = true → exec .parkAcknowledgement s = .next taken) ∧
    (a = .parkRefused p →
      (s.thermal.shutdown = false → s.thermal.outstanding = some (.park p) →
        exec .parkRefusal s = .next { taken with thermal := { s.thermal with outstanding := none } }) ∧
      ((s.thermal.shutdown = true ∨ s.thermal.outstanding ≠ some (.park p)) →
        exec .parkRefusal s = .next taken)) ∧
    ((a = .unparked p ∨ a = .unparkRefused p) →
      (s.thermal.shutdown = false → s.thermal.outstanding = some (.unpark p) →
        exec .unparkAcknowledgement s = .next
          { taken with thermal := { s.thermal with outstanding := none } }) ∧
      ((s.thermal.shutdown = true ∨ s.thermal.outstanding ≠ some (.unpark p)) →
        exec .unparkAcknowledgement s = .next taken))

/-- The reading of an interval end outside SHUTDOWN, below 125 °C: with a request outstanding neither test
is made; else the shed test, then the cool test; what each counts, requests and signals, in whatever order
the takers act. THERMAL_SHED goes with the last path of the stack, and stands otherwise (sections 9.2, 9.3, 9.4, 9.5;
the order of takers is an operand: log 4). -/
def Obligations.ReadingShedsOrUnparks : Prop :=
  ∀ (order : EndOrder) (sensor : Int) (boot : BootInputs) (s : State), s.intervalOpen → publishesApart order →
    let r := max (-40) (min sensor 150)
    let h := s.thermal
    r < 125 →
    ∃ t, exec (.intervalEnd order sensor boot) s = .next t ∧
      (h.outstanding ≠ none → t.thermal = { h with reading := r } ∧ t.requests = s.requests) ∧
      (h.outstanding = none → s.config.tw ≤ r → h.spacing = 4 → ∀ p, s.pathToPark = some p →
        t.thermal = { h with reading := r, outstanding := some (.park p), spacing := 0, cool := 0 } ∧
        t.requests = s.requests ++ [.park p]) ∧
      (h.outstanding = none → (r < s.config.tw ∨ h.spacing ≠ 4 ∨ s.pathToPark = none) →
        ((h.stack = [] ∨ s.config.tw - 5 < r) →
          t.thermal = { h with reading := r, spacing := min 4 (h.spacing + 1), cool := 0 } ∧
          t.requests = s.requests) ∧
        (∀ p rest, h.stack = p :: rest → r ≤ s.config.tw - 5 →
          (h.cool + 1 < 8 →
            t.thermal = { h with reading := r, spacing := min 4 (h.spacing + 1), cool := h.cool + 1 } ∧
            t.requests = s.requests) ∧
          (8 ≤ h.cool + 1 →
            t.thermal =
              { h with
                reading := r
                spacing := min 4 (h.spacing + 1)
                stack := rest
                outstanding := some (.unpark p)
                cool := 0 } ∧
            t.requests = s.requests ++ [.unpark p] ∧
            (rest = [] → t.fitness.faults.thermalShed = false)))) ∧
      (¬ (h.outstanding = none ∧ (r < s.config.tw ∨ h.spacing ≠ 4 ∨ s.pathToPark = none) ∧ h.stack.length = 1 ∧
          r ≤ s.config.tw - 5 ∧ 8 ≤ h.cool + 1) →
        t.fitness.faults.thermalShed = s.fitness.faults.thermalShed) ∧
      s.keptByInterval t

/-- R164: the path to park is taken from the configured service with the most contributors, at least two,
the lowest slot among equals; in it, the contributor of the lowest configured priority, the highest path
among equals. With no such service there is no path to park. -/
def Obligations.ParkedPathIsLeastOfRichestService : Prop :=
  ∀ (s : State),
    (s.pathToPark = none ↔ ∀ k, (s.slotConfig k).isSome = true → (s.service k).contributors.count < 2) ∧
    ∀ p, s.pathToPark = some p → ∃ k c, s.slotConfig k = some c ∧
      2 ≤ (s.service k).contributors.count ∧ (s.service k).contributors.get p = true ∧
      (∀ j, (s.slotConfig j).isSome = true → j ≠ k →
        (s.service j).contributors.count < (s.service k).contributors.count ∨
          ((s.service j).contributors.count = (s.service k).contributors.count ∧ k.val < j.val)) ∧
      ∀ q, (s.service k).contributors.get q = true → q ≠ p →
        (c.priority.get p).val < (c.priority.get q).val ∨
          ((c.priority.get p).val = (c.priority.get q).val ∧ q.val < p.val)

/-- A reading of 125 °C or more outside SHUTDOWN shuts the station down, each block in its own way, in
whatever order the takers of the interval end act, and wherever the publication comes among them (log 4): DARK is signalled for every configured service, whose reference N and last selected path are cleared, and a
path that was TRACKING sends its leaving notice (sections 1.3, 3.6, 5.10, 6.7, 7.6, 9.6, 10.6, 11.3). -/
def Obligations.HotReadingShutsDown : Prop :=
  ∀ (order : EndOrder) (sensor : Int) (boot : BootInputs) (s : State), s.intervalOpen → 125 ≤ sensor →
    ∃ t, exec (.intervalEnd order sensor boot) s = .next t ∧
      t.thermal = { s.thermal with reading := min sensor 150, shutdown := true, recovery := 0, outstanding := none } ∧
      (∀ p, (t.path p).state = .parked ∧
        ((s.path p).state ≠ .parked → (t.path p).timer = none ∧ (t.path p).selection = none ∧
          (t.path p).measurements = none ∧ (t.path p).decoded = none ∧ (t.path p).counter = none) ∧
        (t.path p).lastFailure = (s.path p).lastFailure ∧ (t.path p).attempts = (s.path p).attempts ∧
        (t.path p).candidateIndex = (s.path p).candidateIndex ∧
        (t.path p).outbox =
          (s.path p).outbox ++ (if (s.path p).state = .tracking then [.leaving] else []) ∧
        (t.path p).inbox = (s.path p).inbox) ∧
      (∀ k c, s.slotConfig k = some c → (t.service k).window = [] ∧ (t.service k).front = none ∧
        (t.service k).refN = none ∧ (t.service k).lastSelected = none ∧ (t.service k).state = .dark ∧
        ∀ p, (t.service k).tracking.get p = false) ∧
      (∀ x c, s.portConfig x = some c → (t.port x).fifo = [] ∧ (t.port x).due = none ∧
        (t.port x).driversOn = false ∧ (t.port x).onLane = none ∧ (t.port x).sensing = false ∧
        (t.port x).activityTimer = none) ∧
      (∀ x, (t.elect x).lane = .disabled ∧ (t.elect x).settle = .stopped ∧
        (t.elect x).yieldWait = .stopped ∧ (t.elect x).holdTimer = none ∧ (t.elect x).mark = none) ∧
      t.election.restarting = false ∧ t.cascading = none ∧ t.line.counters = s.line.counters ∧
      ((order.publishFirst = false ∨ order.startsBetween = false ∨ s.line.state ≠ .idle) →
        t.line.state = s.line.state) ∧
      (∀ x, let naming := [0, 1, 2, 3].filter fun k => (s.slotConfig k).any fun c => c.port = some x
        let dark := List.replicate naming.length ServiceState.dark
        t.portSignals.get x = s.portSignals.get x ++ dark ∧
          t.electionSignals.get x = s.electionSignals.get x ++ dark) ∧
      (∀ k, t.line.slots.get k = none) ∧ t.line.retry = none ∧ t.line.flight = none ∧
      t.line.reception = .off ∧ t.interval.latched = false ∧ t.loader.releasing = false ∧
      t.loader.releaseLimit = none ∧ t.monitor.current = none ∧ t.monitor.queue = [] ∧
      t.loader =
        { s.loader with releasing := false, releaseLimit := none, releasedReport := false } ∧
      (order.publishFirst = false → t.interval.published = s.interval.published) ∧ t.monitor.source = s.monitor.source ∧
      t.line.heard = [] ∧
      t = { s with
        thermal := t.thermal, paths := t.paths, services := t.services, cascading := none, ports := t.ports,
        election := t.election, line := t.line, interval := t.interval, loader := t.loader,
        monitor := t.monitor, fitness := t.fitness, portSignals := t.portSignals,
        electionSignals := t.electionSignals }

/-- In SHUTDOWN an interval end brings its reading alone: each at or below T_w − 10 is counted, a warmer
one clears the count, and the twentieth in a row brings the thermal restart: cause THERMAL, the restart
count raised, every block reset, a fresh load (sections 4.1, 9.7, 10.5, 10.7). The values a block has after the reset that the
manual does not state are the model's (log 8). -/
def Obligations.TwentyCoolReadingsRestartStation : Prop :=
  ∀ (order : EndOrder) (sensor : Int) (boot : BootInputs) (s : State),
    s.loader.phase = .running → s.thermal.shutdown = true → s.interval.running = true →
    s.interval.latched = false →
    let r := max (-40) (min sensor 150)
    (s.config.tw - 10 < r →
      exec (.intervalEnd order sensor boot) s = .next
        { s with thermal := { s.thermal with reading := r, recovery := 0 } }) ∧
    (r ≤ s.config.tw - 10 → s.thermal.recovery < 19 →
      exec (.intervalEnd order sensor boot) s = .next
        { s with thermal := { s.thermal with reading := r, recovery := s.thermal.recovery + 1 } }) ∧
    (r ≤ s.config.tw - 10 → 19 ≤ s.thermal.recovery →
      ∃ t, exec (.intervalEnd order sensor boot) s = .next t ∧ t.blocksAtReset ∧ t.pending = s.pending ∧
        t.loader.cause = .thermal ∧ t.loader.restartCount = min (s.loader.restartCount + 1) 65535 ∧
        t.loader.phase = .loading ∧ t.loader.stationNumber = boot.straps ∧
        t.loader.record = boot.image.record ∧ t.loader.raw = boot.image.raw ∧
        t.thermal.reading = max (-40) (min boot.sensor 150))

/-! ### Intervals and fitness -/

/-- The latch copies every counter, every tracking set, the MER of every tracked path and every port's
part into the working snapshot, and clears the counters it copied in the same act; the published snapshot
stands (sections 2.6, 3.7, 4.2, 5.9). -/
def Obligations.LatchCopiesAndClearsCounters : Prop :=
  ∀ (order : EndOrder) (sensor : Int) (boot : BootInputs) (s : State), s.intervalOpen → publishesApart order → sensor < 125 →
    ∃ t w, exec (.intervalEnd order sensor boot) s = .next t ∧ t.interval.latched = true ∧
      t.interval.working = some w ∧ t.interval.published = s.interval.published ∧
      (∀ p,
        w.paths.get p = ⟨(s.path p).counters, (s.path p).cumulativeUncorrectable⟩ ∧
        (w.mers.get p =
          if ∃ k, (s.slotConfig k).isSome = true ∧ (s.service k).tracking.get p = true then
            (s.path p).measurements.map Measurement.mer
          else none) ∧
        t.path p = { s.path p with counters := ⟨0, 0, 0, 0, 0, 0, 0, 0⟩ }) ∧
      (∀ k, s.slotConfig k = none → w.services.get k = none ∧ t.service k = s.service k) ∧
      (∀ k c, s.slotConfig k = some c →
        w.services.get k = some ⟨(s.service k).counters, (s.service k).tracking⟩ ∧
        t.service k =
          { s.service k with
            counters :=
              { resolved := 0
                outputUncorrectable := 0
                missing := 0
                correctedBytes := 0
                forced := 0
                selected := .fill 0
                unselected := .fill 0
                late := .fill 0
                windowPeak := (s.service k).window.length
                darkMark := (s.service k).state == .dark
                cumulativeMissing := (s.service k).counters.cumulativeMissing
                cumulativeOutputUncorrectable := (s.service k).counters.cumulativeOutputUncorrectable } }) ∧
      (∀ x c, s.portConfig x = some c → let u := s.port x
        w.ports.get x = ⟨u.counters, u.peak, u.fifo.length, u.rEst, u.rOut, u.activity⟩ ∧
        (t.port x).counters = ⟨0, 0, 0, 0, 0, 0, 0, 0, 0⟩ ∧
        (t.port x).peak = fillDeviation c.depth u.fifo.length ∧ (t.port x).fifo = u.fifo ∧
        (t.port x).rEst = u.rEst ∧ (t.port x).rOut = u.rOut ∧ (t.port x).due = u.due ∧
        (t.port x).activity = u.activity ∧ (t.port x).recorded = u.recorded ∧
        (t.port x).mismatch = u.mismatch) ∧
      (∀ x, s.portConfig x = none → w.ports.get x = PortPart.zero) ∧
      s.keptByInterval t

/-- A publication fills the figures that are still to be computed, replaces the published snapshot whole,
updates the rates of every bound port from it, and, outside a line restart, places an ANNOUNCE of the
station's present standing: one record for each configured service, with the lane state of its port after the
evaluations. It waits in its slot while the line is not IDLE or a frame is in flight; on an IDLE line it may start at
once, and does where nothing waited and no port has begun to claim. Where the interval end takes its reading or the
fitness monitor's event after the publication, the ANNOUNCE carries the reading, or the fitness state and faults, from
before, and all else is as after the two events in turn, but where that event makes the station UNFIT: then the figures
are those of a FIT station, and no claim of the evaluation stands. A change to FIT is never taken after (sections 4.1,
4.4, 4.5, 5.4, 6.5, 6.6, 7.2, 7.3, 8.5, 8.7, 9.2; logs 4 and 5). -/
def Obligations.PublicationReplacesSnapshotAndAnnounces : Prop :=
  (∀ (w : Snapshot) (s : State),
    s.loader.phase = .running → s.thermal.shutdown = false → s.interval.latched = true →
    s.interval.working = some w →
    let computed : Snapshot :=
      { w with
        figures := Quad.tabulate fun k =>
          (w.services.get k).map (figureOf (decide (s.fitness.state = .fit)) w.mers) }
    let filled := if s.interval.figured then w else computed
    ∃ t, exec .publication s = .next t ∧
      t.interval =
        { s.interval with working := some filled, published := filled, latched := false, figured := true } ∧
      (∀ x, s.portConfig x = none → t.port x = s.port x) ∧
      (∀ x c, s.portConfig x = some c →
        t.port x = (s.port x).rateUpdate c.depth (filled.ports.get x)
          (((filled.services.get c.slot).map fun v => v.counters.darkMark).getD true)) ∧
      (s.election.restarting = true → t.election = s.election ∧ t.line = (trySend s).line) ∧
      (s.election.restarting = false →
        let record (k : SlotNo) (c : ServiceConfig) : List Byte :=
          let port := c.port.filter fun x => (s.portConfig x).isSome
          numBytes 2 c.muxId.toNat ++ numBytes 2 (((filled.figures.get k).map FigurePart.sf).getD 0) ++
            numBytes 1 (((port.bind s.portConfig).map fun q => q.lane.val).getD 255) ++
            numBytes 1 ((port.map fun x => (t.elect x).lane.number).getD 0)
        let announce : Frame :=
          ⟨3, s.loader.stationNumber,
            faultsByte s.fitness ++ numBytes 1 s.loader.cause.number ++ readingByte s.thermal.reading ++
              [0, 1, 2, 3].flatMap fun k => ((s.slotConfig k).map (record k)).getD []⟩
        let waits := t.line.slots.announce.map PlacedFrame.frame = some announce
        let starts := t.line.slots.announce = none ∧
          ∃ g, t.line.flight = some ⟨.announce, g, false, false⟩ ∧ g.frame = announce
        (s.line.state ≠ .idle ∨ s.line.flight ≠ none → waits) ∧
        (s.line.state = .idle → s.line.flight = none → waits ∨ starts) ∧
        (s.line.state = .idle → s.line.flight = none → (∀ k, s.line.slots.get k = none) →
          (∀ x, (t.elect x).lane = .claiming → (s.elect x).lane = .claiming) → starts)) ∧
      t.election.peers = s.election.peers ∧
      t = { s with interval := t.interval, ports := t.ports, election := t.election, line := t.line }) ∧
  ∀ (order : EndOrder) (sensor : Int) (boot : BootInputs) (s ended published t : State),
    s.intervalOpen → sensor < 125 → ¬ publishesApart order →
    let within (reading fitness : Bool) : Instr :=
      .intervalEnd { order with publishFirst := reading, publishBeforeFitness := fitness } sensor boot
    exec (within false false) s = .next ended → exec .publication ended = .next published →
    exec (.intervalEnd order sensor boot) s = .next t →
    let shown := if order.publishFirst then s.thermal.reading else max (-40) (min sensor 150)
    let announces (byte : List Byte) : Prop :=
      let carries (g : PlacedFrame) : Prop :=
        g.frame.kind = 3 ∧ g.frame.body.take 1 = byte ∧ (g.frame.body.drop 2).take 1 = readingByte shown
      let waits := ∃ g, t.line.slots.announce = some g ∧ carries g
      let starts := t.line.slots.announce = none ∧ ∃ g, t.line.flight = some ⟨.announce, g, false, false⟩ ∧ carries g
      s.election.restarting = false →
        (s.line.state ≠ .idle ∨ s.line.flight ≠ none → waits) ∧
        (s.line.state = .idle → s.line.flight = none → waits ∨ starts)
    let shed (u : State) : Bool := if order.publishFirst then s.fitness.faults.thermalShed else u.fitness.faults.thermalShed
    let standing (f : FitnessUnit) : List Byte := faultsByte { f with faults := { f.faults with thermalShed := shed t } }
    let becomesFit := s.fitness.state = .listen ∧ ended.fitness.state = .fit
    let losesFit := s.fitness.state = .fit ∧ ended.fitness.state = .unfit
    (becomesFit → order.publishBeforeFitness = true →
      exec (.intervalEnd order sensor boot) s = exec (within order.publishFirst false) s) ∧
    (order.publishBeforeFitness = false → t = { published with line := t.line } ∧ announces (standing ended.fitness)) ∧
    (order.publishBeforeFitness = true → ¬ becomesFit →
      (¬ losesFit → t = { published with line := t.line }) ∧ announces (standing s.fitness)) ∧
    (order.publishBeforeFitness = true → losesFit →
      t.interval.latched = false ∧
      (∀ k, t.interval.published.figures.get k =
        (t.interval.published.services.get k).map (figureOf true t.interval.published.mers)) ∧
      (∀ x, (t.elect x).lane = .disabled) ∧
      (∀ x, (s.elect x).lane = .released → t.line.slots.lane.get x = none ∨
        t.line.slots.lane.get x = s.line.slots.lane.get x) ∧
      (order.startsBetween = false → s.line.flight = none → (∀ x, s.line.slots.lane.get x = none) →
        ∀ g, t.line.flight = some g → ∀ x, g.slot = .lane x → g.placed.frame.kind = 1))

/-- The rate arithmetic of an update: an unsettled port settles at twice its entered count, a settled one
moves by a half or an eighth of the difference, truncated toward zero; a dark mark freezes the estimate;
the output rate follows the fill while the port knows its service as LIVE, and stays in 1,000 to 40,000
(section 5.4). A due event that is scheduled is not moved (section 5.5). -/
def Obligations.RateUpdateFollowsEntriesAndFill : Prop :=
  ∀ (u : PortUnit) (d : Nat) (part : PortPart) (dark : Bool), d % 2 = 0 →
    let a : Int := 2 * part.counters.entered
    let out (r : Int) : Int :=
      max 1000 (min (if u.recorded = .live then r + 4 * ((part.fill : Int) - d / 2) else r) 40000)
    let t := u.rateUpdate d part dark
    (u.rEst = none → dark = true → t = u) ∧
    (u.rEst = none → dark = false →
      t = { u with rEst := some a.toNat, rOut := some (out a).toNat, due := t.due } ∧
      (u.due = none → t.due = t.rOut) ∧ (u.due ≠ none → t.due = u.due)) ∧
    (∀ r, u.rEst = some r →
      let e : Int :=
        if dark then r
        else if part.fill ≤ 4 ∨ d - 4 ≤ part.fill then r + Int.tdiv (a - r) 2
        else r + Int.tdiv (a - r) 8
      0 ≤ e ∧ (r ≤ 131070 → a ≤ 131070 → e ≤ 131070) ∧
        t = { u with rEst := some e.toNat, rOut := some (out e).toNat, due := t.due } ∧
        (u.due ≠ none → t.due = u.due) ∧ (u.due = none → t.due = t.rOut))

/-- R72 to R75 with R69 and R70: the figure of a service from its inputs; 0 for a station that is not FIT,
without a tracking path or without a position, and never above 1023. -/
def Obligations.FigureFollowsItsThreeParts : Prop :=
  ∀ (fit : Bool) (mers : Quad (Option Nat)) (v : ServicePart), let f := figureOf fit mers v
    f.p = min (v.counters.resolved + v.counters.missing) 65535 ∧
    f.u = min (v.counters.outputUncorrectable + v.counters.missing) f.p ∧
    f.c = v.counters.correctedBytes ∧
    (∀ p m, v.tracking.get p = true → mers.get p = some m → m ≤ f.mer) ∧
    (f.mer ≠ 0 → ∃ p, v.tracking.get p = true ∧ mers.get p = some f.mer) ∧
    ((fit = false ∨ (∀ p, v.tracking.get p = false) ∨ f.p = 0) → f.sf = 0) ∧
    (fit = true → (∃ p, v.tracking.get p = true) → f.p ≠ 0 →
      (f.sf : Int) = 2 * min (f.mer : Int) 350 +
        (if f.u = 0 then 200 else max 0 (150 - ((1000 * f.u / f.p : Nat) : Int))) +
        (123 - min 123 ((123 * f.c / (8 * f.p) : Nat) : Int))) ∧
    f.sf ≤ 1023

/-- The evaluation of a RELEASED port at a publication, with the figures that it publishes: not eligible, its
challenge counter is 0; eligible, the counter counts publications in a row with a figure 48 above the
drivers'; it claims when no rival is better and the lane has no driver and is QUIET, or the counter has
reached 3, or every driver is HOLDING. The CLAIM takes its slot and waits there while the line is not IDLE or a frame
is in flight; on an IDLE line it may start at once, and does where nothing waited and no lower port was RELEASED. A port
outside RELEASED is not evaluated (sections 4.5, 6.5, 7.3; the figures computed at the publication: log 5). -/
def Obligations.PublicationEvaluatesReleasedPort : Prop :=
  ∀ (x : Port) (c : PortConfig) (m : Half) (w : Snapshot) (s : State),
    s.loader.phase = .running → s.thermal.shutdown = false → s.interval.latched = true →
    s.interval.working = some w → s.election.restarting = false →
    s.portConfig x = some c → (s.slotConfig c.slot).map ServiceConfig.muxId = some m →
    (s.elect x).lane = .released →
    let filled :=
      if s.interval.figured then w.figures.get c.slot
      else (w.services.get c.slot).map (figureOf (decide (s.fitness.state = .fit)) w.mers)
    let own := (filled.map FigurePart.sf).getD 0
    let considered := fun (i : Station) (r : ServiceRecord) =>
      (∃ e, s.election.peers.get i = some e ∧ r ∈ e.records) ∧ r.lane = some c.lane ∧ r.muxId = m
    let drives := fun (r : ServiceRecord) => r.state = .driving ∨ r.state = .holding
    let eligible := s.fitness.state = .fit ∧ s.election.lineStuck = false ∧ (s.elect x).service = .live ∧ 0 < own
    let driven := ∃ i r, considered i r ∧ drives r
    let ahead := ∀ i r, considered i r → drives r → r.sf + 48 ≤ own
    let bested := ∃ i r, considered i r ∧ (r.state = .released ∨ r.state = .claiming) ∧
      (own < r.sf ∨ (own = r.sf ∧ i.val < s.loader.stationNumber.val))
    ∃ t, exec .publication s = .next t ∧
      (¬ eligible → t.elect x = { s.elect x with challenge := 0 }) ∧
      (eligible → ∀ n : Nat,
        (driven ∧ ahead ∧ n = min 3 ((s.elect x).challenge + 1) ∨ ¬ (driven ∧ ahead) ∧ n = 0) →
        let claims := ¬ bested ∧
          ((¬ driven ∧ (s.elect x).activity = .quiet) ∨
            (driven ∧ (n = 3 ∨ ∀ i r, considered i r → drives r → r.state = .holding)))
        (claims →
          t.elect x = ({ s.elect x with challenge := n }).entered .claiming ∧
          let claim : Frame := ⟨2, s.loader.stationNumber, byte c.lane.val :: (bytes2 m.toNat ++ bytes2 own)⟩
          let waits := (t.line.slots.lane.get x).map PlacedFrame.frame = some claim
          let starts := t.line.slots.lane.get x = none ∧
            ∃ g, t.line.flight = some ⟨.lane x, g, false, false⟩ ∧ g.frame = claim
          (s.line.state ≠ .idle ∨ s.line.flight ≠ none → waits) ∧
          (s.line.state = .idle → s.line.flight = none → waits ∨ starts) ∧
          (s.line.state = .idle → s.line.flight = none → (∀ k, s.line.slots.get k = none) →
            (∀ y, y < x → (s.elect y).lane ≠ .released) → starts)) ∧
        (¬ claims → t.elect x = { s.elect x with challenge := n })) ∧
      ∀ y, (s.elect y).lane ≠ .released → t.elect y = s.elect y

/-- The fitness monitor's interval end, below 125 °C: no check in UNCONFIGURED; a mismatch, or a changed
configuration check value (the check register over the 241 bytes), makes the station UNFIT, sets its flag and notes
the first finding, while the stored value, a record already there and the other flags stand; the third
clean interval end in LISTEN makes it FIT, which releases its bound ports, and UNFIT disables every port
and its drivers, with a RELEASE for each lane that a port drove, for the reason UNFIT, or RESTART in a line restart,
and the CLAIM of a claiming port withdrawn. Where the publication falls in the same command, a port that is RELEASED may
claim in it. The service under check passes to the next configured slot. At the same
event every peer view entry grows older by one and is dropped at age 3, and,
as long as fitness stands, the back-off of a port counts down and ends in RELEASED (sections 7.1, 7.2, 7.5,
7.6, 8.1, 8.3, 8.4). That the last check result stands where no service is under check is the model's choice (log 38);
the order of the takers is an operand (log 4). -/
def Obligations.IntervalEndChecksFitnessAndAges : Prop :=
  ∀ (order : EndOrder) (sensor : Int) (boot : BootInputs) (s : State), s.intervalOpen → sensor < 125 →
    let f := s.fitness
    let mergeBad := f.underCheck ≠ none ∧ f.mismatches ≠ 0
    let found := checkOver (bitsOfBytes s.config.sequence)
    let configBad := ∃ v, f.checkValue = some v ∧ found ≠ v
    ∃ t, exec (.intervalEnd order sensor boot) s = .next t ∧
      (f.state = .unconfigured →
        t.fitness = { f with faults := { f.faults with thermalShed := t.fitness.faults.thermalShed } }) ∧
      (f.state ≠ .unconfigured →
        t.fitness.checked = 0 ∧ t.fitness.mismatches = 0 ∧
        (∀ k, f.underCheck = some k → t.fitness.lastResult = some ⟨k, f.checked, f.mismatches⟩) ∧
        (t.fitness.faults.mergeCheck = true ↔ f.faults.mergeCheck = true ∨ mergeBad) ∧
        (t.fitness.faults.configCheck = true ↔ f.faults.configCheck = true ∨ configBad) ∧
        (∀ k, f.underCheck = some k → f.mismatches ≠ 0 → f.mergeFault = none →
          t.fitness.mergeFault = some (k, f.mismatches)) ∧
        ((f.mergeFault ≠ none ∨ ¬ mergeBad) → t.fitness.mergeFault = f.mergeFault) ∧
        (configBad → f.configFault = none → t.fitness.configFault = some found) ∧
        ((f.configFault ≠ none ∨ ¬ configBad) → t.fitness.configFault = f.configFault) ∧
        (f.underCheck = none → t.fitness.lastResult = f.lastResult) ∧
        t.fitness.checkValue = f.checkValue ∧ t.fitness.faults.lineStuck = f.faults.lineStuck ∧
        t.fitness.faults.loadCorrected = f.faults.loadCorrected ∧
        t.fitness.faults.loadFailed = f.faults.loadFailed ∧
        ((mergeBad ∨ configBad) →
          t.fitness.state = .unfit ∧
          (f.state = .fit → ∀ x, (t.elect x).lane = .disabled ∧
            ((s.elect x).lane = .driving ∨ (s.elect x).lane = .holding →
              (t.port x).driversOn = false ∧
              (∀ c, s.portConfig x = some c →
                let release : Frame :=
                  ⟨1, s.loader.stationNumber,
                    numBytes 1 c.lane.val ++ [if (s.elect x).mark = some .restart then 3 else 2]⟩
                let waits := (t.line.slots.lane.get x).map PlacedFrame.frame = some release
                let starts := t.line.slots.lane.get x = none ∧
                  ∃ g, t.line.flight = some ⟨.lane x, g, false, false⟩ ∧ g.frame = release
                (s.line.state ≠ .idle ∨ s.line.flight ≠ none → waits) ∧
                (s.line.state = .idle → s.line.flight = none → waits ∨ starts) ∧
                (s.line.state = .idle → s.line.flight = none → (∀ k, s.line.slots.get k = none) →
                  (∀ y, y < x → (s.elect y).lane ≠ .driving ∧ (s.elect y).lane ≠ .holding) →
                  (order.publishBeforeFitness = false ∨ order.startsBetween = false) → starts)) ∧
              ((s.elect x).mark = some .restart → (t.elect x).releaseOut = true)) ∧
            ((s.elect x).lane = .claiming →
              t.line.slots.lane.get x = none ∧
              ∀ g, s.line.flight = some g → g.slot = .lane x →
                t.line.flight = some { g with withdrawn := true } ∧ (t.elect x).slotMark = true))) ∧
        (f.underCheck = none → t.fitness.underCheck = none) ∧
        (∀ k, f.underCheck = some k → ∀ j, t.fitness.underCheck = some j ↔
          (s.slotConfig j).isSome = true ∧ ∀ i, (s.slotConfig i).isSome = true →
            (j.val + 3 - k.val) % 4 ≤ (i.val + 3 - k.val) % 4) ∧
        (¬ mergeBad → ¬ configBad → f.state = .listen →
          (f.listenCount + 1 < 3 → t.fitness.state = .listen ∧ t.fitness.listenCount = f.listenCount + 1) ∧
          (3 ≤ f.listenCount + 1 → t.fitness.state = .fit ∧ t.fitness.listenCount = 3 ∧
            (s.election.restarting = false → ∀ x, (s.elect x).lane = .disabled →
              (s.portConfig x).isSome = true → (t.elect x).lane = .released ∨
                order.publishFirst = true ∧ (t.elect x).lane = .claiming))) ∧
        (¬ mergeBad → ¬ configBad → f.state ≠ .listen → t.fitness.state = f.state)) ∧
      s.keptByInterval { t with interval := { t.interval with published := s.interval.published } } ∧
      (publishesApart order → s.keptByInterval t) ∧
      (∀ i, t.election.peers.get i = (s.election.peers.get i).bind fun e =>
        if e.age + 1 < 3 then some { e with age := e.age + 1 } else none) ∧
      (t.fitness.state = s.fitness.state →
        ∀ x, ((s.elect x).lane = .backoff → 2 ≤ (s.elect x).backoff →
            (t.elect x).lane = .backoff ∧ (t.elect x).backoff + 1 = (s.elect x).backoff) ∧
          ((s.elect x).lane = .backoff → (s.elect x).backoff ≤ 1 →
            (t.elect x).lane = .released ∧ (publishesApart order → (t.elect x).challenge = 0) ∨
              ¬ publishesApart order ∧ (t.elect x).lane = .claiming) ∧
          ((s.elect x).lane ≠ .backoff → (t.elect x).lane = (s.elect x).lane ∨
            ¬ publishesApart order ∧ (s.elect x).lane = .released ∧ (t.elect x).lane = .claiming))

/-! ### Lane ports -/

/-- What conditioning hands to the FIFO: a packet that is not UNCORRECTABLE as it is; an UNCORRECTABLE one
with its error indicator set, replaced by a null, or not at all. A packet enters at the tail, is counted,
and a full FIFO drops its head; the peak deviation is kept over every change of fill (sections 5.2, 5.3). -/
def Obligations.ConditionedPacketEntersFifo : Prop :=
  ∀ (u : PortUnit) (d : Nat) (st : Status) (q : Packet),
    let room (u : PortUnit) (q : Packet) : PortUnit :=
      { u with
        fifo := u.fifo ++ [q]
        peak := max u.peak (fillDeviation d (u.fifo.length + 1))
        counters := { u.counters with entered := min (u.counters.entered + 1) 65535 } }
    let full (u : PortUnit) (q : Packet) : PortUnit :=
      { u with
        fifo := u.fifo.drop 1 ++ [q]
        counters :=
          { u.counters with
            entered := min (u.counters.entered + 1) 65535
            overflow := min (u.counters.overflow + 1) 65535 } }
    let enters (u : PortUnit) (q : Packet) : PortUnit := if u.fifo.length < d then room u q else full u q
    (∀ mode, st ≠ .uncorrectable → u.condition d mode st q = enters u q) ∧
    u.condition d .mark .uncorrectable q =
      enters { u with counters := { u.counters with marked := min (u.counters.marked + 1) 65535 } }
        { q with header := { q.header with errorIndicator := true } } ∧
    u.condition d .null .uncorrectable q =
      enters { u with counters := { u.counters with nulled := min (u.counters.nulled + 1) 65535 } }
        ⟨⟨0x47#8, false, Config.nullOtherBits, 8191#13, 0#4⟩, List.replicate 184 255#8⟩ ∧
    u.condition d .omitting .uncorrectable q =
      { u with counters := { u.counters with omitted := min (u.counters.omitted + 1) 65535 } }

/-- A due event of a port that drives sends the head of its FIFO, or a null; one of a port in shadow
discards the head; a claiming port whose settle timer has expired over a QUIET lane is admitted and sends
at once; a finish order that waits for the packet on the lane is carried out first. The packet goes to the
monitor output that has this port as its source, and the output rate schedules the next event. A port
that is unbound or has no due events has none (sections 5.5, 5.6, 7.4, 11.3; the end of the packet before:
log 15; a port in DRIVING or HOLDING whose drivers are off: log 14). -/
def Obligations.DueEventSendsDiscardsOrAdmits : Prop :=
  ∀ (x : Port) (c : PortConfig) (r : Nat) (s : State), s.portConfig x = some c → (s.port x).due = some r →
    let u := s.port x
    let e := s.elect x
    let drives := e.lane = .driving ∨ e.lane = .holding
    let admissible := e.lane = .claiming ∧ e.settle = .expired ∧ e.activity = .quiet
    let offering (t : State) (q : Packet) : State :=
      { t with monitor := if s.monitor.source = .port x then s.monitor.offer q else s.monitor }
    let sends (u : PortUnit) : PortUnit :=
      match u.fifo with
      | q :: rest =>
        { u with
          fifo := rest
          peak := max u.peak (fillDeviation c.depth rest.length)
          onLane := some ⟨q, false⟩
          counters := { u.counters with sent := min (u.counters.sent + 1) 65535 }
          due := u.rOut }
      | [] =>
        { u with
          onLane := some ⟨nullPacket, false⟩
          counters := { u.counters with stuffed := min (u.counters.stuffed + 1) 65535 }
          due := u.rOut }
    let discards (u : PortUnit) : PortUnit :=
      match u.fifo with
      | _ :: rest =>
        { u with
          fifo := rest
          peak := max u.peak (fillDeviation c.depth rest.length)
          onLane := none
          counters := { u.counters with shadowDiscards := min (u.counters.shadowDiscards + 1) 65535 }
          due := u.rOut }
      | [] => { u with onLane := none, due := u.rOut }
    let shown := u.fifo.head?.getD nullPacket
    (drives → u.driversOn = true → (u.onLane = none ∨ u.finishOrder = false) →
      exec (.dueEvent x) s = .next (offering (s.updPort x sends) shown)) ∧
    (admissible → (u.onLane = none ∨ u.finishOrder = false) →
      exec (.dueEvent x) s = .next (offering
        ((s.updElect x fun e => e.entered .driving).updPort x fun u =>
          sends { u with driversOn := true, mismatch := 0 }) shown)) ∧
    (¬ admissible → (¬ drives ∨ u.driversOn = false) → (u.onLane = none ∨ u.finishOrder = false) →
      exec (.dueEvent x) s = .next
        (if u.fifo = [] then s.updPort x discards else offering (s.updPort x discards) shown)) ∧
    (drives → u.driversOn = true → u.onLane ≠ none → u.finishOrder = true →
      let ended := s.updPort x fun u =>
        discards { u with driversOn := false, finishOrder := false, notices := u.notices ++ [.finished] }
      exec (.dueEvent x) s = .next (if u.fifo = [] then ended else offering ended shown))

/-- A service-state signal at a port is recorded; a change to DARK at a settled port sets the output rate
to the clamped estimate at once. A packet start on the lane makes the port ACTIVE and restarts its timer,
whose expiry makes it QUIET; only a change is signalled. In SHUTDOWN, with lane sensing stopped and on an
unbound or unscheduled port none of these, nor a due event, has an effect (sections 5.4, 5.5, 5.7, 5.10). That a LIVE
signal leaves the output rate, also behind a rate update, is the model's reading (log 44). -/
def Obligations.PortTakesSignalsAndSensesLane : Prop :=
  ∀ (x : Port) (s : State),
    let u := s.port x
    (∀ v rest, s.portSignals.get x = v :: rest →
      let taken : State := { s with portSignals := s.portSignals.set x rest }
      (s.thermal.shutdown = true → exec (.portServiceStateSignal x) s = .next taken) ∧
      (s.thermal.shutdown = false → v = u.recorded → exec (.portServiceStateSignal x) s = .next taken) ∧
      (s.thermal.shutdown = false → v ≠ u.recorded → (v = .live ∨ u.rEst = none) →
        exec (.portServiceStateSignal x) s = .next (taken.updPort x fun u => { u with recorded := v })) ∧
      (∀ r, s.thermal.shutdown = false → v ≠ u.recorded → v = .dark → u.rEst = some r →
        exec (.portServiceStateSignal x) s = .next (taken.updPort x fun u =>
          { u with recorded := .dark, rOut := some (max 1000 (min r 40000)) }))) ∧
    (u.sensing = true →
      exec (.packetSeen x) s = .next (s.updPort x fun u =>
        { u with
          activity := .active
          activityTimer := some 5
          activitySignals := u.activitySignals ++ (if u.activity = .quiet then [.active] else []) }) ∧
      (u.activityTimer ≠ none →
        exec (.activityTimerExpiry x) s = .next (s.updPort x fun u =>
          { u with
            activity := .quiet
            activityTimer := none
            activitySignals := u.activitySignals ++ (if u.activity = .active then [.quiet] else []) }))) ∧
    (u.sensing = false → exec (.packetSeen x) s = .next s ∧ exec (.activityTimerExpiry x) s = .next s) ∧
    (u.activityTimer = none → exec (.activityTimerExpiry x) s = .next s) ∧
    ((s.portConfig x = none ∨ u.due = none) → exec (.dueEvent x) s = .next s)

/-- The comparison of one packet's first four bytes and packet starts, made once, by a port whose drivers
are on: agreement sets the mismatch count to 0, a first mismatch counts, and a second in a row is a
contention event: drivers off, count 0, one event counted, a notice, and under a finish order the finished
notice behind it. The end of the packet carries a finish order out (sections 5.6, 5.8). -/
def Obligations.ReadbackJudgesPacketOnce : Prop :=
  ∀ (x : Port) (read : Header) (starts : Quad Bool) (l : OnLane) (s : State), (s.port x).onLane = some l →
    let u := s.port x
    let agrees := read = l.packet.header ∧ starts = ⟨true, false, false, false⟩
    (u.driversOn = true → l.judged = false →
      (agrees → exec (.readbackComparison x read starts) s = .next (s.updPort x fun u =>
        { u with onLane := some { l with judged := true }, mismatch := 0 })) ∧
      (¬ agrees → u.mismatch = 0 →
        exec (.readbackComparison x read starts) s = .next (s.updPort x fun u =>
          { u with onLane := some { l with judged := true }, mismatch := 1 })) ∧
      (¬ agrees → u.mismatch ≠ 0 →
        exec (.readbackComparison x read starts) s = .next (s.updPort x fun u =>
          { u.silenced with
            mismatch := 0
            counters := { u.counters with contentionEvents := min (u.counters.contentionEvents + 1) 65535 }
            notices := u.notices ++ .contention :: (if u.finishOrder then [.finished] else []) }))) ∧
    ((u.driversOn = false ∨ l.judged = true) → exec (.readbackComparison x read starts) s = .next s) ∧
    (u.finishOrder = false → exec (.packetEnd x) s = .next (s.updPort x fun u => { u with onLane := none })) ∧
    (u.finishOrder = true → exec (.packetEnd x) s = .next (s.updPort x fun u =>
      { u.silenced with notices := u.notices ++ [.finished] }))

/-! ### Election unit -/

/-- The end of driving. A finished notice under a HANDOVER or DARK mark releases the port and its lane;
under RESTART, and so a contention notice, it disables the port, and the RELEASE is remembered until it
is sent. A contention notice of a driving port otherwise sends it to BACKOFF for 2 × (station number + 1)
interval ends with a CONTENTION. Without a mark, outside DRIVING and HOLDING, and in SHUTDOWN, a notice
has no effect. A port's drivers are off once the notice has been taken (sections 5.6, 5.8, 7.5, 7.6; that this
silences the port: log 32). -/
def Obligations.NoticesEndDriving : Prop :=
  ∀ (x : Port) (c : PortConfig) (m : PortNotice) (rest : List PortNotice) (s : State),
    s.portConfig x = some c → (s.port x).notices = m :: rest →
    let taken := s.updPort x fun u => { u with notices := rest }
    let leaves (l : LaneState) (kind : Fin 16) (body : List Byte) : State :=
      ((taken.updElect x fun e => e.entered l).updPort x PortUnit.silenced).placeFrame (.lane x)
        ⟨kind, s.loader.stationNumber, byte c.lane.val :: body⟩
    let drives := (s.elect x).lane = .driving ∨ (s.elect x).lane = .holding
    let restarts := trySend ((leaves .disabled 1 [3]).updElect x fun e => { e with releaseOut := true })
    (m = .finished → s.thermal.shutdown = false →
      ((s.elect x).mark = some .handover →
        exec (.finishedNotice x) s = .next (trySend (leaves .released 1 [0]))) ∧
      ((s.elect x).mark = some .dark →
        exec (.finishedNotice x) s = .next (trySend (leaves .released 1 [1]))) ∧
      ((s.elect x).mark = some .restart → exec (.finishedNotice x) s = .next restarts) ∧
      ((s.elect x).mark = none → exec (.finishedNotice x) s = .next taken)) ∧
    (m = .contention → s.thermal.shutdown = false →
      (drives → (s.elect x).mark = some .restart → exec (.contentionNotice x) s = .next restarts) ∧
      (drives → (s.elect x).mark ≠ some .restart →
        exec (.contentionNotice x) s = .next (trySend ((leaves .backoff 0 []).updElect x fun e =>
          { e with backoff := 2 * (s.loader.stationNumber.val + 1) }))) ∧
      (¬ drives → exec (.contentionNotice x) s = .next taken)) ∧
    (s.thermal.shutdown = true →
      (m = .finished → exec (.finishedNotice x) s = .next taken) ∧
      (m = .contention → exec (.contentionNotice x) s = .next taken))

/-- A service-state signal at the election unit, without a finish mark: a driving port of a DARK service
holds, for its dark hold time; a holding one whose service is LIVE again drives; a claiming one of a DARK
service withdraws. Whether or not a signal waits, the expiry of the hold time of a HOLDING port marks it DARK and orders
the finish; of a stopped timer there is none (sections 7.4, 7.5; that a hold time of 0 starts the timer too: log 28; that
the command changes nothing where no signal waits: log 1). -/
def Obligations.ServiceStateHoldsResumesWithdraws : Prop :=
  ∀ (x : Port) (s : State),
    let e := s.elect x
    (∀ v rest, s.electionSignals.get x = v :: rest →
      let taken : State := { s with electionSignals := s.electionSignals.set x rest }
      let noted := taken.updElect x fun e => { e with service := v }
      (s.thermal.shutdown = true → exec (.electionServiceStateSignal x) s = .next taken) ∧
      (s.thermal.shutdown = false →
        (∀ c, s.portConfig x = some c → e.mark = none → e.lane = .driving → v = .dark →
          exec (.electionServiceStateSignal x) s = .next (noted.updElect x fun e =>
            { e.entered .holding with holdTimer := some c.hold })) ∧
        (e.mark = none → e.lane = .holding → v = .live →
          exec (.electionServiceStateSignal x) s = .next (noted.updElect x fun e => e.entered .driving)) ∧
        (e.mark = none → e.lane = .claiming → v = .dark →
          exec (.electionServiceStateSignal x) s = .next
            ((withdrawFrame noted x).updElect x fun e => e.entered .released)) ∧
        ((e.mark ≠ none ∨ (e.lane ≠ .driving ∧ e.lane ≠ .holding ∧ e.lane ≠ .claiming) ∨
            (e.lane = .holding ∧ v = .dark) ∨ (e.lane ≠ .holding ∧ v = .live)) →
          exec (.electionServiceStateSignal x) s = .next noted))) ∧
    (s.electionSignals.get x = [] → exec (.electionServiceStateSignal x) s = .next s) ∧
    (∀ n, e.lane = .holding → e.holdTimer = some n → e.mark = none →
      exec (.holdTimerExpiry x) s = .next
        ((s.updElect x fun e => { e with mark := some .dark, holdTimer := none }).updPort x fun u =>
          if u.onLane = none then { u with driversOn := false, notices := u.notices ++ [.finished] }
          else { u with finishOrder := true })) ∧
    ((e.lane ≠ .holding ∨ e.holdTimer = none ∨ e.mark ≠ none) → exec (.holdTimerExpiry x) s = .next s)

/-- Lane activity and the two timers of a claim. The lane's falling QUIET, or the settle timer's expiry
over a QUIET lane, admits a port without due events; a port that stays out is refused when the yield wait
ends, or when the lane turns ACTIVE after it, and goes back to RELEASED with one refused claim counted
(section 7.4). -/
def Obligations.SettledClaimIsAdmittedOrRefused : Prop :=
  ∀ (x : Port) (s : State),
    let e := s.elect x
    let admitted (t : State) : State :=
      (t.updElect x fun e => e.entered .driving).updPort x fun u => { u with driversOn := true, mismatch := 0 }
    let refused (t : State) : State := t.updElect x fun e =>
      { e.entered .released with refused := min (e.refused + 1) 4294967295 }
    (∀ a rest, (s.port x).activitySignals = a :: rest →
      let taken := s.updPort x fun u => { u with activitySignals := rest }
      let noted := taken.updElect x fun e => { e with activity := a }
      (s.thermal.shutdown = true → exec (.laneActivitySignal x) s = .next taken) ∧
      (s.thermal.shutdown = false → a = .quiet →
        (e.lane = .claiming → e.settle = .expired → (s.port x).due = none →
          exec (.laneActivitySignal x) s = .next (admitted noted)) ∧
        ((e.lane ≠ .claiming ∨ e.settle ≠ .expired ∨ (s.port x).due ≠ none) →
          exec (.laneActivitySignal x) s = .next noted)) ∧
      (s.thermal.shutdown = false → a = .active →
        (e.lane = .claiming → e.yieldWait = .expired →
          exec (.laneActivitySignal x) s = .next (refused noted)) ∧
        ((e.lane ≠ .claiming ∨ e.yieldWait ≠ .expired) →
          exec (.laneActivitySignal x) s = .next noted))) ∧
    (∀ n, e.lane = .claiming → e.settle = .running n →
      let expired := s.updElect x fun e => { e with settle := .expired }
      (e.activity = .quiet → (s.port x).due = none →
        exec (.settleTimerExpiry x) s = .next (admitted expired)) ∧
      ((e.activity = .active ∨ (s.port x).due ≠ none) → exec (.settleTimerExpiry x) s = .next expired)) ∧
    (∀ n, e.lane = .claiming → e.yieldWait = .running n →
      (e.settle = .expired → e.activity = .quiet →
        exec (.yieldWaitExpiry x) s = .next (s.updElect x fun e => { e with yieldWait := .expired })) ∧
      ((e.settle ≠ .expired ∨ e.activity = .active) →
        exec (.yieldWaitExpiry x) s = .next (refused s))) ∧
    ((e.lane ≠ .claiming ∨ ∀ n, e.settle ≠ .running n) → exec (.settleTimerExpiry x) s = .next s) ∧
    ((e.lane ≠ .claiming ∨ ∀ n, e.yieldWait ≠ .running n) → exec (.yieldWaitExpiry x) s = .next s)

/-- Frames that name the peer view. An ANNOUNCE replaces its sender's entry, with age 0, and brings every
conflict indicator up to date; a RELEASE turns its sender's record of the lane to RELEASED. A frame of
kinds 0 to 3 with the station's own number is counted as a number clash and goes no further. What is read of a body: of
an ANNOUNCE its fitness and faults byte, its reset cause and every service record, in order; of the others their lane; of a
CLAIM its identifier and its figure (sections 6.3, 6.4, 7.1; that a frame pending on an IDLE line starts once the heard frame has been taken: log 13). -/
def Obligations.PeerFramesUpdatePeerView : Prop :=
  (∀ f : Frame, f.lengthListed → ¬ f.fieldWrong →
    let b := f.bodyByte
    (f.kind.val ≤ 2 → f.lane.val = b 0) ∧
    (f.kind = 2 → f.claimMux.toNat = 256 * b 1 + b 2 ∧ f.claimSF = 256 * b 3 + b 4) ∧
    (f.kind = 3 →
      f.announced.fitnessFaults.toNat = b 0 ∧ f.announced.cause.number = b 1 ∧
      3 + 6 * f.announced.records.length = f.body.length ∧
      ∀ i r, f.announced.records[i]? = some r →
        r.muxId.toNat = 256 * b (3 + 6 * i) + b (4 + 6 * i) ∧ r.sf = 256 * b (5 + 6 * i) + b (6 + 6 * i) ∧
        (r.lane.map Fin.val).getD 255 = b (7 + 6 * i) ∧ r.state.number = b (8 + 6 * i))) ∧
  ∀ (f : Frame) (rest : List Frame) (s : State),
    s.loader.phase = .running → s.thermal.shutdown = false → s.line.heard = f :: rest →
    let taken : State := { s with line := { s.line with heard := rest } }
    (f.station = s.loader.stationNumber →
      let clash := trySend { taken with line := { taken.line with
        counters := { s.line.counters with numberClashes := min (s.line.counters.numberClashes + 1) 4294967295 } } }
      (f.kind = 0 → exec .contentionFrame s = .next clash) ∧
      (f.kind = 1 → exec .releaseFrame s = .next clash) ∧
      (f.kind = 2 → exec .claimFrame s = .next clash) ∧
      (f.kind = 3 → exec .announceFrame s = .next clash)) ∧
    (f.station ≠ s.loader.stationNumber → f.kind = 1 →
      exec .releaseFrame s = .next (trySend { taken with election := { s.election with
        peers := s.election.peers.set f.station ((s.election.peers.get f.station).map fun e =>
          { e with records := e.records.map fun r =>
              if r.lane = some f.lane then { r with state := .released } else r }) } })) ∧
    (f.station ≠ s.loader.stationNumber → f.kind = 3 →
      ∃ t, exec .announceFrame s = .next t ∧
        t.election.peers = s.election.peers.set f.station (some f.announced) ∧ f.announced.age = 0 ∧
        (∀ x, t.elect x = { s.elect x with conflict := (t.elect x).conflict }) ∧
        (∀ x c d, s.portConfig x = some c → s.slotConfig c.slot = some d →
          ((t.elect x).conflict = true ↔ ∃ i e r, t.election.peers.get i = some e ∧ r ∈ e.records ∧
            r.lane = some c.lane ∧ r.muxId ≠ d.muxId)) ∧
        (∀ x, s.portConfig x = none → (t.elect x).conflict = (s.elect x).conflict) ∧
        t.line = (trySend taken).line ∧ t = { s with election := t.election, line := t.line })

/-- What a port does with a peer's CLAIM for its lane and identifier, outside a line restart: RELEASED and
beaten, its challenge counter is 0; CLAIMING and beaten, it withdraws; DRIVING and beaten by 48, it marks
HANDOVER; HOLDING, it marks DARK; and with a peer's CONTENTION on its lane: driving or holding, it backs
off; claiming, it withdraws, its CLAIM with it. With one for a lane of no port of this station, no port does anything. The
sender's record of the lane becomes CLAIMING with the figure and
identifier of the CLAIM, or BACKOFF (sections 7.1, 7.4, 7.5; the start of a pending frame behind it: log 13). -/
def Obligations.PortsAnswerClaimAndContention : Prop :=
  (∀ (f : Frame) (rest : List Frame) (s : State),
    s.loader.phase = .running → s.thermal.shutdown = false → s.line.heard = f :: rest →
    f.station ≠ s.loader.stationNumber → (∀ y q, s.portConfig y = some q → q.lane ≠ f.lane) →
    let taken : State := { s with line := { s.line with heard := rest } }
    let viewed (change : ServiceRecord → ServiceRecord) : Oct (Option PeerEntry) :=
      s.election.peers.set f.station ((s.election.peers.get f.station).map fun v =>
        { v with records := v.records.map fun r => if r.lane = some f.lane then change r else r })
    let recorded := ∃ v r, s.election.peers.get f.station = some v ∧ r ∈ v.records ∧ r.lane = some f.lane
    (f.kind = 2 → ∃ t, exec .claimFrame s = .next t ∧
      (∀ y, t.elect y = { s.elect y with conflict := (t.elect y).conflict }) ∧
      t = { s with election := t.election, line := (trySend taken).line } ∧
      t.election =
        { s.election with
          ports := t.election.ports
          peers := viewed fun r => { r with state := .claiming, sf := f.claimSF, muxId := f.claimMux } } ∧
      (recorded → ∀ y q v, s.portConfig y = some q → s.slotConfig q.slot = some v →
        ((t.elect y).conflict = true ↔ ∃ i u r, t.election.peers.get i = some u ∧ r ∈ u.records ∧
          r.lane = some q.lane ∧ r.muxId ≠ v.muxId)) ∧
      (¬ recorded → ∀ y, (t.elect y).conflict = (s.elect y).conflict)) ∧
    (f.kind = 0 → exec .contentionFrame s = .next (trySend
      { taken with
        election := { s.election with peers := viewed fun r => { r with state := .backoff } } }))) ∧
  ∀ (x : Port) (c : PortConfig) (d : ServiceConfig) (f : Frame) (rest : List Frame) (s : State),
    s.loader.phase = .running → s.thermal.shutdown = false → s.line.heard = f :: rest →
    f.station ≠ s.loader.stationNumber → s.portConfig x = some c → s.slotConfig c.slot = some d →
    f.lane = c.lane → (∀ y q, y ≠ x → s.portConfig y = some q → q.lane ≠ c.lane) →
    let taken : State := { s with line := { s.line with heard := rest } }
    let own := ((s.interval.published.figures.get c.slot).map FigurePart.sf).getD 0
    let beaten := own < f.claimSF ∨ (f.claimSF = own ∧ f.station.val < s.loader.stationNumber.val)
    let e := s.elect x
    let viewed (change : ServiceRecord → ServiceRecord) : Oct (Option PeerEntry) :=
      s.election.peers.set f.station ((s.election.peers.get f.station).map fun v =>
        { v with records := v.records.map fun r => if r.lane = some c.lane then change r else r })
    let recorded := ∃ v r, s.election.peers.get f.station = some v ∧ r ∈ v.records ∧ r.lane = some c.lane
    let same (t : State) : Prop := t.elect x = { e with conflict := (t.elect x).conflict }
    let becomes (t : State) (e' : PortElection) : Prop :=
      t.elect x = { e' with conflict := (t.elect x).conflict, slotMark := (t.elect x).slotMark }
    let marks (t : State) (m : FinishMark) : Prop :=
      becomes t { e with mark := some m, holdTimer := none } ∧
      t.port x =
        if (s.port x).onLane = none then
          { s.port x with driversOn := false, notices := (s.port x).notices ++ [.finished] }
        else { s.port x with finishOrder := true }
    let stands (t : State) : Prop :=
      t.line = (trySend taken).line ∧ (t.elect x).slotMark = e.slotMark
    let withdraws (t : State) : Prop :=
      becomes t (e.entered .released) ∧ t.port x = s.port x ∧
      t.line = (trySend (withdrawFrame taken x)).line ∧
      (t.elect x).slotMark = ((withdrawFrame taken x).elect x).slotMark
    (f.kind = 2 → ∃ t, exec .claimFrame s = .next t ∧ (∀ y, y ≠ x → t.port y = s.port y ∧
        t.elect y = { s.elect y with conflict := (t.elect y).conflict }) ∧
      t = { s with election := t.election, ports := t.ports, line := t.line } ∧
      t.election =
        { s.election with
          ports := t.election.ports
          peers := viewed fun r => { r with state := .claiming, sf := f.claimSF, muxId := f.claimMux } } ∧
      (recorded → ∀ y q v, s.portConfig y = some q → s.slotConfig q.slot = some v →
        ((t.elect y).conflict = true ↔ ∃ i u r, t.election.peers.get i = some u ∧ r ∈ u.records ∧
          r.lane = some q.lane ∧ r.muxId ≠ v.muxId)) ∧
      (¬ recorded → ∀ y, (t.elect y).conflict = (s.elect y).conflict) ∧
      ((s.election.restarting = true ∨ f.claimMux ≠ d.muxId) → same t ∧ stands t ∧ t.port x = s.port x) ∧
      (s.election.restarting = false → f.claimMux = d.muxId →
        (e.lane = .released → t.port x = s.port x ∧ stands t ∧
          ((beaten → becomes t { e with challenge := 0 }) ∧ (¬ beaten → same t))) ∧
        (e.lane = .claiming →
          ((beaten → withdraws t) ∧ (¬ beaten → same t ∧ stands t ∧ t.port x = s.port x))) ∧
        (e.lane = .driving → stands t ∧
          ((e.mark = none → own + 48 ≤ f.claimSF → marks t .handover) ∧
            ((e.mark ≠ none ∨ f.claimSF < own + 48) → same t ∧ t.port x = s.port x))) ∧
        (e.lane = .holding → stands t ∧
          ((e.mark = none → marks t .dark) ∧ (e.mark ≠ none → same t ∧ t.port x = s.port x))) ∧
        ((e.lane = .disabled ∨ e.lane = .backoff) → same t ∧ stands t ∧ t.port x = s.port x))) ∧
    (f.kind = 0 → ∃ t, exec .contentionFrame s = .next t ∧
      (∀ y, y ≠ x → t.port y = s.port y ∧ t.elect y = s.elect y) ∧
      t = { s with election := t.election, ports := t.ports, line := t.line } ∧
      t.election =
        { s.election with ports := t.election.ports, peers := viewed fun r => { r with state := .backoff } } ∧
      (s.election.restarting = true → t.elect x = e ∧ stands t ∧ t.port x = s.port x) ∧
      (s.election.restarting = false →
        ((e.lane = .driving ∨ e.lane = .holding) →
          t.elect x = { e.entered .backoff with backoff := 2 * (s.loader.stationNumber.val + 1) } ∧
          stands t ∧ t.port x = (s.port x).silenced) ∧
        (e.lane = .claiming → withdraws t ∧ (t.elect x).conflict = e.conflict) ∧
        (¬ (e.lane = .driving ∨ e.lane = .holding ∨ e.lane = .claiming) →
          t.elect x = e ∧ stands t ∧ t.port x = s.port x)))

/-! ### Coordination Line -/

/-- When a pending frame starts: the station sends, the line is IDLE and nothing is in flight. It is the
frame marked for retry, else the one of the lowest kind, the earlier slot among equals. A withdrawal discards the
lane slot's pending frame, and its retry mark with it; a frame of the slot in flight is marked withdrawn, and the slot
mark is set. A frame that is placed becomes its slot's pending frame, in place of the one that waited there, whose retry
mark goes with it; a frame in flight goes on, whatever slot it came from (sections 6.5, 6.6, 7.3; that placed frames are
numbered: log 31). -/
def Obligations.PendingFrameStartsOnIdleLine : Prop :=
  (∀ (s : State),
    let may := s.loader.phase = .running ∧ s.thermal.shutdown = false ∧ s.line.state = .idle ∧
      s.line.flight = none
    let order : List TxSlot := [.lane 0, .lane 1, .lane 2, .lane 3, .announce, .report]
    ((¬ may ∨ ∀ k, s.line.slots.get k = none) → trySend s = s) ∧
    (may → (∃ k, s.line.slots.get k ≠ none) →
      ∃ k f, s.line.slots.get k = some f ∧
        trySend s =
          { s with
            line :=
              { s.line with
                state := .busy
                reception := .collecting [false]
                slots := s.line.slots.set k none
                retry := if s.line.retry = some k then none else s.line.retry
                flight := some ⟨k, f, false, false⟩ } } ∧
        (s.line.retry = some k ∨
          ((∀ j, s.line.retry = some j → s.line.slots.get j = none) ∧
            ∀ j g, s.line.slots.get j = some g → f.frame.kind < g.frame.kind ∨
              (f.frame.kind = g.frame.kind ∧ order.idxOf k ≤ order.idxOf j))))) ∧
  (∀ (k : TxSlot) (f : Frame) (s : State), let t := s.placeFrame k f
    t.line.slots.get k = some ⟨f, s.line.serial⟩ ∧ t.line.serial = s.line.serial + 1 ∧
    (∀ j, j ≠ k → t.line.slots.get j = s.line.slots.get j) ∧
    (s.line.retry = some k → t.line.retry = none) ∧ (s.line.retry ≠ some k → t.line.retry = s.line.retry) ∧
    t.line.flight = s.line.flight ∧
    t = { s with
      line := { s.line with slots := t.line.slots, retry := t.line.retry, serial := t.line.serial } }) ∧
  ∀ (x : Port) (s : State), let t := withdrawFrame s x
    t.line.slots.get (.lane x) = none ∧
    (∀ k, k ≠ .lane x → t.line.slots.get k = s.line.slots.get k) ∧
    t.line.retry = (if s.line.retry = some (.lane x) then none else s.line.retry) ∧
    (∀ g, s.line.flight = some g → g.slot = .lane x →
      t.line.flight = some { g with withdrawn := true } ∧ t.elect x = { s.elect x with slotMark := true }) ∧
    ((∀ g, s.line.flight = some g → g.slot ≠ .lane x) →
      t.line.flight = s.line.flight ∧ t.elect x = s.elect x) ∧
    (∀ y, y ≠ x → t.elect y = s.elect y) ∧
    t =
      { s with
        line := { s.line with slots := t.line.slots, retry := t.line.retry, flight := t.line.flight }
        election := { s.election with ports := t.election.ports } }

/-- A frame's cells, taken back through the tests of reception, give the frame: whatever its kind,
station number and body, within the lengths and ranges of its kind. What a reception of any cells fails first: the header,
the length field, too few cells, too many, the check, the length for the kind, a field; and what it is if it fails
none (sections 6.2, 6.3, 6.4). -/
def Obligations.ReceptionReadsBackSentFrame : Prop :=
  (∀ f : Frame, f.lengthListed → ¬ f.fieldWrong →
    f.cells.length = 30 + 8 * f.body.length ∧ f.cells.head? = some false ∧ testFrame f.cells = .good f) ∧
  ∀ cells : List Bool,
    let len := cellsNumber cells 8 6
    let checkRight := checkOver ((cells.drop 1).take (13 + 8 * len)) = BitVec.ofNat 16 (cellsNumber cells (14 + 8 * len) 16)
    (cells.length < 14 → testFrame cells = .truncated) ∧
    (14 ≤ cells.length → 32 < len → testFrame cells = .badLength) ∧
    (14 ≤ cells.length → len ≤ 32 → cells.length < 30 + 8 * len → testFrame cells = .truncated) ∧
    (len ≤ 32 → 30 + 8 * len < cells.length → testFrame cells = .badLength) ∧
    (len ≤ 32 → cells.length = 30 + 8 * len →
      (¬ checkRight → testFrame cells = .badCheck) ∧
      (checkRight → ∀ f : Frame, f.kind.val = cellsNumber cells 1 4 → f.station.val = cellsNumber cells 5 3 →
        f.body = ((List.range len).map fun i => BitVec.ofNat 8 (cellsNumber cells (14 + 8 * i) 8)) →
        (¬ f.lengthListed → testFrame cells = .badLength) ∧
        (f.lengthListed → f.fieldWrong → testFrame cells = .badField) ∧
        (f.lengthListed → ¬ f.fieldWrong → testFrame cells = .good f)))

/-- No single cell after the start cell can be read wrong without the frame being discarded (section 6.2). -/
def Obligations.SingleWrongCellIsNeverGood : Prop :=
  ∀ (f g : Frame) (i : Nat), f.body.length ≤ 32 → 1 ≤ i → i < f.cells.length →
    testFrame (f.cells.set i (!(f.cells.getD i false))) ≠ .good g

/-- The line becomes IDLE. A good frame of another sender is handed on, in LOADING it is discarded; any
other reception raises the counter of its first failed test; an own frame's end is noted and goes to no
block, also where foreign pulses behind its last cell make the reception too long; one whose end has come waits on to
leave; from STUCK, the departure is signalled, and a frame still being sent is lost at the latest then (log 45). A pending frame then starts at once; only where a good frame that
goes to a block waits, either comes first, by a free draw (sections 6.1, 6.4, 6.5, 6.6, 7.6, 8.2; own cells that read
as sent: log 12; the draw: log 13). -/
def Obligations.LineIdleEndsReception : Prop :=
  ∀ (s : State), s.loader.phase ≠ .held → s.thermal.shutdown = false →
    let idle : State := { s with line := { s.line with state := .idle, reception := .off } }
    let goesToBlock (f : Frame) : Prop :=
      (f.kind.val ≤ 3 ∧ f.station ≠ s.loader.stationNumber) ∨
        ((f.kind = 4 ∨ f.kind = 6 ∨ f.kind = 7) ∧ f.station = s.loader.stationNumber)
    let leads (ended : State) : Prop :=
      let waits := (∃ k, ended.line.slots.get k ≠ none) ∧ ended.line.flight = none ∧
        ∃ f ∈ ended.line.heard, goesToBlock f
      (¬ waits → exec .lineIdle s = .next (trySend ended)) ∧
      (waits → let drawn := { ended with freeDraws := ended.freeDraws + 1 }
        exec .lineIdle s = .next (trySend drawn) ∨ exec .lineIdle s = .next drawn)
    (s.line.state = .idle → exec .lineIdle s = .next s) ∧
    (s.line.state = .busy →
      (∀ cells, s.line.reception = .collecting cells → (∀ fl, s.line.flight = some fl → fl.ended = true) →
        (∀ f, testFrame cells = .good f → s.loader.phase = .running →
          leads { idle with line := { idle.line with heard := s.line.heard ++ [f] } }) ∧
        (∀ f, testFrame cells = .good f → s.loader.phase = .loading → leads idle) ∧
        (∀ counters,
          (testFrame cells, counters) ∈
            [(.truncated, { s.line.counters with truncated := inc32 s.line.counters.truncated }),
              (.badLength, { s.line.counters with badLength := inc32 s.line.counters.badLength }),
              (.badCheck, { s.line.counters with badCheck := inc32 s.line.counters.badCheck }),
              (FrameTest.badField, { s.line.counters with badField := inc32 s.line.counters.badField })] →
          leads { idle with line := { idle.line with counters := counters } })) ∧
      (∀ cells fl g, s.line.reception = .collecting cells → s.line.flight = some fl → fl.ended = false →
        cells <+: fl.placed.frame.cells → testFrame fl.placed.frame.cells = .good g →
        leads { idle with line := { idle.line with flight := some { fl with ended := true } } }) ∧
      (∀ fl pulses, s.line.flight = some fl → fl.ended = false → fl.placed.frame.body.length ≤ 32 → pulses ≠ [] →
        s.line.reception = .collecting (fl.placed.frame.cells ++ pulses) →
        leads
          { idle with
            line :=
              { idle.line with
                counters :=
                  { s.line.counters with badLength := min (s.line.counters.badLength + 1) 4294967295 }
                flight := some { fl with ended := true } } }) ∧
      ((s.line.reception = .off ∨ s.line.reception = .noise) → leads idle)) ∧
    (s.line.state = .stuck → s.line.reception = .off →
      let cleared (u : State) : State :=
        { u with
          election := { u.election with lineStuck := false }
          fitness := { s.fitness with faults := { s.fitness.faults with lineStuck := false } } }
      ((∀ fl, s.line.flight = some fl → fl.ended = true) → leads (cleared idle)) ∧
      ∀ fl, s.line.flight = some fl → fl.ended = false →
        let counted : State :=
          { idle with
            line :=
              { idle.line with
                counters :=
                  { s.line.counters with
                    arbitrationLosses := min (s.line.counters.arbitrationLosses + 1) 4294967295 } } }
        leads (cleared (counted.frameLost fl)))

/-- A line that has been dominant for more than 1 ms is STUCK: the reception is truncated, the episode is counted,
the fault flag is set, and every claiming port goes back to RELEASED, its CLAIM withdrawn. A frame still being sent goes
on while it has a 1 left behind the cells collected; one that has none is lost at once, counted as an arbitration loss,
and pending again with the retry mark unless it was withdrawn or a newer frame waits. Every other slot stands (sections
6.1, 6.4, 6.5, 6.6, 7.4, 7.6, 8.2; that its cells count as sent as far as they have been collected, and that a frame is
lost also where all of them have been: log 45). -/
def Obligations.StuckLineCutsReceptionAndClaims : Prop :=
  ∀ (s : State), s.loader.phase ≠ .held → s.thermal.shutdown = false →
    (s.line.state = .busy →
      let read : List Bool := match s.line.reception with | .collecting read => read | _ => []
      let losesNow (f : Flight) : Bool :=
        !f.ended && decide (true ∉ f.placed.frame.cells.drop read.length)
      let lost : State :=
        match s.line.flight with
        | some f => if losesNow f then s.frameLost f else s
        | none => s
      let withdrawn := [0, 1, 2, 3].foldl
        (fun u x => if (s.elect x).lane = .claiming then withdrawFrame u x else u) lost
      ∃ t, exec .lineStuck s = .next t ∧
      t.line =
        { withdrawn.line with
          state := .stuck
          reception := .off
          counters :=
            { s.line.counters with
              stuckEpisodes := min (s.line.counters.stuckEpisodes + 1) 4294967295
              truncated :=
                match s.line.reception with
                | .collecting _ => min (s.line.counters.truncated + 1) 4294967295
                | _ => s.line.counters.truncated
              arbitrationLosses :=
                if s.line.flight.any losesNow then min (s.line.counters.arbitrationLosses + 1) 4294967295
                else s.line.counters.arbitrationLosses } } ∧
      (∀ f, s.line.flight = some f →
        (losesNow f = true → t.line.flight = none ∧
          (f.withdrawn = false → s.line.slots.get f.slot = none →
            (∀ x, f.slot = .lane x → (s.elect x).lane ≠ .claiming) →
            t.line.slots.get f.slot = some f.placed ∧ t.line.retry = some f.slot)) ∧
        (losesNow f = false → t.line.flight.map Flight.placed = some f.placed)) ∧
      (∀ x, (s.elect x).lane = .claiming → t.line.slots.lane.get x = none) ∧
      (∀ k, (∀ x, k = .lane x → (s.elect x).lane ≠ .claiming) →
        (∀ f, s.line.flight = some f → losesNow f = true → f.slot ≠ k) →
        t.line.slots.get k = s.line.slots.get k) ∧
      t.election.lineStuck = true ∧
      t.fitness = { s.fitness with faults := { s.fitness.faults with lineStuck := true } } ∧
      (∀ x, t.elect x =
        { (if (s.elect x).lane = .claiming then (s.elect x).entered .released else s.elect x) with
          slotMark := (withdrawn.elect x).slotMark }) ∧
      t.election.peers = s.election.peers ∧
      t = { s with line := t.line, election := t.election, fitness := t.fitness }) ∧
    (s.line.state ≠ .busy → exec .lineStuck s = .next s)

/-- A cell of the own frame that reads other than it was sent loses the frame: an arbitration loss where a
1 was sent, a readback fault where a 0 was. The lost frame is pending again, marked for retry, unless a
newer one waits in its slot or it was withdrawn, and the station receives on; in STUCK it is lost the same way, and
nothing is received (sections 6.4, 6.5, 6.6; own cells that read as sent: log 12; the cell in STUCK: log 45). -/
def Obligations.WrongOwnCellLosesFrame : Prop :=
  ∀ (f : Flight) (cell : Nat) (sent : Bool) (s : State),
    s.line.flight = some f → f.ended = false → f.placed.frame.cells[cell]? = some sent →
    let counted :=
      if sent then
        { s.line.counters with arbitrationLosses := min (s.line.counters.arbitrationLosses + 1) 4294967295 }
      else
        { s.line.counters with readbackFaults := min (s.line.counters.readbackFaults + 1) 4294967295 }
    let lostWith (reception : Reception) : State :=
      { s with line := { s.line with counters := counted, reception := reception } }.frameLost f
    (∀ read, s.line.reception = .collecting read → read.length ≤ cell →
      let lost := lostWith (.collecting (f.placed.frame.cells.take cell ++ [!sent]))
      (sent = true → exec (.arbitrationLoss cell) s = .next lost) ∧
      (sent = false → exec (.readbackFault cell) s = .next lost) ∧
      (s.loader.phase ≠ .held → s.thermal.shutdown = false → s.line.state = .busy → cell = read.length →
        read <+: f.placed.frame.cells → exec (.fallingEdge (!sent)) s = .next lost)) ∧
    (s.line.state = .stuck → s.line.reception = .off → 1 ≤ cell →
      (sent = true → exec (.arbitrationLoss cell) s = .next (lostWith .off)) ∧
      (sent = false → exec (.readbackFault cell) s = .next (lostWith .off)))

/-- A falling edge. On an IDLE line it makes the line BUSY and, unless a pending frame starts on it, begins
a reception at a 0 and a noise pulse at a 1; on a BUSY line its cell is collected. On a STUCK line, after
a noise pulse, in reset and in SHUTDOWN nothing is collected (sections 6.1, 6.4, 6.5). That no pending frame starts on the
edge while an own frame whose end has come is still to leave the line is the model's choice (log 13). -/
def Obligations.FallingEdgeBeginsOrCollects : Prop :=
  ∀ (sample : Bool) (s : State),
    (s.loader.phase = .held ∨ s.thermal.shutdown = true → exec (.fallingEdge sample) s = .next s) ∧
    (s.loader.phase ≠ .held → s.thermal.shutdown = false →
      (s.line.state = .idle → (s.loader.phase = .loading ∨ s.line.flight ≠ none ∨
          ∀ k, s.line.slots.get k = none) →
        exec (.fallingEdge sample) s = .next
          { s with
            line :=
              { s.line with
                state := .busy
                reception := if sample then .noise else .collecting [false] } }) ∧
      (s.line.state = .idle → s.loader.phase = .running → s.line.flight = none →
        (∃ k, s.line.slots.get k ≠ none) → exec (.fallingEdge sample) s = .next (trySend s)) ∧
      (∀ read, s.line.state = .busy → s.line.reception = .collecting read →
        (∀ f, s.line.flight = some f → f.ended = false →
          f.placed.frame.cells[read.length]? ≠ some (!sample)) →
        exec (.fallingEdge sample) s = .next
          { s with line := { s.line with reception := .collecting (read ++ [sample]) } }) ∧
      (s.line.state = .busy → (s.line.reception = .off ∨ s.line.reception = .noise) →
        exec (.fallingEdge sample) s = .next s) ∧
      (s.line.state = .stuck → exec (.fallingEdge sample) s = .next s))

/-- An own frame whose end has come leaves the line. A CLAIM starts the settle timer and the yield wait of
the port that claims; a frame that had been withdrawn clears its slot mark alone; a RELEASE(X, RESTART)
is settled; a REPORT brings the next part of its page, or ends the reply. Nothing else is told (sections
6.5, 7.4, 7.6, 11.1). That the reply knows its frame by a number (log 31) and that a pending frame starts in this very
step (log 13) are the model's choices. -/
def Obligations.SentFrameIsToldToItsOwner : Prop :=
  ∀ (f : Flight) (s : State), s.line.flight = some f →
    let left : State := { s with line := { s.line with flight := none } }
    (f.ended = false → exec .frameLeavesLine s = .next s) ∧
    (f.ended = true →
      (f.slot = .announce → exec .frameLeavesLine s = .next (trySend left)) ∧
      (∀ x, f.slot = .lane x →
        ((s.elect x).slotMark = true →
          exec .frameLeavesLine s = .next (trySend (left.updElect x fun e => { e with slotMark := false }))) ∧
        ((s.elect x).slotMark = false → f.placed.frame.kind = 2 → (s.elect x).lane = .claiming →
          exec .frameLeavesLine s = .next (trySend (left.updElect x fun e =>
            { e with settle := .running 40, yieldWait := .running 200 }))) ∧
        ((s.elect x).slotMark = false →
          (f.placed.frame.kind = 0 ∨ (f.placed.frame.kind = 2 ∧ (s.elect x).lane ≠ .claiming) ∨
            (f.placed.frame.kind = 1 ∧
              (f.placed.frame.body[1]? ≠ some 3 ∨ (s.elect x).releaseOut = false))) →
          exec .frameLeavesLine s = .next (trySend left)) ∧
        ((s.elect x).slotMark = false → f.placed.frame.kind = 1 → f.placed.frame.body[1]? = some 3 →
          (s.elect x).releaseOut = true →
          let settled := left.updElect x fun e => { e with releaseOut := false }
          let last := s.election.restarting = true ∧ s.election.reported = false ∧
            ∀ y, (s.elect y).lane ≠ .driving ∧ (s.elect y).lane ≠ .holding ∧
              (y ≠ x → (s.elect y).releaseOut = false)
          (last → exec .frameLeavesLine s = .next (trySend
            { settled with
              election := { settled.election with reported := true }
              loader := { s.loader with releasedReport := true } })) ∧
          (¬ last → exec .frameLeavesLine s = .next (trySend settled)))) ∧
      (f.slot = .report →
        (∀ r, s.reply = some r → r.serial = f.placed.serial →
          (31 * (r.part + 1) < r.content.length →
            exec .frameLeavesLine s = .next (trySend
              (({ left with reply := some { r with part := r.part + 1, serial := s.line.serial } }).placeFrame
                .report ⟨5, s.loader.stationNumber,
                  byte (16 * (r.part + 1) + r.page) ::
                    (r.content.drop (31 * (r.part + 1))).take 31⟩))) ∧
          (r.content.length ≤ 31 * (r.part + 1) →
            exec .frameLeavesLine s = .next (trySend { left with reply := none }))) ∧
        ((∀ r, s.reply = some r → r.serial ≠ f.placed.serial) →
          exec .frameLeavesLine s = .next (trySend left))))

/-! ### Responder, monitor output and restart -/

/-- A QUERY to this station is answered with part 0 of the page it asks for, page 0 for a page above 11,
in place of any reply in progress; one to another station is not. The content's free bytes are fresh
draws (log 10). The pages carry the fields of Tables 11-1 to 11-4 in their order, and have their lengths in every
state, so that every REPORT fits a frame (sections 11.1, 11.2). On pages 5 to 8 the 24 bytes of copy counts go path by
path, which is the model's reading (log 34); that the reply knows its frame by a number (log 31) and that a pending frame
starts behind the taking of the QUERY (log 13) are its choices. -/
def Obligations.QueryPlacesFirstPartOfPage : Prop :=
  (∀ (f : Frame) (rest : List Frame) (s : State),
    s.loader.phase = .running → s.thermal.shutdown = false → s.line.heard = f :: rest → f.kind = 4 →
    let taken : State := { s with line := { s.line with heard := rest } }
    let asked := (f.body.headD 0).toNat
    let page := if asked ≤ 11 then asked else 0
    (f.station ≠ s.loader.stationNumber → exec .queryFrame s = .next (trySend taken)) ∧
    (f.station = s.loader.stationNumber →
      exec .queryFrame s = .next (trySend
        (({ taken with
            freeDraws := s.freeDraws + 8
            reply := some ⟨page, s.pageContent page, 0, s.line.serial⟩ }).placeFrame
          .report ⟨5, s.loader.stationNumber, byte page :: (s.pageContent page).take 31⟩)))) ∧
  ∀ (s : State),
    (∀ n, (n = 0 ∨ 11 < n) → (s.pageContent n).length = 31) ∧
    (∀ n, 1 ≤ n → n ≤ 4 → (s.pageContent n).length = 42) ∧
    (∀ n, 5 ≤ n → n ≤ 8 → ∀ k : SlotNo, n = 5 + k.val →
      (s.pageContent n).length = if (s.slotConfig k).isSome then 57 else 1) ∧
    (s.pageContent 9).length = 124 ∧ (s.pageContent 10).length = 24 ∧ (s.pageContent 11).length = 33 ∧
    (∃ v : Fin 8 → Byte,
      let shown (l : List Nat) : List Byte :=
        numBytes 1 l.length ++ numBytes 1 (l[0]?.getD 255) ++ numBytes 1 (l[1]?.getD 255)
      s.pageContent 0 =
        faultsByte s.fitness ++ numBytes 1 s.loader.cause.number ++ numBytes 2 s.loader.restartCount ++
        readingByte s.thermal.reading ++ numBytes 1 s.thermal.stack.length ++
        ([0, 1, 2].flatMap fun i => numBytes 1 ((s.thermal.stack.reverse[i]?.map Fin.val).getD 255)) ++
        numBytes 1 s.loader.record.memoryAnswered.toNat ++ numBytes 1 s.loader.record.notes ++
        shown s.loader.record.corrected ++ shown s.loader.record.failed ++
        numBytes 1 ((s.fitness.underCheck.map Fin.val).getD 255) ++
        (match s.fitness.lastResult with
          | some r => numBytes 1 r.slot.val ++ numBytes 2 r.checked ++ numBytes 2 r.mismatches
          | none => [255, v 0, v 1, v 2, v 3]) ++
        (match s.fitness.mergeFault with
          | some (k, n) => numBytes 1 k.val ++ numBytes 2 n
          | none => [255, v 4, v 5]) ++
        numBytes 2 (s.fitness.checkValue.getD 0).toNat ++
        (match s.fitness.configFault with
          | some found => 1 :: numBytes 2 found.toNat
          | none => [0, v 6, v 7])) ∧
    (∀ p : Path, ∃ a b c : Byte,
      let u := s.path p
      let part := s.interval.published.paths.get p
      let n := part.counters
      s.pageContent (1 + p.val) =
        numBytes 1 (([.parked, .gain, .mode, .timing, .frame, .tracking, .hold] : List PathState).idxOf u.state) ++
        numBytes 1 u.candidateIndex ++ numBytes 1 u.attempts ++
        numBytes 1 (([.noFailure, .noSignal, .noMode, .noTiming, .noFrame, .wrongMux, .holdExpired,
          .modeMismatch] : List Failure).idxOf u.lastFailure) ++
        (match u.measurements with
          | some m => numBytes 2 m.mer ++ numBytes 1 m.level ++ numBytes 3 (m.offset % 16777216).toNat
          | none => List.replicate 6 255) ++
        (match u.decoded with
          | some d =>
            numBytes 1 (([.short, .long] : List SymbolMode).idxOf d.symbolMode) ++
            numBytes 1 (([.quarter, .eighth, .sixteenth, .thirtySecond] : List Guard).idxOf d.guard) ++
            numBytes 1
              (([.half, .twoThirds, .threeQuarters, .fiveSixths, .sevenEighths] : List CodeRate).idxOf d.codeRate) ++
            numBytes 2 d.n ++ numBytes 2 d.muxId.toNat
          | none => List.replicate 7 255) ++
        (match u.counter with
          | some q => numBytes 1 q.superframe.val ++ numBytes 1 q.frame.val ++ numBytes 2 q.packet
          | none => [a, 255, b, c]) ++
        numBytes 2 n.delivered ++ numBytes 2 n.clean ++ numBytes 2 n.correctedPackets ++
        numBytes 3 n.correctedBytes ++ numBytes 2 n.uncorrectable ++ numBytes 2 n.refused ++
        numBytes 2 n.slips ++ numBytes 2 n.continuityFaults ++ numBytes 4 part.cumulativeUncorrectable) ∧
    (∀ (k : SlotNo) (c : ServiceConfig), s.slotConfig k = some c →
      let f := (s.interval.published.figures.get k).getD ⟨0, 0, 0, 0, 0⟩
      let n := ((s.interval.published.services.get k).map ServicePart.counters).getD ServiceCounters.reset
      s.pageContent (5 + k.val) =
        numBytes 1 (if (s.service k).state = .dark then 1 else 2) ++
        numBytes 2 f.sf ++ numBytes 2 f.mer ++ numBytes 2 f.p ++ numBytes 2 f.u ++ numBytes 3 f.c ++
        numBytes 2 n.resolved ++ numBytes 2 n.outputUncorrectable ++ numBytes 2 n.missing ++
        numBytes 3 n.correctedBytes ++ numBytes 2 n.forced ++ numBytes 1 n.windowPeak ++
        numBytes 1 n.darkMark.toNat ++
        ([0, 1, 2, 3].flatMap fun p =>
          if c.contributors.get p then
            numBytes 2 (n.selected.get p) ++ numBytes 2 (n.unselected.get p) ++ numBytes 2 (n.late.get p)
          else List.replicate 6 0) ++
        numBytes 4 n.cumulativeMissing ++ numBytes 4 n.cumulativeOutputUncorrectable) ∧
    (∀ k : SlotNo, s.slotConfig k = none → s.pageContent (5 + k.val) = [0]) ∧
    (∀ x : Port, ((s.pageContent 9).drop (31 * x.val)).take 31 =
      match s.portConfig x with
      | some c =>
        let q := s.interval.published.ports.get x
        let n := q.counters
        numBytes 1 (s.elect x).lane.number ++ numBytes 1 c.lane.val ++ numBytes 1 (s.elect x).conflict.toNat ++
        numBytes 1 q.fill ++ numBytes 1 q.peak ++ numBytes 3 (q.rEst.getD 16777215) ++
        numBytes 2 (q.rOut.getD 65535) ++ numBytes 1 (if q.activity = .quiet then 0 else 1) ++
        numBytes 2 n.marked ++ numBytes 2 n.nulled ++ numBytes 2 n.omitted ++ numBytes 2 n.sent ++
        numBytes 2 n.stuffed ++ numBytes 2 n.overflow ++ numBytes 2 n.shadowDiscards ++
        numBytes 2 n.contentionEvents ++ numBytes 4 (s.elect x).refused
      | none => [0, 255, 0, 0, 0, 255, 255, 255, 255, 255] ++ List.replicate 21 0) ∧
    (∀ i : Station, ((s.pageContent 10).drop (3 * i.val)).take 3 =
      match s.election.peers.get i with
      | some e => numBytes 1 e.age ++ [e.fitnessFaults] ++ numBytes 1 e.cause.number
      | none => [255, 255, 255]) ∧
    let n := s.line.counters
    s.pageContent 11 =
      numBytes 4 n.badCheck ++ numBytes 4 n.truncated ++ numBytes 4 n.badLength ++ numBytes 4 n.badField ++
      numBytes 4 n.numberClashes ++ numBytes 4 n.arbitrationLosses ++ numBytes 4 n.readbackFaults ++
      numBytes 4 n.stuckEpisodes ++ numBytes 1 (([.idle, .busy, .stuck] : List LineState).idxOf s.line.state)

/-- A RESTART to this station, outside a release wait: the loader waits for the release, at most 20 ms;
driving ports are marked RESTART and finish, claiming ports withdraw, their CLAIMs with them, every other port is DISABLED, and
with nothing to wait for the released report is sent at once. In a release wait, and to another station,
it is ignored (sections 7.6, 10.6; the start of a pending frame behind it: log 13). -/
def Obligations.RestartFrameReleasesLanes : Prop :=
  ∀ (f : Frame) (rest : List Frame) (s : State),
    s.loader.phase = .running → s.thermal.shutdown = false → s.line.heard = f :: rest → f.kind = 6 →
    let taken : State := { s with line := { s.line with heard := rest } }
    ((f.station ≠ s.loader.stationNumber ∨ s.loader.releasing = true) →
      exec .restartFrame s = .next (trySend taken)) ∧
    (f.station = s.loader.stationNumber → s.loader.releasing = false →
      let withdrawn := [0, 1, 2, 3].foldl
        (fun u x => if (s.elect x).lane = .claiming then withdrawFrame u x else u) taken
      ∃ t, exec .restartFrame s = .next t ∧ t.election.restarting = true ∧
        (∀ x, ((s.elect x).lane = .driving ∨ (s.elect x).lane = .holding) →
          t.elect x = { s.elect x with mark := some .restart, holdTimer := none } ∧
          ((s.elect x).mark ≠ none → t.port x = s.port x) ∧
          ((s.elect x).mark = none → t.port x =
            if (s.port x).onLane = none then
              { s.port x with driversOn := false, notices := (s.port x).notices ++ [.finished] }
            else { s.port x with finishOrder := true })) ∧
        t.line = (trySend withdrawn).line ∧ (∀ x, (t.elect x).slotMark = (withdrawn.elect x).slotMark) ∧
        (∀ x, (s.elect x).lane = .claiming →
          t.line.slots.lane.get x = none ∧
          ∀ g, s.line.flight = some g → g.slot = .lane x →
            t.line.flight = some { g with withdrawn := true } ∧ (t.elect x).slotMark = true) ∧
        (∀ x, (s.elect x).lane ≠ .driving → (s.elect x).lane ≠ .holding →
          t.elect x = { (s.elect x).entered .disabled with slotMark := (t.elect x).slotMark } ∧
          t.port x = s.port x) ∧
        t.election.reported = (four.all fun x =>
          (s.elect x).lane != .driving && (s.elect x).lane != .holding && !(s.elect x).releaseOut) ∧
        t.loader =
          { s.loader with
            releasing := true
            releaseLimit := some 20
            releasedReport := s.loader.releasedReport || t.election.reported } ∧
        t.election.peers = s.election.peers ∧
        t = { s with loader := t.loader, election := t.election, ports := t.ports, line := t.line })

/-- A MONITOR frame to this station selects the source; a change of source empties the queue and leaves the
packet on the output (log 17). A REPORT, a frame of an undefined kind, and a MONITOR frame to another
station do nothing but leave the hand-over, behind which a frame pending on an IDLE line starts (log 13). The end of
a packet on the output starts the next of the queue, in every state. An offered packet starts on an idle output, joins a
queue of fewer than two, and is otherwise not sent (sections 6.4, 11.3). -/
def Obligations.MonitorSelectsSourceAndUnreadFramesPass : Prop :=
  (∀ (f : Frame) (rest : List Frame) (s : State),
    s.loader.phase = .running → s.thermal.shutdown = false → s.line.heard = f :: rest →
    let taken : State := { s with line := { s.line with heard := rest } }
    let code := (f.body.headD 0).toNat
    (f.kind = 5 → exec .reportFrame s = .next (trySend taken)) ∧
    (8 ≤ f.kind.val → exec .undefinedKindFrame s = .next (trySend taken)) ∧
    (f.kind = 7 → f.station ≠ s.loader.stationNumber → exec .monitorFrame s = .next (trySend taken)) ∧
    (∀ src, f.kind = 7 → f.station = s.loader.stationNumber →
      ((code = 0 ∧ src = .off) ∨ (∃ p : Path, code = 1 + p.val ∧ src = .path p) ∨
        (∃ x : Port, code = 5 + x.val ∧ src = MonitorSource.port x)) →
      exec .monitorFrame s = .next (trySend
        { taken with
          monitor :=
            { s.monitor with
              source := src
              queue := if src = s.monitor.source then s.monitor.queue else [] } }))) ∧
  (∀ s : State,
    (∀ q next more, s.monitor.current = some q → s.monitor.queue = next :: more →
      exec .monitorPacketEnd s = .next { s with monitor := ⟨s.monitor.source, some next, more⟩ }) ∧
    (s.monitor.queue = [] →
      exec .monitorPacketEnd s = .next { s with monitor := { s.monitor with current := none } }) ∧
    (s.monitor.current = none → exec .monitorPacketEnd s = .next s)) ∧
  ∀ (m : MonitorUnit) (q : Packet),
    (m.current = none → m.offer q = { m with current := some q }) ∧
    (m.current ≠ none → m.queue.length < 2 → m.offer q = { m with queue := m.queue ++ [q] }) ∧
    (m.current ≠ none → 2 ≤ m.queue.length → m.offer q = m)

/-! ### Laws of the device, and the ranges of its counts -/

/-- Every law and range holds at reset. -/
def Obligations.LawsHoldAtReset : Prop :=
  State.reset.laneLaw ∧ State.reset.windowLaw ∧ State.reset.contributorLaw ∧ State.reset.fifoLaw ∧
    State.reset.figureLaw ∧ State.reset.peerLaw ∧ State.reset.pathRanges ∧ State.reset.portRanges ∧
    State.reset.serviceRanges ∧ State.reset.lineRanges ∧ State.reset.electionRanges ∧ State.reset.unitRanges ∧
    State.reset.shutdownLaw ∧ State.reset.stackLaw

/-- Every step keeps the lane law: drivers are on only in DRIVING and HOLDING; a port claims, drives or
holds only while the station is FIT and not in SHUTDOWN; a port that is not DISABLED is bound and its
station works; only a port in DRIVING or HOLDING carries a finish mark (sections 5.6, 7.2, 7.6). -/
def Obligations.StepKeepsLaneLaw : Prop := ∀ s t, s.laneLaw → step s = .next t → t.laneLaw

/-- Every step keeps the window law: at most 48 entries, each with a copy, their positions rising strictly from
head to tail and each newer than the front, and a service that is DARK exactly while its tracking set and window are
empty; and the contributor law: a configured service keeps
at least one contributor, and none but configured ones (sections 3.1, 3.2, 3.6). -/
def Obligations.StepKeepsMergeLaws : Prop :=
  (∀ s t, s.windowLaw → step s = .next t → t.windowLaw) ∧
    ∀ s t, s.contributorLaw → step s = .next t → t.contributorLaw

/-- Every step keeps every FIFO within its depth and every peak deviation within half of it, figures at
1023 or below, peer ages at 2 or below, and the counts of paths, services, ports, line, elections and units within
their ranges, in the snapshots too; a path's uncorrectable run, measurements and candidate index are among them
(sections 1.1, 3.7, 4.4, 5.3, 5.9, 6.6, 7.1, Tables 1-1, 2-5, 3-3, 5-4, 6-6, 7-1, 8-1, 9-1). -/
def Obligations.StepKeepsRanges : Prop :=
  (∀ s t, s.fifoLaw → step s = .next t → t.fifoLaw) ∧
    (∀ s t, s.figureLaw → step s = .next t → t.figureLaw) ∧
    (∀ s t, s.peerLaw → step s = .next t → t.peerLaw) ∧
    (∀ s t, s.pathRanges → step s = .next t → t.pathRanges) ∧
    (∀ s t, s.serviceRanges → step s = .next t → t.serviceRanges) ∧
    (∀ s t, s.lineRanges → step s = .next t → t.lineRanges) ∧
    (∀ s t, s.portRanges → step s = .next t → t.portRanges) ∧
    (∀ s t, s.electionRanges → step s = .next t → t.electionRanges) ∧
    ∀ s t, s.unitRanges → step s = .next t → t.unitRanges

/-- Every step of a station in SHUTDOWN leaves it quiet, or resets it, and the interval timer runs in a
started station only. Every step keeps the parked stack: at most three paths, none twice, every path on it PARKED, in
no contributor set and with no order to leave PARKED on its way (sections 3.6, 4.1, 6.7, 7.6, 9.4, 9.6). -/
def Obligations.StepKeepsShutdownAndStackLaws : Prop :=
  (∀ s t, s.shutdownLaw → step s = .next t → t.shutdownLaw) ∧
    ∀ s t, s.contributorLaw → s.shutdownLaw → s.stackLaw → step s = .next t → t.stackLaw
end

