-- ==== Sys2Proof/Laws/State.lean ====
section
/-! SUPPORT. Reading after writing: the tables of four and of eight, and every field of the state under
each named update of Machine/Ops.lean. -/

namespace Sys2Proof

/-! ### Tables of four -/

@[simp] theorem Quad.get_set_self {α : Type} (q : Quad α) (i : Fin 4) (x : α) : (q.set i x).get i = x := by
  fin_cases i <;> rfl

theorem Quad.get_set_of_ne {α : Type} (q : Quad α) {i j : Fin 4} (x : α) (h : j ≠ i) :
    (q.set i x).get j = q.get j := by
  fin_cases i <;> fin_cases j <;> first | rfl | exact absurd rfl h

theorem Quad.get_set {α : Type} (q : Quad α) (i j : Fin 4) (x : α) :
    (q.set i x).get j = if j = i then x else q.get j := by
  split
  · next h => rw [h, Quad.get_set_self]
  · next h => exact Quad.get_set_of_ne q x h

@[simp] theorem Quad.get_update_self {α : Type} (q : Quad α) (i : Fin 4) (f : α → α) :
    (q.update i f).get i = f (q.get i) := Quad.get_set_self q i _

theorem Quad.get_update_of_ne {α : Type} (q : Quad α) {i j : Fin 4} (f : α → α) (h : j ≠ i) :
    (q.update i f).get j = q.get j := Quad.get_set_of_ne q _ h

theorem Quad.get_update {α : Type} (q : Quad α) (i j : Fin 4) (f : α → α) :
    (q.update i f).get j = if j = i then f (q.get i) else q.get j := Quad.get_set q i j _

@[simp] theorem Quad.get_map {α β : Type} (q : Quad α) (f : Fin 4 → α → β) (i : Fin 4) :
    (q.map f).get i = f i (q.get i) := by
  fin_cases i <;> rfl

@[simp] theorem Quad.get_fill {α : Type} (x : α) (i : Fin 4) : (Quad.fill x).get i = x := by
  fin_cases i <;> rfl

@[simp] theorem Quad.get_tabulate {β : Type} (f : Fin 4 → β) (i : Fin 4) : (Quad.tabulate f).get i = f i := by
  fin_cases i <;> rfl

/-- Two tables are equal when they agree in all four places. -/
theorem Quad.ext_get {α : Type} {q r : Quad α} (h : ∀ i, q.get i = r.get i) : q = r := by
  cases q; cases r
  simp only [Quad.mk.injEq]
  exact ⟨h 0, h 1, h 2, h 3⟩

/-- Writing back what a place holds changes nothing. -/
@[simp] theorem Quad.set_get {α : Type} (q : Quad α) (i : Fin 4) : q.set i (q.get i) = q := by
  fin_cases i <;> rfl

/-! ### Tables of eight -/

@[simp] theorem Oct.get_set_self {α : Type} (q : Oct α) (i : Fin 8) (x : α) : (q.set i x).get i = x := by
  fin_cases i <;> rfl

theorem Oct.get_set_of_ne {α : Type} (q : Oct α) {i j : Fin 8} (x : α) (h : j ≠ i) :
    (q.set i x).get j = q.get j := by
  fin_cases i <;> fin_cases j <;> first | rfl | exact absurd rfl h

@[simp] theorem Oct.get_map {α β : Type} (q : Oct α) (f : α → β) (i : Fin 8) :
    (q.map f).get i = f (q.get i) := by
  fin_cases i <;> rfl

@[simp] theorem Oct.get_fill {α : Type} (x : α) (i : Fin 8) : (Oct.fill x).get i = x := by
  fin_cases i <;> rfl

namespace Machine

/-! ### One path, service, port or port's election -/

@[simp] theorem State.path_updPath_self (s : State) (i : Path) (f : PathUnit → PathUnit) :
    (s.updPath i f).path i = f (s.path i) := Quad.get_update_self _ i f

theorem State.path_updPath_of_ne (s : State) {i j : Path} (f : PathUnit → PathUnit) (h : j ≠ i) :
    (s.updPath i f).path j = s.path j := Quad.get_update_of_ne _ f h

@[simp] theorem State.service_updPath (s : State) (i : Path) (f : PathUnit → PathUnit) (j : SlotNo) :
    (s.updPath i f).service j = s.service j := rfl

@[simp] theorem State.port_updPath (s : State) (i : Path) (f : PathUnit → PathUnit) (j : Port) :
    (s.updPath i f).port j = s.port j := rfl

@[simp] theorem State.elect_updPath (s : State) (i : Path) (f : PathUnit → PathUnit) (j : Port) :
    (s.updPath i f).elect j = s.elect j := rfl

@[simp] theorem State.pending_updPath (s : State) (i : Path) (f : PathUnit → PathUnit) : (s.updPath i f).pending = s.pending := rfl

@[simp] theorem State.loader_updPath (s : State) (i : Path) (f : PathUnit → PathUnit) : (s.updPath i f).loader = s.loader := rfl

@[simp] theorem State.config_updPath (s : State) (i : Path) (f : PathUnit → PathUnit) : (s.updPath i f).config = s.config := rfl

@[simp] theorem State.now_updPath (s : State) (i : Path) (f : PathUnit → PathUnit) : (s.updPath i f).now = s.now := rfl

@[simp] theorem State.services_updPath (s : State) (i : Path) (f : PathUnit → PathUnit) : (s.updPath i f).services = s.services := rfl

@[simp] theorem State.mergeStays_updPath (s : State) (i : Path) (f : PathUnit → PathUnit) : (s.updPath i f).mergeStays = s.mergeStays := rfl
@[simp] theorem State.cascading_updPath (s : State) (i : Path) (f : PathUnit → PathUnit) : (s.updPath i f).cascading = s.cascading := rfl

@[simp] theorem State.requests_updPath (s : State) (i : Path) (f : PathUnit → PathUnit) : (s.updPath i f).requests = s.requests := rfl

@[simp] theorem State.answers_updPath (s : State) (i : Path) (f : PathUnit → PathUnit) : (s.updPath i f).answers = s.answers := rfl

@[simp] theorem State.portSignals_updPath (s : State) (i : Path) (f : PathUnit → PathUnit) : (s.updPath i f).portSignals = s.portSignals := rfl

@[simp] theorem State.electionSignals_updPath (s : State) (i : Path) (f : PathUnit → PathUnit) : (s.updPath i f).electionSignals = s.electionSignals := rfl

@[simp] theorem State.interval_updPath (s : State) (i : Path) (f : PathUnit → PathUnit) : (s.updPath i f).interval = s.interval := rfl

@[simp] theorem State.ports_updPath (s : State) (i : Path) (f : PathUnit → PathUnit) : (s.updPath i f).ports = s.ports := rfl

@[simp] theorem State.line_updPath (s : State) (i : Path) (f : PathUnit → PathUnit) : (s.updPath i f).line = s.line := rfl

@[simp] theorem State.election_updPath (s : State) (i : Path) (f : PathUnit → PathUnit) : (s.updPath i f).election = s.election := rfl

@[simp] theorem State.fitness_updPath (s : State) (i : Path) (f : PathUnit → PathUnit) : (s.updPath i f).fitness = s.fitness := rfl

@[simp] theorem State.thermal_updPath (s : State) (i : Path) (f : PathUnit → PathUnit) : (s.updPath i f).thermal = s.thermal := rfl

@[simp] theorem State.reply_updPath (s : State) (i : Path) (f : PathUnit → PathUnit) : (s.updPath i f).reply = s.reply := rfl

@[simp] theorem State.monitor_updPath (s : State) (i : Path) (f : PathUnit → PathUnit) : (s.updPath i f).monitor = s.monitor := rfl

@[simp] theorem State.freeDraws_updPath (s : State) (i : Path) (f : PathUnit → PathUnit) : (s.updPath i f).freeDraws = s.freeDraws := rfl

@[simp] theorem State.slotConfig_updPath (s : State) (i : Path) (f : PathUnit → PathUnit) (j : SlotNo) :
    (s.updPath i f).slotConfig j = s.slotConfig j := rfl

@[simp] theorem State.portConfig_updPath (s : State) (i : Path) (f : PathUnit → PathUnit) (j : Port) :
    (s.updPath i f).portConfig j = s.portConfig j := rfl

@[simp] theorem State.service_updService_self (s : State) (i : SlotNo) (f : Service → Service) :
    (s.updService i f).service i = f (s.service i) := Quad.get_update_self _ i f

theorem State.service_updService_of_ne (s : State) {i j : SlotNo} (f : Service → Service) (h : j ≠ i) :
    (s.updService i f).service j = s.service j := Quad.get_update_of_ne _ f h

@[simp] theorem State.path_updService (s : State) (i : SlotNo) (f : Service → Service) (j : Path) :
    (s.updService i f).path j = s.path j := rfl

@[simp] theorem State.port_updService (s : State) (i : SlotNo) (f : Service → Service) (j : Port) :
    (s.updService i f).port j = s.port j := rfl

@[simp] theorem State.elect_updService (s : State) (i : SlotNo) (f : Service → Service) (j : Port) :
    (s.updService i f).elect j = s.elect j := rfl

@[simp] theorem State.pending_updService (s : State) (i : SlotNo) (f : Service → Service) : (s.updService i f).pending = s.pending := rfl

@[simp] theorem State.loader_updService (s : State) (i : SlotNo) (f : Service → Service) : (s.updService i f).loader = s.loader := rfl

@[simp] theorem State.config_updService (s : State) (i : SlotNo) (f : Service → Service) : (s.updService i f).config = s.config := rfl

@[simp] theorem State.now_updService (s : State) (i : SlotNo) (f : Service → Service) : (s.updService i f).now = s.now := rfl

@[simp] theorem State.paths_updService (s : State) (i : SlotNo) (f : Service → Service) : (s.updService i f).paths = s.paths := rfl

@[simp] theorem State.mergeStays_updService (s : State) (i : SlotNo) (f : Service → Service) : (s.updService i f).mergeStays = s.mergeStays := rfl
@[simp] theorem State.cascading_updService (s : State) (i : SlotNo) (f : Service → Service) : (s.updService i f).cascading = s.cascading := rfl

@[simp] theorem State.requests_updService (s : State) (i : SlotNo) (f : Service → Service) : (s.updService i f).requests = s.requests := rfl

@[simp] theorem State.answers_updService (s : State) (i : SlotNo) (f : Service → Service) : (s.updService i f).answers = s.answers := rfl

@[simp] theorem State.portSignals_updService (s : State) (i : SlotNo) (f : Service → Service) : (s.updService i f).portSignals = s.portSignals := rfl

@[simp] theorem State.electionSignals_updService (s : State) (i : SlotNo) (f : Service → Service) : (s.updService i f).electionSignals = s.electionSignals := rfl

@[simp] theorem State.interval_updService (s : State) (i : SlotNo) (f : Service → Service) : (s.updService i f).interval = s.interval := rfl

@[simp] theorem State.ports_updService (s : State) (i : SlotNo) (f : Service → Service) : (s.updService i f).ports = s.ports := rfl

@[simp] theorem State.line_updService (s : State) (i : SlotNo) (f : Service → Service) : (s.updService i f).line = s.line := rfl

@[simp] theorem State.election_updService (s : State) (i : SlotNo) (f : Service → Service) : (s.updService i f).election = s.election := rfl

@[simp] theorem State.fitness_updService (s : State) (i : SlotNo) (f : Service → Service) : (s.updService i f).fitness = s.fitness := rfl

@[simp] theorem State.thermal_updService (s : State) (i : SlotNo) (f : Service → Service) : (s.updService i f).thermal = s.thermal := rfl

@[simp] theorem State.reply_updService (s : State) (i : SlotNo) (f : Service → Service) : (s.updService i f).reply = s.reply := rfl

@[simp] theorem State.monitor_updService (s : State) (i : SlotNo) (f : Service → Service) : (s.updService i f).monitor = s.monitor := rfl

@[simp] theorem State.freeDraws_updService (s : State) (i : SlotNo) (f : Service → Service) : (s.updService i f).freeDraws = s.freeDraws := rfl

@[simp] theorem State.slotConfig_updService (s : State) (i : SlotNo) (f : Service → Service) (j : SlotNo) :
    (s.updService i f).slotConfig j = s.slotConfig j := rfl

@[simp] theorem State.portConfig_updService (s : State) (i : SlotNo) (f : Service → Service) (j : Port) :
    (s.updService i f).portConfig j = s.portConfig j := rfl

@[simp] theorem State.port_updPort_self (s : State) (i : Port) (f : PortUnit → PortUnit) :
    (s.updPort i f).port i = f (s.port i) := Quad.get_update_self _ i f

theorem State.port_updPort_of_ne (s : State) {i j : Port} (f : PortUnit → PortUnit) (h : j ≠ i) :
    (s.updPort i f).port j = s.port j := Quad.get_update_of_ne _ f h

@[simp] theorem State.path_updPort (s : State) (i : Port) (f : PortUnit → PortUnit) (j : Path) :
    (s.updPort i f).path j = s.path j := rfl

@[simp] theorem State.service_updPort (s : State) (i : Port) (f : PortUnit → PortUnit) (j : SlotNo) :
    (s.updPort i f).service j = s.service j := rfl

@[simp] theorem State.elect_updPort (s : State) (i : Port) (f : PortUnit → PortUnit) (j : Port) :
    (s.updPort i f).elect j = s.elect j := rfl

@[simp] theorem State.pending_updPort (s : State) (i : Port) (f : PortUnit → PortUnit) : (s.updPort i f).pending = s.pending := rfl

@[simp] theorem State.loader_updPort (s : State) (i : Port) (f : PortUnit → PortUnit) : (s.updPort i f).loader = s.loader := rfl

@[simp] theorem State.config_updPort (s : State) (i : Port) (f : PortUnit → PortUnit) : (s.updPort i f).config = s.config := rfl

@[simp] theorem State.now_updPort (s : State) (i : Port) (f : PortUnit → PortUnit) : (s.updPort i f).now = s.now := rfl

@[simp] theorem State.paths_updPort (s : State) (i : Port) (f : PortUnit → PortUnit) : (s.updPort i f).paths = s.paths := rfl

@[simp] theorem State.services_updPort (s : State) (i : Port) (f : PortUnit → PortUnit) : (s.updPort i f).services = s.services := rfl

@[simp] theorem State.mergeStays_updPort (s : State) (i : Port) (f : PortUnit → PortUnit) : (s.updPort i f).mergeStays = s.mergeStays := rfl
@[simp] theorem State.cascading_updPort (s : State) (i : Port) (f : PortUnit → PortUnit) : (s.updPort i f).cascading = s.cascading := rfl

@[simp] theorem State.requests_updPort (s : State) (i : Port) (f : PortUnit → PortUnit) : (s.updPort i f).requests = s.requests := rfl

@[simp] theorem State.answers_updPort (s : State) (i : Port) (f : PortUnit → PortUnit) : (s.updPort i f).answers = s.answers := rfl

@[simp] theorem State.portSignals_updPort (s : State) (i : Port) (f : PortUnit → PortUnit) : (s.updPort i f).portSignals = s.portSignals := rfl

@[simp] theorem State.electionSignals_updPort (s : State) (i : Port) (f : PortUnit → PortUnit) : (s.updPort i f).electionSignals = s.electionSignals := rfl

@[simp] theorem State.interval_updPort (s : State) (i : Port) (f : PortUnit → PortUnit) : (s.updPort i f).interval = s.interval := rfl

@[simp] theorem State.line_updPort (s : State) (i : Port) (f : PortUnit → PortUnit) : (s.updPort i f).line = s.line := rfl

@[simp] theorem State.election_updPort (s : State) (i : Port) (f : PortUnit → PortUnit) : (s.updPort i f).election = s.election := rfl

@[simp] theorem State.fitness_updPort (s : State) (i : Port) (f : PortUnit → PortUnit) : (s.updPort i f).fitness = s.fitness := rfl

@[simp] theorem State.thermal_updPort (s : State) (i : Port) (f : PortUnit → PortUnit) : (s.updPort i f).thermal = s.thermal := rfl

@[simp] theorem State.reply_updPort (s : State) (i : Port) (f : PortUnit → PortUnit) : (s.updPort i f).reply = s.reply := rfl

@[simp] theorem State.monitor_updPort (s : State) (i : Port) (f : PortUnit → PortUnit) : (s.updPort i f).monitor = s.monitor := rfl

@[simp] theorem State.freeDraws_updPort (s : State) (i : Port) (f : PortUnit → PortUnit) : (s.updPort i f).freeDraws = s.freeDraws := rfl

@[simp] theorem State.slotConfig_updPort (s : State) (i : Port) (f : PortUnit → PortUnit) (j : SlotNo) :
    (s.updPort i f).slotConfig j = s.slotConfig j := rfl

@[simp] theorem State.portConfig_updPort (s : State) (i : Port) (f : PortUnit → PortUnit) (j : Port) :
    (s.updPort i f).portConfig j = s.portConfig j := rfl

@[simp] theorem State.elect_updElect_self (s : State) (i : Port) (f : PortElection → PortElection) :
    (s.updElect i f).elect i = f (s.elect i) := Quad.get_update_self _ i f

theorem State.elect_updElect_of_ne (s : State) {i j : Port} (f : PortElection → PortElection) (h : j ≠ i) :
    (s.updElect i f).elect j = s.elect j := Quad.get_update_of_ne _ f h

@[simp] theorem State.path_updElect (s : State) (i : Port) (f : PortElection → PortElection) (j : Path) :
    (s.updElect i f).path j = s.path j := rfl

@[simp] theorem State.service_updElect (s : State) (i : Port) (f : PortElection → PortElection) (j : SlotNo) :
    (s.updElect i f).service j = s.service j := rfl

@[simp] theorem State.port_updElect (s : State) (i : Port) (f : PortElection → PortElection) (j : Port) :
    (s.updElect i f).port j = s.port j := rfl

@[simp] theorem State.pending_updElect (s : State) (i : Port) (f : PortElection → PortElection) : (s.updElect i f).pending = s.pending := rfl

@[simp] theorem State.loader_updElect (s : State) (i : Port) (f : PortElection → PortElection) : (s.updElect i f).loader = s.loader := rfl

@[simp] theorem State.config_updElect (s : State) (i : Port) (f : PortElection → PortElection) : (s.updElect i f).config = s.config := rfl

@[simp] theorem State.now_updElect (s : State) (i : Port) (f : PortElection → PortElection) : (s.updElect i f).now = s.now := rfl

@[simp] theorem State.paths_updElect (s : State) (i : Port) (f : PortElection → PortElection) : (s.updElect i f).paths = s.paths := rfl

@[simp] theorem State.services_updElect (s : State) (i : Port) (f : PortElection → PortElection) : (s.updElect i f).services = s.services := rfl

@[simp] theorem State.mergeStays_updElect (s : State) (i : Port) (f : PortElection → PortElection) : (s.updElect i f).mergeStays = s.mergeStays := rfl
@[simp] theorem State.cascading_updElect (s : State) (i : Port) (f : PortElection → PortElection) : (s.updElect i f).cascading = s.cascading := rfl

@[simp] theorem State.requests_updElect (s : State) (i : Port) (f : PortElection → PortElection) : (s.updElect i f).requests = s.requests := rfl

@[simp] theorem State.answers_updElect (s : State) (i : Port) (f : PortElection → PortElection) : (s.updElect i f).answers = s.answers := rfl

@[simp] theorem State.portSignals_updElect (s : State) (i : Port) (f : PortElection → PortElection) : (s.updElect i f).portSignals = s.portSignals := rfl

@[simp] theorem State.electionSignals_updElect (s : State) (i : Port) (f : PortElection → PortElection) : (s.updElect i f).electionSignals = s.electionSignals := rfl

@[simp] theorem State.interval_updElect (s : State) (i : Port) (f : PortElection → PortElection) : (s.updElect i f).interval = s.interval := rfl

@[simp] theorem State.ports_updElect (s : State) (i : Port) (f : PortElection → PortElection) : (s.updElect i f).ports = s.ports := rfl

@[simp] theorem State.line_updElect (s : State) (i : Port) (f : PortElection → PortElection) : (s.updElect i f).line = s.line := rfl

@[simp] theorem State.fitness_updElect (s : State) (i : Port) (f : PortElection → PortElection) : (s.updElect i f).fitness = s.fitness := rfl

@[simp] theorem State.thermal_updElect (s : State) (i : Port) (f : PortElection → PortElection) : (s.updElect i f).thermal = s.thermal := rfl

@[simp] theorem State.reply_updElect (s : State) (i : Port) (f : PortElection → PortElection) : (s.updElect i f).reply = s.reply := rfl

@[simp] theorem State.monitor_updElect (s : State) (i : Port) (f : PortElection → PortElection) : (s.updElect i f).monitor = s.monitor := rfl

@[simp] theorem State.freeDraws_updElect (s : State) (i : Port) (f : PortElection → PortElection) : (s.updElect i f).freeDraws = s.freeDraws := rfl

@[simp] theorem State.slotConfig_updElect (s : State) (i : Port) (f : PortElection → PortElection) (j : SlotNo) :
    (s.updElect i f).slotConfig j = s.slotConfig j := rfl

@[simp] theorem State.portConfig_updElect (s : State) (i : Port) (f : PortElection → PortElection) (j : Port) :
    (s.updElect i f).portConfig j = s.portConfig j := rfl

@[simp] theorem State.peers_updElect (s : State) (i : Port) (f : PortElection → PortElection) :
    (s.updElect i f).election.peers = s.election.peers := rfl

@[simp] theorem State.lineStuck_updElect (s : State) (i : Port) (f : PortElection → PortElection) :
    (s.updElect i f).election.lineStuck = s.election.lineStuck := rfl

@[simp] theorem State.restarting_updElect (s : State) (i : Port) (f : PortElection → PortElection) :
    (s.updElect i f).election.restarting = s.election.restarting := rfl

@[simp] theorem State.reported_updElect (s : State) (i : Port) (f : PortElection → PortElection) :
    (s.updElect i f).election.reported = s.election.reported := rfl

@[simp] theorem State.pending_tickTo (s : State) (now : Nat) : (s.tickTo now).pending = s.pending := rfl

@[simp] theorem State.loader_tickTo (s : State) (now : Nat) : (s.tickTo now).loader = s.loader := rfl

@[simp] theorem State.config_tickTo (s : State) (now : Nat) : (s.tickTo now).config = s.config := rfl

@[simp] theorem State.paths_tickTo (s : State) (now : Nat) : (s.tickTo now).paths = s.paths := rfl

@[simp] theorem State.services_tickTo (s : State) (now : Nat) : (s.tickTo now).services = s.services := rfl

@[simp] theorem State.mergeStays_tickTo (s : State) (now : Nat) : (s.tickTo now).mergeStays = s.mergeStays := rfl
@[simp] theorem State.cascading_tickTo (s : State) (now : Nat) : (s.tickTo now).cascading = s.cascading := rfl

@[simp] theorem State.requests_tickTo (s : State) (now : Nat) : (s.tickTo now).requests = s.requests := rfl

@[simp] theorem State.answers_tickTo (s : State) (now : Nat) : (s.tickTo now).answers = s.answers := rfl

@[simp] theorem State.portSignals_tickTo (s : State) (now : Nat) : (s.tickTo now).portSignals = s.portSignals := rfl

@[simp] theorem State.electionSignals_tickTo (s : State) (now : Nat) : (s.tickTo now).electionSignals = s.electionSignals := rfl

@[simp] theorem State.interval_tickTo (s : State) (now : Nat) : (s.tickTo now).interval = s.interval := rfl

@[simp] theorem State.ports_tickTo (s : State) (now : Nat) : (s.tickTo now).ports = s.ports := rfl

@[simp] theorem State.line_tickTo (s : State) (now : Nat) : (s.tickTo now).line = s.line := rfl

@[simp] theorem State.election_tickTo (s : State) (now : Nat) : (s.tickTo now).election = s.election := rfl

@[simp] theorem State.fitness_tickTo (s : State) (now : Nat) : (s.tickTo now).fitness = s.fitness := rfl

@[simp] theorem State.thermal_tickTo (s : State) (now : Nat) : (s.tickTo now).thermal = s.thermal := rfl

@[simp] theorem State.reply_tickTo (s : State) (now : Nat) : (s.tickTo now).reply = s.reply := rfl

@[simp] theorem State.monitor_tickTo (s : State) (now : Nat) : (s.tickTo now).monitor = s.monitor := rfl

@[simp] theorem State.freeDraws_tickTo (s : State) (now : Nat) : (s.tickTo now).freeDraws = s.freeDraws := rfl

@[simp] theorem State.pending_placeFrame (s : State) (k : TxSlot) (f : Frame) : (s.placeFrame k f).pending = s.pending := rfl

@[simp] theorem State.loader_placeFrame (s : State) (k : TxSlot) (f : Frame) : (s.placeFrame k f).loader = s.loader := rfl

@[simp] theorem State.config_placeFrame (s : State) (k : TxSlot) (f : Frame) : (s.placeFrame k f).config = s.config := rfl

@[simp] theorem State.now_placeFrame (s : State) (k : TxSlot) (f : Frame) : (s.placeFrame k f).now = s.now := rfl

@[simp] theorem State.paths_placeFrame (s : State) (k : TxSlot) (f : Frame) : (s.placeFrame k f).paths = s.paths := rfl

@[simp] theorem State.services_placeFrame (s : State) (k : TxSlot) (f : Frame) : (s.placeFrame k f).services = s.services := rfl

@[simp] theorem State.mergeStays_placeFrame (s : State) (k : TxSlot) (f : Frame) : (s.placeFrame k f).mergeStays = s.mergeStays := rfl
@[simp] theorem State.cascading_placeFrame (s : State) (k : TxSlot) (f : Frame) : (s.placeFrame k f).cascading = s.cascading := rfl

@[simp] theorem State.requests_placeFrame (s : State) (k : TxSlot) (f : Frame) : (s.placeFrame k f).requests = s.requests := rfl

@[simp] theorem State.answers_placeFrame (s : State) (k : TxSlot) (f : Frame) : (s.placeFrame k f).answers = s.answers := rfl

@[simp] theorem State.portSignals_placeFrame (s : State) (k : TxSlot) (f : Frame) : (s.placeFrame k f).portSignals = s.portSignals := rfl

@[simp] theorem State.electionSignals_placeFrame (s : State) (k : TxSlot) (f : Frame) : (s.placeFrame k f).electionSignals = s.electionSignals := rfl

@[simp] theorem State.interval_placeFrame (s : State) (k : TxSlot) (f : Frame) : (s.placeFrame k f).interval = s.interval := rfl

@[simp] theorem State.ports_placeFrame (s : State) (k : TxSlot) (f : Frame) : (s.placeFrame k f).ports = s.ports := rfl

@[simp] theorem State.election_placeFrame (s : State) (k : TxSlot) (f : Frame) : (s.placeFrame k f).election = s.election := rfl

@[simp] theorem State.fitness_placeFrame (s : State) (k : TxSlot) (f : Frame) : (s.placeFrame k f).fitness = s.fitness := rfl

@[simp] theorem State.thermal_placeFrame (s : State) (k : TxSlot) (f : Frame) : (s.placeFrame k f).thermal = s.thermal := rfl

@[simp] theorem State.reply_placeFrame (s : State) (k : TxSlot) (f : Frame) : (s.placeFrame k f).reply = s.reply := rfl

@[simp] theorem State.monitor_placeFrame (s : State) (k : TxSlot) (f : Frame) : (s.placeFrame k f).monitor = s.monitor := rfl

@[simp] theorem State.freeDraws_placeFrame (s : State) (k : TxSlot) (f : Frame) : (s.placeFrame k f).freeDraws = s.freeDraws := rfl

/-! ### Two updates of one place -/

@[simp] theorem Quad.set_set {α : Type} (q : Quad α) (i : Fin 4) (x y : α) : (q.set i x).set i y = q.set i y := by
  fin_cases i <;> rfl

theorem Quad.update_update {α : Type} (q : Quad α) (i : Fin 4) (f g : α → α) :
    (q.update i f).update i g = q.update i fun x => g (f x) := by
  fin_cases i <;> rfl

theorem State.updPath_updPath (s : State) (i : Path) (f g : PathUnit → PathUnit) :
    (s.updPath i f).updPath i g = s.updPath i fun u => g (f u) := by
  simp only [State.updPath, Quad.update_update]

theorem State.updService_updService (s : State) (i : SlotNo) (f g : Service → Service) :
    (s.updService i f).updService i g = s.updService i fun v => g (f v) := by
  simp only [State.updService, Quad.update_update]

theorem State.updPort_updPort (s : State) (i : Port) (f g : PortUnit → PortUnit) :
    (s.updPort i f).updPort i g = s.updPort i fun u => g (f u) := by
  simp only [State.updPort, Quad.update_update]

theorem State.updElect_updElect (s : State) (i : Port) (f g : PortElection → PortElection) :
    (s.updElect i f).updElect i g = s.updElect i fun e => g (f e) := by
  simp only [State.updElect, Quad.update_update]

/-- Only what an update makes of the place as it stands counts. -/
theorem Quad.update_congr {α : Type} (q : Quad α) (i : Fin 4) {f g : α → α} (h : f (q.get i) = g (q.get i)) :
    q.update i f = q.update i g := congrArg (q.set i) h

theorem State.updPath_congr (s : State) (i : Path) {f g : PathUnit → PathUnit}
    (h : f (s.path i) = g (s.path i)) : s.updPath i f = s.updPath i g := by
  unfold State.updPath; rw [Quad.update_congr _ _ h]

theorem State.updService_congr (s : State) (i : SlotNo) {f g : Service → Service}
    (h : f (s.service i) = g (s.service i)) : s.updService i f = s.updService i g := by
  unfold State.updService; rw [Quad.update_congr _ _ h]

theorem State.updPort_congr (s : State) (i : Port) {f g : PortUnit → PortUnit}
    (h : f (s.port i) = g (s.port i)) : s.updPort i f = s.updPort i g := by
  unfold State.updPort; rw [Quad.update_congr _ _ h]

theorem State.updElect_congr (s : State) (i : Port) {f g : PortElection → PortElection}
    (h : f (s.elect i) = g (s.elect i)) : s.updElect i f = s.updElect i g := by
  unfold State.updElect; rw [Quad.update_congr _ _ h]

/-! ### Transmit slots -/

@[simp] theorem TxSlots.get_set_self (t : TxSlots) (k : TxSlot) (f : Option PlacedFrame) : (t.set k f).get k = f := by
  cases k <;> simp [TxSlots.get, TxSlots.set]

theorem TxSlots.get_set_of_ne (t : TxSlots) {k j : TxSlot} (f : Option PlacedFrame) (h : j ≠ k) :
    (t.set k f).get j = t.get j := by
  cases k <;> cases j <;> first
    | rfl
    | exact absurd rfl h
    | exact Quad.get_set_of_ne _ _ (fun e => h (by rw [e]))

/-- A placed frame is the pending frame of its slot, with the serial that stood. -/
@[simp] theorem LineUnit.get_place (l : LineUnit) (k : TxSlot) (f : Frame) :
    (l.place k f).slots.get k = some ⟨f, l.serial⟩ := TxSlots.get_set_self _ _ _

/-- Placing touches neither the frame in flight nor the line state. -/
@[simp] theorem LineUnit.flight_place (l : LineUnit) (k : TxSlot) (f : Frame) : (l.place k f).flight = l.flight := rfl

@[simp] theorem LineUnit.state_place (l : LineUnit) (k : TxSlot) (f : Frame) : (l.place k f).state = l.state := rfl

@[simp] theorem LineUnit.counters_place (l : LineUnit) (k : TxSlot) (f : Frame) :
    (l.place k f).counters = l.counters := rfl

end Machine
end Sys2Proof
end

