-- ==== Sys2Proof/Laws/Ops.lean ====
section
/-! SUPPORT. One lemma for each shared operation that says which blocks it can change and, where it has
cases, what they are; later proofs cite these and unfold no operation. -/

namespace Sys2Proof.Machine

/-! ### Lists -/

/-- What `takeFirst` takes was in the list, and what it leaves is the list less that one element. -/
theorem takeFirst_some {α β : Type} {f : α → Option β} {l : List α} {b : β} {rest : List α}
    (h : takeFirst f l = some (b, rest)) :
    ∃ a before after, l = before ++ a :: after ∧ rest = before ++ after ∧ f a = some b ∧
      ∀ c ∈ before, f c = none := by
  induction l generalizing b rest with
  | nil => simp [takeFirst] at h
  | cons x xs ih =>
    simp only [takeFirst] at h
    split at h
    · next b' hb =>
      simp only [Option.some.injEq, Prod.mk.injEq] at h
      exact ⟨x, [], xs, rfl, h.2.symm, by rw [hb, h.1], by simp⟩
    · next hx =>
      split at h
      · next b' rest' hr =>
        simp only [Option.some.injEq, Prod.mk.injEq] at h
        obtain ⟨a, before, after, h1, h2, h3, h4⟩ := ih hr
        refine ⟨a, x :: before, after, by rw [h1]; rfl, by rw [← h.2, h2]; rfl, by rw [h3, h.1], ?_⟩
        intro c hc
        rcases List.mem_cons.mp hc with rfl | hc
        · exact hx
        · exact h4 c hc
      · exact absurd h (by simp)

/-- `takeFirst` never lengthens what it leaves. -/
theorem takeFirst_length {α β : Type} {f : α → Option β} {l : List α} {b : β} {rest : List α}
    (h : takeFirst f l = some (b, rest)) : rest.length + 1 = l.length := by
  obtain ⟨a, before, after, rfl, rfl, -, -⟩ := takeFirst_some h
  simp [Nat.add_assoc]

/-! ### Sending on the line -/

/-- Either the chosen frame's start cell went out, or nothing changed. -/
theorem trySend_cases (s : State) :
    (s.working = true ∧ s.line.state = .idle ∧ s.line.flight = none ∧
      ∃ k f, s.line.choose = some (k, f) ∧ trySend s = { s with line := s.line.start k f }) ∨
    trySend s = s := by
  unfold trySend
  split
  · next h =>
    split
    · next k f hc => exact .inl ⟨h.1, h.2.1, h.2.2, k, f, hc, rfl⟩
    · exact .inr rfl
  · exact .inr rfl

theorem trySend_only (s : State) : ∃ l, trySend s = { s with line := l } := by
  rcases trySend_cases s with ⟨-, -, -, k, f, -, h⟩ | h
  · exact ⟨_, h⟩
  · exact ⟨s.line, h⟩

theorem loseFlight_only (s : State) (f : Flight) :
    ∃ l e, loseFlight s f = { s with line := l, election := e } := by
  unfold loseFlight
  split <;> exact ⟨_, _, rfl⟩

/-- A loss at a cell changes the line and the election alone. -/
theorem loseSending_only (s : State) (f : Flight) (sent : Bool) :
    ∃ l e, loseSending s f sent = { s with line := l, election := e } := by
  obtain ⟨l, e, h⟩ := loseFlight_only
    { s with line := { s.line with counters := if sent then s.line.counters.countLoss else s.line.counters.countReadbackFault } } f
  exact ⟨l, e, by simpa [loseSending] using h⟩

/-- A commanded loss changes the line and the election alone. -/
theorem loseWhere_only (s : State) (cell : Nat) (sent : Bool) :
    ∃ l e, loseWhere s cell sent = { s with line := l, election := e } := by
  unfold loseWhere
  split
  · split
    · split
      · split
        · obtain ⟨l, e, h⟩ := loseSending_only _ _ _
          exact ⟨l, e, h⟩
        · exact ⟨s.line, s.election, rfl⟩
      · split
        · exact loseSending_only _ _ _
        · exact ⟨s.line, s.election, rfl⟩
    · exact ⟨s.line, s.election, rfl⟩
  · exact ⟨s.line, s.election, rfl⟩

/-- The loss to a stuck line changes the line and the election alone. -/
theorem loseToStuck_only (s : State) : ∃ l e, loseToStuck s = { s with line := l, election := e } := by
  unfold loseToStuck
  split
  · exact loseSending_only _ _ _
  · exact ⟨s.line, s.election, rfl⟩

theorem withdrawFrame_only (s : State) (x : Port) :
    ∃ l e, withdrawFrame s x = { s with line := l, election := e } := by
  simp only [withdrawFrame]
  split
  · split <;> exact ⟨_, _, rfl⟩
  · exact ⟨_, _, rfl⟩

/-- After a withdrawal the lane slot of the port is empty. -/
theorem withdrawFrame_slot (s : State) (x : Port) : (withdrawFrame s x).line.slots.get (.lane x) = none := by
  simp only [withdrawFrame]
  split
  · split
    · simp
    · simp
  · simp

/-! ### The moves of a port -/

theorem standDown_only (s : State) (x : Port) (l : LaneState) :
    ∃ e p, standDown s x l = { s with election := e, ports := p } := ⟨_, _, rfl⟩

@[simp] theorem elect_standDown_self (s : State) (x : Port) (l : LaneState) :
    (standDown s x l).elect x = (s.elect x).moveTo l := by
  simp [standDown]

@[simp] theorem port_standDown_self (s : State) (x : Port) (l : LaneState) :
    (standDown s x l).port x = (s.port x).cutOff := by
  simp [standDown]

theorem withdrawClaim_only (s : State) (x : Port) (l : LaneState) :
    ∃ n e, withdrawClaim s x l = { s with line := n, election := e } := by
  obtain ⟨n, e, h⟩ := withdrawFrame_only s x
  exact ⟨n, _, by rw [withdrawClaim, h]; rfl⟩

@[simp] theorem lane_withdrawClaim_self (s : State) (x : Port) (l : LaneState) :
    ((withdrawClaim s x l).elect x).lane = l := by
  simp [withdrawClaim, PortElection.moveTo]

theorem enterBackoff_only (s : State) (x : Port) :
    ∃ e p, enterBackoff s x = { s with election := e, ports := p } := ⟨_, _, rfl⟩

theorem placeLane_only (s : State) (x : Port) (f : Station → Fin 16 → Frame) :
    ∃ l, placeLane s x f = { s with line := l } := by
  unfold placeLane
  split
  · exact ⟨_, rfl⟩
  · exact ⟨s.line, rfl⟩

theorem placeRelease_only (s : State) (x : Port) (r : ReleaseReason) :
    ∃ l, placeRelease s x r = { s with line := l } := placeLane_only s x _

theorem markAndFinish_only (s : State) (x : Port) (m : FinishMark) :
    ∃ e p, markAndFinish s x m = { s with election := e, ports := p } := ⟨_, _, rfl⟩

theorem admit_only (s : State) (x : Port) : ∃ e p, admitPort s x = { s with election := e, ports := p } :=
  ⟨_, _, rfl⟩

theorem refreshConflicts_only (s : State) : ∃ e, refreshConflicts s = { s with election := e } := ⟨_, rfl⟩

@[simp] theorem lane_refreshConflicts (s : State) (x : Port) :
    ((refreshConflicts s).elect x).lane = (s.elect x).lane := by
  simp only [refreshConflicts, State.elect, Quad.get_map]
  split <;> rfl

theorem updRecord_only (s : State) (k : Station) (lane : Fin 16) (f : ServiceRecord → ServiceRecord) :
    ∃ e, s.updRecord k lane f = { s with election := e } := ⟨_, rfl⟩

theorem evaluate_only (s : State) (x : Port) :
    ∃ l e, evaluate s x = { s with line := l, election := e } := by
  unfold evaluate
  split
  · split
    · dsimp only
      split
      · split <;> exact ⟨_, _, rfl⟩
      · exact ⟨_, _, rfl⟩
    · exact ⟨s.line, s.election, rfl⟩
  · exact ⟨s.line, s.election, rfl⟩

theorem electFold_only {f : State → Port → State}
    (hf : ∀ s x, ∃ l e, f s x = { s with line := l, election := e }) (xs : List Port) (s : State) :
    ∃ l e, xs.foldl f s = { s with line := l, election := e } := by
  induction xs generalizing s with
  | nil => exact ⟨s.line, s.election, rfl⟩
  | cons x xs ih =>
    obtain ⟨l, e, h⟩ := hf s x
    obtain ⟨l', e', h'⟩ := ih (f s x)
    exact ⟨l', e', by rw [List.foldl_cons, h', h]⟩

theorem electOnPublication_only (s : State) :
    ∃ l e, electOnPublication s = { s with line := l, election := e } := by
  unfold electOnPublication
  split
  · exact ⟨s.line, s.election, rfl⟩
  · obtain ⟨l, e, h⟩ := electFold_only evaluate_only four s
    exact ⟨_, e, by dsimp only; rw [h]; rfl⟩

theorem reportReleased_only (s : State) :
    ∃ e l, reportReleased s = { s with election := e, loader := l } := by
  unfold reportReleased
  split
  · exact ⟨_, _, rfl⟩
  · exact ⟨s.election, s.loader, rfl⟩

/-! ### Paths -/

@[simp] theorem PathUnit.state_startWork (u : PathUnit) (st : PathState) (limit : Nat) :
    (u.startWork st limit).state = st := rfl

@[simp] theorem PathUnit.work_startWork (u : PathUnit) (st : PathState) (limit : Nat) :
    (u.startWork st limit).work = u.work + 1 := rfl

@[simp] theorem PathUnit.timer_startWork (u : PathUnit) (st : PathState) (limit : Nat) :
    (u.startWork st limit).timer = some limit := rfl

theorem enterGain_only (s : State) (p : Path) : ∃ q, enterGain s p = { s with paths := q } := ⟨_, rfl⟩

theorem enterTracking_only (s : State) (p : Path) (g : Signalling) (m : Measured) :
    ∃ q, enterTracking s p g m = { s with paths := q } := ⟨_, rfl⟩

theorem enterHold_only (s : State) (p : Path) : ∃ q, enterHold s p = { s with paths := q } := ⟨_, rfl⟩

theorem takeFailure_only (s : State) (p : Path) (reason : Failure) :
    ∃ q, takeFailure s p reason = { s with paths := q } := by
  simp only [takeFailure]
  split <;> split <;> exact ⟨_, rfl⟩

@[simp] theorem path_enterGain_of_ne (s : State) {p j : Path} (h : j ≠ p) :
    (enterGain s p).path j = s.path j := State.path_updPath_of_ne _ _ h

/-- A failure leaves every other path alone. -/
theorem path_takeFailure_of_ne (s : State) {p j : Path} (reason : Failure) (h : j ≠ p) :
    (takeFailure s p reason).path j = s.path j := by
  simp only [takeFailure]
  split <;> split <;>
    simp [State.sendMerge, State.path_updPath_of_ne _ _ h, path_enterGain_of_ne _ h]

theorem deliver_only (s : State) (p : Path) (r : Record) :
    ∃ q m, deliver s p r = { s with paths := q, monitor := m } := by
  simp only [deliver, State.offerFrom]
  split <;> split <;> exact ⟨_, _, rfl⟩

theorem takeOrder_only {β : Type} {s t : State} {p : Path} {f : PathOrder → Option β} {b : β}
    (h : s.takeOrder p f = some (b, t)) :
    ∃ rest, takeFirst f (s.path p).inbox = some (b, rest) ∧
      t = s.updPath p fun u => { u with inbox := rest } := by
  simp only [State.takeOrder, Option.map_eq_some_iff] at h
  obtain ⟨⟨b', rest⟩, h1, h2⟩ := h
  simp only [Prod.mk.injEq] at h2
  exact ⟨rest, by rw [h1, h2.1], h2.2.symm⟩

/-! ### Merge -/

theorem toPort_only (s : State) (x : Port) (st : Status) (q : Packet) :
    ∃ p, s.toPort x st q = { s with ports := p } := by
  unfold State.toPort
  split
  · exact ⟨_, rfl⟩
  · exact ⟨s.ports, rfl⟩

theorem output_only (s : State) (c : ServiceConfig) (copy : Copy) :
    ∃ p, s.output c copy = { s with ports := p } := by
  unfold State.output
  split
  · exact toPort_only s _ _ _
  · exact ⟨s.ports, rfl⟩

theorem handToChecker_only (s : State) (k : SlotNo) (i : CheckInputs) (chosen : Path) :
    ∃ f, s.handToChecker k i chosen = { s with fitness := f } := by
  unfold State.handToChecker
  split
  · exact ⟨_, rfl⟩
  · exact ⟨s.fitness, rfl⟩

theorem resolveHead_only (s : State) (k : SlotNo) (forced : Bool) :
    ∃ f p v, resolveHead s k forced = { s with fitness := f, ports := p, services := v } := by
  simp only [resolveHead]
  split
  · split
    · next c e rest hc hw _ p copy hs =>
      obtain ⟨f, hf⟩ := handToChecker_only s k
        ⟨statusesOf e.copies, c.tieMode, c.priority, (s.service k).lastSelected⟩ p
      obtain ⟨q, hq⟩ := output_only { s with fitness := f } c copy
      exact ⟨f, q, _, by rw [hf, hq]; rfl⟩
    · exact ⟨s.fitness, s.ports, _, rfl⟩
  · exact ⟨s.fitness, s.ports, s.services, rfl⟩

theorem cascade_only (n : Nat) (s : State) (k : SlotNo) :
    ∃ f p v, cascade n s k = { s with fitness := f, ports := p, services := v } := by
  induction n generalizing s with
  | zero => exact ⟨s.fitness, s.ports, s.services, rfl⟩
  | succ n ih =>
    simp only [cascade]
    split
    · split
      · obtain ⟨f, p, v, h⟩ := resolveHead_only s k false
        obtain ⟨f', p', v', h'⟩ := ih (resolveHead s k false)
        exact ⟨f', p', v', by rw [h', h]⟩
      · exact ⟨s.fitness, s.ports, s.services, rfl⟩
    · exact ⟨s.fitness, s.ports, s.services, rfl⟩

@[simp] theorem cascading_cascade (n : Nat) (s : State) (k : SlotNo) :
    (cascade n s k).cascading = s.cascading := by
  obtain ⟨f, p, v, h⟩ := cascade_only n s k
  rw [h]

/-- The head test leaves a cascade off only where the cut falls before a head that is ready. -/
theorem testHead_cases (s : State) (k : SlotNo) (cut : Option Nat) (rest : AfterCascade) :
    ∃ f p v, let t : State := { s with fitness := f, ports := p, services := v }
      (testHead s k cut rest = t) ∨
        (cut.isSome = true ∧ t.headReady k = true ∧
          testHead s k cut rest = { t with cascading := some ⟨k, rest⟩ }) := by
  obtain ⟨f, p, v, h⟩ := cascade_only (cut.getD (s.service k).window.length) s k
  refine ⟨f, p, v, ?_⟩
  simp only [testHead, h]
  split
  · next hc => exact .inr ⟨hc.1, hc.2, rfl⟩
  · exact .inl rfl

theorem testHead_only (s : State) (k : SlotNo) (cut : Option Nat) (rest : AfterCascade) :
    ∃ f p v a, testHead s k cut rest = { s with fitness := f, ports := p, services := v, cascading := a } := by
  obtain ⟨f, p, v, h | ⟨-, -, h⟩⟩ := testHead_cases s k cut rest
  · exact ⟨f, p, v, s.cascading, h⟩
  · exact ⟨f, p, v, some ⟨k, rest⟩, h⟩

/-- Without a cut the whole cascade runs. -/
@[simp] theorem cascading_testHead_none (s : State) (k : SlotNo) (rest : AfterCascade) :
    (testHead s k none rest).cascading = s.cascading := by
  simp [testHead]

theorem review_only (s : State) (k : SlotNo) :
    ∃ v a b, review s k = { s with services := v, portSignals := a, electionSignals := b } := by
  simp only [review]
  split
  · exact ⟨s.services, s.portSignals, s.electionSignals, rfl⟩
  · split <;> exact ⟨_, _, _, rfl⟩

@[simp] theorem cascading_review (s : State) (k : SlotNo) : (review s k).cascading = s.cascading := by
  obtain ⟨v, a, b, h⟩ := review_only s k
  rw [h]

theorem reviewAtEnd_only (s : State) (k : SlotNo) :
    ∃ v a b, reviewAtEnd s k = { s with services := v, portSignals := a, electionSignals := b } := by
  unfold reviewAtEnd
  split
  · exact ⟨s.services, s.portSignals, s.electionSignals, rfl⟩
  · exact review_only s k

theorem shutService_only (s : State) (k : SlotNo) :
    ∃ v a b, shutService s k = { s with services := v, portSignals := a, electionSignals := b } := by
  unfold shutService
  split
  · dsimp only
    split <;> exact ⟨_, _, _, rfl⟩
  · exact ⟨s.services, s.portSignals, s.electionSignals, rfl⟩

theorem stopParked_only (s : State) (p : Path) :
    ∃ q a, stopParked s p = { s with paths := q, answers := a } := ⟨_, _, rfl⟩

theorem lateCopy_only (s : State) (k : SlotNo) (p : Path) :
    ∃ v q, lateCopy s k p = { s with services := v, paths := q } := ⟨_, _, rfl⟩

@[simp] theorem cascading_openAfterForce_none (s : State) (k : SlotNo) (c : ServiceConfig) (n : Nat) (r : Record) :
    (openAfterForce s k c n r none).cascading = s.cascading := by
  simp only [openAfterForce, openEntry]
  split
  · obtain ⟨v, q, h⟩ := lateCopy_only s k r.path
    rw [h]
  · split <;> simp

theorem disregardSent_only (s : State) (p : Path) : ∃ q, s.disregardSent p = { s with paths := q } := ⟨_, rfl⟩

/-- Nothing that a path has sent waits any more once it is disregarded. -/
@[simp] theorem outbox_disregardSent_self (s : State) (p : Path) : ((s.disregardSent p).path p).outbox = [] := by
  simp [State.disregardSent]

theorem path_disregardSent_of_ne (s : State) {p q : Path} (h : q ≠ p) : (s.disregardSent p).path q = s.path q :=
  State.path_updPath_of_ne s _ h

/-- Nothing to finish: nothing changes. -/
@[simp] theorem finishCascade_of_none {s : State} (h : s.cascading = none) : finishCascade s = s := by
  simp [finishCascade, h]

/-- No cascade is left off by the finishing of one. -/
@[simp] theorem cascading_finishCascade (s : State) : (finishCascade s).cascading = none := by
  unfold finishCascade
  split
  · next h => exact h
  · dsimp only
    split
    · simp
    · simp
    · simp
    · obtain ⟨q, a, h⟩ := stopParked_only (review _ _) _
      rw [h]
      simp

@[simp] theorem cascading_mergeAt (s : State) (m : Moment) : (s.mergeAt m).cascading = none := by
  simp [State.mergeAt]

theorem takeMessage_only {s t : State} {p : Path} {m : PathMessage} (h : s.takeMessage p = some (m, t)) :
    ∃ rest, (s.path p).outbox = m :: rest ∧ t = s.updPath p fun u => { u with outbox := rest } := by
  unfold State.takeMessage at h
  split at h
  · next m' rest hm =>
    simp only [Option.some.injEq, Prod.mk.injEq] at h
    exact ⟨rest, by rw [hm, h.1], h.2.symm⟩
  · exact absurd h (by simp)

/-! ### Frames taken -/

/-- A frame is taken only by a working station, from the front of what was heard. -/
theorem takeHeard_only {s t : State} {f : Fin 16 → Bool} {fr : Frame} (h : s.takeHeard f = some (fr, t)) :
    s.working = true ∧ f fr.kind = true ∧
      ∃ rest, s.line.heard = fr :: rest ∧ t = { s with line := { s.line with heard := rest } } := by
  unfold State.takeHeard at h
  split at h
  · next hw =>
    split at h
    · next g rest hh =>
      split at h
      · next hk =>
        simp only [Option.some.injEq, Prod.mk.injEq] at h
        obtain ⟨rfl, rfl⟩ := h
        exact ⟨hw, hk, rest, hh, rfl⟩
      · exact absurd h (by simp)
    · exact absurd h (by simp)
  · exact absurd h (by simp)

/-- The start at IDLE changes the line alone, and may use a draw. -/
theorem startAtIdle_only (s : State) : ∃ l n, startAtIdle s = { s with line := l, freeDraws := n } := by
  unfold startAtIdle
  split
  · dsimp only
    split
    · obtain ⟨l, h⟩ := trySend_only { s with freeDraws := s.freeDraws + 1 }
      exact ⟨l, _, h⟩
    · exact ⟨s.line, _, rfl⟩
  · obtain ⟨l, h⟩ := trySend_only s
    exact ⟨l, s.freeDraws, h⟩

/-! ### Publication -/

theorem computeFigures_only (s : State) : ∃ i, computeFigures s = { s with interval := i } := by
  unfold computeFigures
  split
  · split
    · exact ⟨_, rfl⟩
    · exact ⟨s.interval, rfl⟩
  · exact ⟨s.interval, rfl⟩

theorem publish_only (s : State) : ∃ i, publish s = { s with interval := i } := by
  unfold publish
  split
  · exact ⟨_, rfl⟩
  · exact ⟨s.interval, rfl⟩

theorem rateUpdatePort_only (s : State) (x : Port) : ∃ p, rateUpdatePort s x = { s with ports := p } := by
  unfold rateUpdatePort
  split
  · exact ⟨_, rfl⟩
  · exact ⟨s.ports, rfl⟩

theorem rateUpdates_only (xs : List Port) (s : State) : ∃ p, xs.foldl rateUpdatePort s = { s with ports := p } := by
  induction xs generalizing s with
  | nil => exact ⟨s.ports, rfl⟩
  | cons x xs ih =>
    obtain ⟨p, h⟩ := rateUpdatePort_only s x
    obtain ⟨q, h'⟩ := ih (rateUpdatePort s x)
    exact ⟨q, by rw [List.foldl_cons, h', h]⟩

theorem publishLatched_only (s : State) :
    ∃ i p l e, publishLatched s = { s with interval := i, ports := p, line := l, election := e } := by
  unfold publishLatched
  split
  · obtain ⟨i, h1⟩ := computeFigures_only s
    obtain ⟨j, h2⟩ := publish_only (computeFigures s)
    obtain ⟨p, h3⟩ := rateUpdates_only four (publish (computeFigures s))
    obtain ⟨l, e, h4⟩ := electOnPublication_only (four.foldl rateUpdatePort (publish (computeFigures s)))
    exact ⟨j, p, l, e, by rw [h4, h3, h2, h1]⟩
  · exact ⟨s.interval, s.ports, s.line, s.election, rfl⟩

/-! ### Restarts -/

/-- A reset keeps the queue, the time base and the draw counter, and writes the reset cause record. -/
@[simp] theorem pending_resetBlocks (s : State) (c : Cause) (n : Nat) :
    (resetBlocks s c n).pending = s.pending := rfl

@[simp] theorem pending_restart (s : State) (c : Cause) (b : BootInputs) :
    (restart s c b).pending = s.pending := rfl

@[simp] theorem cause_restart (s : State) (c : Cause) (b : BootInputs) :
    (restart s c b).loader.cause = c := rfl

@[simp] theorem restartCount_restart (s : State) (c : Cause) (b : BootInputs) :
    (restart s c b).loader.restartCount = inc16 s.loader.restartCount := rfl

theorem beginLoading_only (s : State) (b : BootInputs) :
    ∃ l t, beginLoading s b = { s with loader := l, thermal := t } := ⟨_, _, rfl⟩

/-! ### Saturation -/

theorem satAdd_le (limit x d : Nat) : satAdd limit x d ≤ limit := Nat.min_le_right _ _

theorem inc16_le (x : Nat) : inc16 x ≤ 65535 := satAdd_le _ _ _

theorem inc32_le (x : Nat) : inc32 x ≤ 4294967295 := satAdd_le _ _ _

/-- Below its maximum a counter rises by one. -/
theorem inc16_of_lt {x : Nat} (h : x < 65535) : inc16 x = x + 1 := by
  unfold inc16 satAdd; omega

end Sys2Proof.Machine
end

