-- ==== Sys2Proof/WellFormed.lean ====
section
/-! DEFINITION. Well-formed commands: what the types of the operands leave unsaid. -/

namespace Sys2Proof

/-- A packet is 188 bytes, four of them in its header (spec 00, 4 (6)). -/
def Packet.wf (q : Packet) : Bool := q.body.length == 184

/-- The cells of a frame after its start cell: 1 to 285, for at most 32 body bytes (R105). -/
def cellWf (cell : Nat) : Bool := decide (1 ≤ cell) && decide (cell ≤ 285)

/-- No taker is named twice, and the figures are computed after the latch (R65, R76). -/
def orderWf (order : List Taker) : Bool :=
  decide order.Nodup && (!order.contains .figures || (order.takeWhile (· != .figures)).contains .latch)

/-- Well-formedness of a command's operands. -/
def Instr.wf : Instr → Bool
  | .packetCompleted _ _ packet => packet.wf
  | .arbitrationLoss cell => cellWf cell
  | .readbackFault cell => cellWf cell
  | .intervalEnd order _ _ => orderWf order.takers
  | .powerOnReset .. | .endOfLoading | .gainSettled .. | .modeDetected .. | .timingSettled .. => true
  | .locked .. | .acquisitionTimerExpiry .. | .frameStart .. | .lossOfFrameSync .. | .regained .. => true
  | .pathFrameEnd .. | .stopOrder .. | .unparkOrder .. | .modeMismatchOrder .. | .refusalNotice .. => true
  | .copyArrival .. | .entryExpiry .. | .trackingNotice .. | .leavingNotice .. | .parkRequest .. => true
  | .unparkRequest | .parkAcknowledgement | .parkRefusal | .unparkAcknowledgement | .publication => true
  | .dueEvent .. | .portServiceStateSignal .. | .packetSeen .. | .activityTimerExpiry .. => true
  | .readbackComparison .. | .packetEnd .. | .finishedNotice .. | .contentionNotice .. => true
  | .electionServiceStateSignal .. | .laneActivitySignal .. | .settleTimerExpiry .. => true
  | .yieldWaitExpiry .. | .holdTimerExpiry .. | .lineIdle | .lineStuck | .frameLeavesLine => true
  | .announceFrame | .claimFrame | .releaseFrame | .contentionFrame | .queryFrame | .restartFrame => true
  | .monitorFrame | .reportFrame | .undefinedKindFrame | .releasedReport .. => true
  | .releaseLimitExpiry .. | .monitorPacketEnd | .fallingEdge .. | .resetPinRelease .. => true

end Sys2Proof
end

