-- ==== Sys2Proof/Tests/Slice0.lean ====
section
/-! SUPPORT. Small tests, each about one command or one operation, with expected results taken from the
worked cases and tables of spec/ or worked out from its rules by hand; and for each statement with hypotheses
a named theorem that shows a state and operands that meet them. -/

namespace Sys2Proof.Tests
open Sys2Proof.Machine

set_option Elab.async false

/-! ### Small states -/

/-- The state after a command; every command answers a next state. -/
def after (c : Instr) (s : State) : State :=
  match exec c s with
  | .next t => t
  | _ => s

/-- S0 merges P0 and P1 for port 0 on lane 4, S1 has P2 for port 1 on lane 5; P3 serves nothing. -/
def conf : Config where
  tw := 105
  candidates :=
    ⟨[⟨.a, 522000, .mhz8, some 4107⟩, ⟨.b, 538000, .mhz8, none⟩], [⟨.b, 522000, .mhz8, some 4107⟩],
      [⟨.d, 538000, .mhz8, some 4210⟩], []⟩
  services :=
    ⟨some ⟨4107, ⟨true, true, false, false⟩, ⟨3, 1, 0, 0⟩, .sticky, 16, some 0⟩,
      some ⟨4210, ⟨false, false, true, false⟩, ⟨0, 0, 2, 0⟩, .priority, 40, some 1⟩, none, none⟩
  ports := ⟨some ⟨0, 4, 64, .null, 500⟩, some ⟨1, 5, 32, .mark, 0⟩, none, none⟩

/-- Station 2, started, FIT, its line IDLE, no path tracking. -/
def up : State :=
  { State.reset with
    loader := { LoaderUnit.reset with phase := .running, stationNumber := 2 }
    config := conf
    services :=
      ⟨{ Service.reset with contributors := ⟨true, true, false, false⟩ },
        { Service.reset with contributors := ⟨false, false, true, false⟩ }, .reset, .reset⟩
    ports :=
      ⟨{ PortUnit.reset with sensing := true, activityTimer := some 5 },
        { PortUnit.reset with sensing := true, activityTimer := some 5 }, .reset, .reset⟩
    interval := { IntervalUnit.reset with running := true }
    line := { LineUnit.reset with state := .idle }
    fitness := { FitnessUnit.reset with state := .fit, listenCount := 3, underCheck := some 0 } }

/-- The same station in SHUTDOWN. -/
def shut : State := { up with thermal := { up.thermal with shutdown := true } }

/-- The same station with its line BUSY. -/
def busy : State := { up with line := { up.line with state := .busy } }

/-- In the release wait of a line restart. -/
def releasing : State :=
  { up with
    loader := { up.loader with releasing := true, releaseLimit := some 20, releasedReport := true }
    election := { up.election with restarting := true } }

def onPath (f : PathUnit → PathUnit) : State := up.updPath 0 f
def onPort (f : PortUnit → PortUnit) : State := up.updPort 0 f
def onElect (f : PortElection → PortElection) : State := up.updElect 0 f

/-- A packet of identifier 256 with continuity count 7. -/
def pkt : Packet := ⟨⟨0x47#8, false, 0, 256#13, 7#4⟩, List.replicate 184 0⟩

/-- A frame start that signals N = 6048, superframe 12 and frame 2 of the multiplex 4107. -/
def sig : Signalling := ⟨.long, .eighth, .twoThirds, 6048, 4107, 12, 2⟩

def read : FrameStartRead := ⟨true, true, some sig, ⟨283, 58, -120⟩⟩

/-- P0 in TRACKING on `sig`, at the frame's first packet. -/
def tracking : State :=
  onPath fun u =>
    { u with
      state := .tracking
      stay := 1
      measurements := some ⟨283, 58, -120⟩
      decoded := some ⟨.long, .eighth, .twoThirds, 6048, 4107⟩
      counter := some ⟨12, 2, 0⟩ }

/-- A copy of P0 on its way to S0, which P0 alone tracks. -/
def arriving : State :=
  (onPath fun u => { u with outbox := [.record ⟨0, ⟨12, 2, 9⟩, 6048, .corrected 2, pkt⟩] }).updService 0
    fun v => { v with state := .live, tracking := ⟨true, false, false, false⟩ }

/-- The same copy while P1 tracks as well. -/
def shared : State := arriving.updService 0 fun v => { v with tracking := ⟨true, true, false, false⟩ }

def copy (st : Status) : Copy := ⟨st, pkt⟩

/-- An entry of S0 that holds a copy of P1 and awaits P0 and P1, opened at 0 with W = 16 ms. -/
def entryAt (q : Position) : Entry :=
  ⟨q, 0, 16000, ⟨true, true, false, false⟩, ⟨none, some (copy .clean), none, none⟩⟩

/-- `shared` with one entry in the window of S0. -/
def waiting (q : Position) : State :=
  shared.updService 0 fun v => { v with window := [entryAt q], refN := some 6048 }

/-- A frame heard from station 5. -/
def heardFrom (kind : Fin 16) (body : List Byte) : State :=
  { up with line := { up.line with state := .busy, heard := [⟨kind, 5, body⟩] } }

/-- A frame heard that names station 2, this one. -/
def heardOwn (kind : Fin 16) (body : List Byte) : State :=
  { up with line := { up.line with state := .busy, heard := [⟨kind, 2, body⟩] } }

/-- A snapshot whose S0 has the counts of the worked figure: Mer 283, P 9250, U 0, C 2313. -/
def snap : Snapshot :=
  { Snapshot.reset with
    mers := ⟨some 283, some 210, none, none⟩
    services :=
      ⟨some
          ⟨{ ServiceCounters.reset with resolved := 9250, correctedBytes := 2313, darkMark := false },
            ⟨true, true, false, false⟩⟩,
        some ⟨.reset, .fill false⟩, none, none⟩ }

/-- A working snapshot awaits publication. -/
def latched (w : Snapshot) (figured : Bool) (s : State) : State :=
  { s with interval := { s.interval with latched := true, working := some w, figured := figured } }

/-- An own frame in flight from a slot, its end come or not. -/
def flying (k : TxSlot) (f : Frame) (ended : Bool) : State :=
  { up with
    line := { up.line with state := .busy, reception := .collecting [false], flight := some ⟨k, ⟨f, 0⟩, false, ended⟩ } }

/-! ### Well-formed commands: one ill-formed term for each check -/

theorem test_wf_refuses_short_packet : (Instr.packetCompleted 0 .clean ⟨pkt.header, []⟩).wf = false := by decide
theorem test_wf_takes_packet : (Instr.packetCompleted 0 .clean pkt).wf = true := by decide +kernel
theorem test_wf_refuses_start_cell : (Instr.arbitrationLoss 0).wf = false ∧ (Instr.readbackFault 0).wf = false := by
  decide
theorem test_wf_refuses_cell_past_frame :
    (Instr.arbitrationLoss 286).wf = false ∧ (Instr.readbackFault 285).wf = true := by decide

/-- What a load shows in these tests: a silent memory, station 6, 20 °C. -/
def silentBoot : BootInputs where
  straps := 6
  sensor := 20
  image :=
    { identity := BitVec.allOnes 72
      station := 0
      candidates := .fill (.fill 0)
      services := .fill 0 }

theorem test_wf_refuses_taker_twice :
    (Instr.intervalEnd ⟨[.latch, .thermal, .latch], false, false, false⟩ 20 silentBoot).wf = false := by decide
theorem test_wf_refuses_figures_before_latch :
    (Instr.intervalEnd ⟨[.figures, .latch], false, false, false⟩ 20 silentBoot).wf = false ∧
      (Instr.intervalEnd ⟨[.latch, .fitness, .figures], false, false, false⟩ 20 silentBoot).wf = true := by decide

/-! ### Worked cases of the manual -/

/-- Table 6-2: the check register of RESTART to station 3, after kind, station and length. -/
theorem test_crc_of_restart_to_station_3 :
    crc [false, true, true, false] = 0x6ED9#16 ∧
      crc [false, true, true, false, false, true, true] = 0x76C8#16 ∧
      crc (Frame.covered ⟨6, 3, []⟩) = 0x719C#16 := by decide +kernel

/-- Section 6.2.1: the 30 cells of that frame. -/
theorem test_cells_of_restart_to_station_3 :
    Frame.cells ⟨6, 3, []⟩ =
      (false :: [false, true, true, false] ++ [false, true, true] ++ [false, false, false, false, false, false] ++
        [false, true, true, true] ++ [false, false, false, true] ++ [true, false, false, true] ++
        [true, true, false, false]) := by
  decide +kernel

/-- Table 4-3. -/
theorem test_figure_case_1 : serviceFigure true true 283 9250 0 2313 = 886 := by decide

/-- Table 4-4: U = 37 of P = 9240. -/
theorem test_figure_case_2 : serviceFigure true true 191 9240 37 41580 = 582 := by decide

/-- Table 5-2: from R_est 18,500, A 18,520 and F 35 of D 64. -/
theorem test_rate_update_near_target :
    newEstimate (some 18500) 18520 35 64 false = some 18502 ∧ outputRate 18502 35 64 .live = 18514 := by
  decide

/-- Truncation toward zero, by the note to Table 5-2. -/
theorem test_rate_falls_by_truncation : newEstimate (some 18500) 18480 35 64 false = some 18498 := by decide

/-- Table 2-2: the counter at a frame end and at the wrap, N = 6. -/
theorem test_position_advances :
    Position.next 6 ⟨17, 3, 4⟩ = ⟨17, 3, 5⟩ ∧ Position.next 6 ⟨17, 3, 5⟩ = ⟨18, 0, 0⟩ ∧
      Position.next 6 ⟨255, 3, 5⟩ = ⟨0, 0, 0⟩ ∧ Position.next 6 ⟨0, 0, 5⟩ = ⟨0, 1, 0⟩ := by
  decide

/-- Table 2-4, N = 6: ordinals 0, 6143, 430, 3501 and 3502. -/
theorem test_positions_compare :
    newer 6 ⟨0, 0, 0⟩ ⟨255, 3, 5⟩ = true ∧ newer 6 ⟨255, 3, 5⟩ ⟨0, 0, 0⟩ = false ∧
      samePosition 6 ⟨17, 3, 4⟩ ⟨17, 3, 4⟩ = true ∧ newer 6 ⟨145, 3, 3⟩ ⟨17, 3, 4⟩ = true ∧
      newer 6 ⟨145, 3, 4⟩ ⟨17, 3, 4⟩ = false ∧ newer 6 ⟨17, 3, 4⟩ ⟨145, 3, 4⟩ = false := by
  decide

/-- R175 by hand: data byte 0 = 80 hex is bit number 3 alone, so checks 1 and 2 and the parity bit are set.
The all-ones block fails. -/
theorem test_code_word_reads_good :
    decodeBits 0 = .good ∧ decodeBits ((1#72 <<< 71) ||| 0x83#72) = .good ∧
      decodeBits (BitVec.allOnes 72) = .failed := by
  decide +kernel


/-- And the same word with its first bit read wrong: its syndrome is number 3, and its data bytes are the word's. -/
theorem test_corrected_block_reads_its_data :
    syndrome 0x83#72 = 3 ∧ readData 0x83#72 = some (1#64 <<< 63) ∧ readData (BitVec.allOnes 72) = none := by
  decide +kernel

/-- R177: a block read with one bit wrong stands in the corrected list, one with two in the failed list. -/
theorem test_blocks_are_listed_by_number :
    let i : Image := { silentBoot.image with identity := 0, candidates := (Quad.fill (.fill 0)).set 0 ⟨0, 4, 0, 0⟩ }
    let j : Image := { i with candidates := i.candidates.set 1 ⟨3, 0, 0, 0⟩ }
    j.decodedAs .corrected = [3] ∧ j.decodedAs .failed = [6] ∧ j.silent = false ∧ silentBoot.image.silent = true := by
  decide +kernel
/-! ### One command each -/

/-- R184: held while the pin is asserted, else in LOADING with the straps read. -/
theorem test_power_on_reset :
    (after (.powerOnReset true silentBoot) up).loader.phase = .held ∧
      (after (.powerOnReset false silentBoot) up).loader.phase = .loading ∧
      (after (.powerOnReset false silentBoot) up).loader.stationNumber = 6 := by decide +kernel
theorem test_reset_pin_release :
    (after (.resetPinRelease silentBoot) State.reset).loader.phase = .loading ∧
      (after (.resetPinRelease silentBoot) State.reset).thermal.reading = 20 := by decide +kernel
/-- R176 (1): a silent memory leaves an UNCONFIGURED station with T_w 105 and block 0 failed. -/
theorem test_end_of_loading_silent :
    let t := after .endOfLoading (after (.powerOnReset false silentBoot) State.reset)
    t.fitness.state = .unconfigured ∧ t.config.tw = 105 ∧ t.loader.record.failed = [0] ∧
      t.fitness.faults.loadFailed = true ∧ t.interval.running = true := by decide +kernel
theorem test_gain_settled :
    ((after (.gainSettled ⟨0, 0⟩ 30) (onPath fun u => { u with state := .gain })).path 0).state = .mode ∧
      ((after (.gainSettled ⟨0, 0⟩ 29) (onPath fun u => { u with state := .gain })).path 0).state = .gain := by
  decide +kernel
theorem test_mode_detected :
    ((after (.modeDetected ⟨0, 0⟩ .short .quarter .half) (onPath fun u => { u with state := .mode })).path 0).timer =
      some 100 := by decide +kernel
theorem test_timing_settled :
    ((after (.timingSettled ⟨0, 0⟩) (onPath fun u => { u with state := .timing })).path 0).timer = some 400 := by
  decide +kernel
/-- R9, R23: the counter takes the signalled place with packet index 0. -/
theorem test_locked :
    ((after (.locked ⟨0, 0⟩ read) (onPath fun u => { u with state := .frame })).path 0).counter = some ⟨12, 2, 0⟩ ∧
      ((after (.locked ⟨0, 0⟩ read) (onPath fun u => { u with state := .frame })).path 0).state = .tracking := by
  decide +kernel
/-- R13: a second failure advances the candidate index and sets attempts to 0. -/
theorem test_acquisition_timer_expiry :
    let t := after (.acquisitionTimerExpiry ⟨0, 0⟩) (onPath fun u =>
      { u with state := .frame, timer := some 400, attempts := 1 })
    (t.path 0).candidateIndex = 1 ∧ (t.path 0).attempts = 0 ∧ (t.path 0).lastFailure = .noFrame ∧
      (t.path 0).state = .gain := by decide +kernel
/-- R2 (4): the expiry of GAIN that comes behind its completion, and the completion of a GAIN left since. -/
theorem test_stale_work_has_no_effect :
    let mode := after (.gainSettled ⟨0, 0⟩ 30) (onPath fun u => { u with state := .gain, timer := some 20 })
    let again := after (.acquisitionTimerExpiry ⟨0, 0⟩) (onPath fun u => { u with state := .gain, timer := some 20 })
    after (.acquisitionTimerExpiry ⟨0, 0⟩) mode = mode ∧ (again.path 0).state = .gain ∧
      after (.gainSettled ⟨0, 0⟩ 30) again = again ∧ ((after (.gainSettled ⟨0, 1⟩ 30) again).path 0).state = .mode := by
  decide +kernel
theorem test_packet_completed :
    ((after (.packetCompleted 0 (.corrected 2) pkt) tracking).path 0).counters.correctedBytes = 3 ∧
      ((after (.packetCompleted 0 (.corrected 2) pkt) tracking).path 0).counter = some ⟨12, 2, 1⟩ := by
  decide +kernel
/-- R10, R12: the 24th UNCORRECTABLE record in a row is delivered, and then the path enters HOLD. -/
theorem test_run_of_24_enters_hold :
    let t := after (.packetCompleted 0 .uncorrectable pkt) (tracking.updPath 0 fun u => { u with run := 23 })
    (t.path 0).state = .hold ∧ (t.path 0).counters.delivered = 1 ∧ (t.path 0).outbox.length = 2 := by
  decide +kernel
/-- Table 2-3, first row: a forward slip. -/
theorem test_frame_start_slips :
    let t := after (.frameStart 0 { sig with superframe := 13 }) tracking
    (t.path 0).counter = some ⟨13, 2, 0⟩ ∧ (t.path 0).counters.slips = 1 := by decide +kernel
theorem test_loss_of_frame_sync :
    ((after (.lossOfFrameSync 0) tracking).path 0).state = .hold ∧
      ((after (.lossOfFrameSync 0) tracking).path 0).outbox = [.leaving] := by decide +kernel
theorem test_regained :
    ((after (.regained ⟨0, 0⟩ { read with decoderLocked := false }) (onPath fun u =>
      { u with state := .hold, timer := some 300 })).path 0).state = .tracking := by decide +kernel
/-- R16: clamped to 0 to 400 and 20 to 100. -/
theorem test_path_frame_end_clamps :
    ((after (.pathFrameEnd 0 ⟨512, 12, 200000⟩) tracking).path 0).measurements = some ⟨400, 20, 100000⟩ := by
  decide +kernel
theorem test_stop_order :
    ((after (.stopOrder 0) (tracking.updPath 0 fun u => { u with inbox := [.stop] })).path 0).state = .parked := by
  decide +kernel
/-- A stop does not overtake the unpark sent before it (log 24). -/
theorem test_stop_waits_behind_unpark :
    let s := onPath fun u => { u with inbox := [.unpark, .stop] }
    after (.stopOrder 0) s = s ∧ ((after (.stopOrder 0) (after (.unparkOrder 0) s)).path 0).state = .parked := by
  decide +kernel
theorem test_unpark_order :
    ((after (.unparkOrder 0) (onPath fun u => { u with attempts := 1, inbox := [.unpark] })).path 0).state = .gain ∧
      ((after (.unparkOrder 0) (onPath fun u => { u with attempts := 1, inbox := [.unpark] })).path 0).attempts =
        0 := by decide +kernel
theorem test_mode_mismatch_order :
    ((after (.modeMismatchOrder 0) (tracking.updPath 0 fun u => { u with inbox := [.modeMismatch 1] })).path 0).lastFailure =
        .modeMismatch ∧
      ((after (.modeMismatchOrder 0) (tracking.updPath 0 fun u => { u with inbox := [.modeMismatch 0] })).path 0).state =
        .tracking := by decide +kernel
theorem test_refusal_notice :
    ((after (.refusalNotice 0) (onPath fun u => { u with inbox := [.refusal] })).path 0).counters.refused = 1 := by
  decide +kernel

/-- R54's worked case: front 12/2/6046, resolved position 12/3/3, N = 6048, so 4 positions are missing. -/
theorem test_copy_arrival_counts_missing :
    let t := after (.copyArrival 0 ⟨5, none⟩) (((onPath fun u =>
        { u with outbox := [.record ⟨0, ⟨12, 3, 3⟩, 6048, .clean, pkt⟩] })).updService 0 fun v =>
      { v with
        state := .live, tracking := ⟨true, false, false, false⟩, refN := some 6048, front := some ⟨12, 2, 6046⟩ })
    (t.service 0).counters.missing = 4 ∧ (t.service 0).front = some ⟨12, 3, 3⟩ ∧ (t.port 0).fifo = [pkt] := by
  decide +kernel
theorem test_copy_arrival_waits :
    ((after (.copyArrival 0 ⟨5, none⟩) shared).service 0).window.map Entry.expiryTime = [16005] := by decide +kernel
theorem test_entry_expiry :
    ((after (.entryExpiry 0 ⟨16000, none⟩) (waiting ⟨12, 2, 9⟩)).service 0).window = [] ∧
      ((after (.entryExpiry 0 ⟨15999, none⟩) (waiting ⟨12, 2, 9⟩)).service 0).window.length = 1 := by decide +kernel
/-- R37: the same copy from a path outside the tracking set leaves the service alone. -/
theorem test_copy_of_non_member_is_disregarded :
    let t := after (.copyArrival 0 ⟨5, none⟩) (arriving.updService 0 fun v => { v with tracking := .fill false })
    (t.service 0).refN = none ∧ (t.service 0).front = none ∧ (t.path 0).outbox = [] ∧ (t.path 0).inbox = [] := by
  decide +kernel
/-- R154: an interval end between two resolutions; the first is counted for S0, the second for no one. -/
theorem test_interval_end_cuts_cascade :
    let two := shared.updService 0 fun v =>
      { v with window := [entryAt ⟨12, 2, 9⟩, entryAt ⟨12, 2, 10⟩], refN := some 6048 }
    let cut := after (.entryExpiry 0 ⟨16000, some 1⟩) two
    let ended := after (.intervalEnd ⟨[], false, false, false⟩ 20 silentBoot) cut
    let done := after (.entryExpiry 0 ⟨16000, none⟩) ended
    cut.cascading = some ⟨0, .nothing⟩ ∧ (cut.service 0).window.length = 1 ∧
      ended.fitness.lastResult = some ⟨0, 1, 0⟩ ∧ ended.fitness.underCheck = some 1 ∧
      done.cascading = none ∧ (done.service 0).window = [] ∧ done.fitness.checked = 0 := by decide +kernel
theorem test_tracking_notice :
    let t := after (.trackingNotice 0) (onPath fun u => { u with outbox := [.tracking 1] })
    (t.service 0).state = .live ∧ t.portSignals.get 0 = [.live] ∧ t.electionSignals.get 0 = [.live] := by
  decide +kernel
theorem test_leaving_notice_goes_dark :
    let t := after (.leavingNotice 0 ⟨7, none⟩) (arriving.updPath 0 fun u => { u with outbox := [.leaving] })
    (t.service 0).state = .dark ∧ t.electionSignals.get 0 = [.dark] := by decide +kernel
theorem test_park_request :
    let t := after (.parkRequest ⟨7, none⟩) { up with requests := [.park 1] }
    t.answers = [.parked 1] ∧ (t.service 0).contributors = ⟨true, false, false, false⟩ ∧
      (t.path 1).inbox = [.stop] := by decide +kernel
/-- R56: the sole contributor of a service is not parked. -/
theorem test_park_request_refused :
    (after (.parkRequest ⟨7, none⟩) { up with requests := [.park 2] }).answers = [.parkRefused 2] := by decide +kernel
/-- R56: a tracking notice of the time in which the path was parked is taken no more. -/
theorem test_unpark_request :
    let t := after .unparkRequest (({ up with requests := [.unpark 1] }.updService 0 fun v =>
      { v with contributors := ⟨true, false, false, false⟩ }).updPath 1 fun u => { u with outbox := [.tracking 3, .leaving] })
    t.answers = [.unparked 1] ∧ (t.path 1).inbox = [.unpark] ∧ (t.path 1).outbox = [] := by decide +kernel
theorem test_park_acknowledgement :
    let t := after .parkAcknowledgement
      { up with answers := [.parked 1], thermal := { up.thermal with outstanding := some (.park 1) } }
    t.thermal.stack = [1] ∧ t.fitness.faults.thermalShed = true := by decide +kernel
theorem test_park_refusal :
    (after .parkRefusal
      { up with
        answers := [.parkRefused 1]
        thermal := { up.thermal with outstanding := some (.park 1) } }).thermal.outstanding = none := by
  decide +kernel
theorem test_unpark_acknowledgement :
    (after .unparkAcknowledgement
      { up with
        answers := [.unparked 1]
        thermal := { up.thermal with outstanding := some (.unpark 1) } }).thermal.outstanding = none := by
  decide +kernel

/-- R164: at T_w the lowest priority of S0, P1, is asked for. -/
theorem test_interval_end_sheds :
    (after (.intervalEnd ⟨[], false, false, false⟩ 105 silentBoot) up).requests = [.park 1] ∧
      (after (.intervalEnd ⟨[], false, false, false⟩ 104 silentBoot) up).requests = [] := by decide +kernel
/-- R169: 125 °C shuts the station down. -/
theorem test_interval_end_shuts_down :
    (after (.intervalEnd ⟨[], false, false, false⟩ 125 silentBoot) up).thermal.shutdown = true ∧
      (after (.intervalEnd ⟨[], false, false, false⟩ 124 silentBoot) up).thermal.shutdown = false := by decide +kernel
/-- R59 (3): a service that is DARK already is signalled DARK too. -/
theorem test_shutdown_signals_dark :
    let t := after (.intervalEnd ⟨[], false, false, false⟩ 125 silentBoot) up
    (up.service 0).state = .dark ∧ t.portSignals.get 0 = [.dark] ∧ t.electionSignals.get 1 = [.dark] := by
  decide +kernel
/-- R161: with the publication before the reading of 30 °C the ANNOUNCE shows the interval before, −5 °C. -/
theorem test_publication_before_reading :
    let s : State := { busy with thermal := { busy.thermal with reading := -5 } }
    let sent (t : State) : Option Byte := t.line.slots.announce.bind fun f => f.frame.body[2]?
    sent (after (.intervalEnd ⟨[], true, false, true⟩ 30 silentBoot) s) = some 0xFB ∧
      sent (after .publication (after (.intervalEnd ⟨[], false, false, false⟩ 30 silentBoot) s)) = some 30 := by decide +kernel
/-- Section 8.7: a station found UNFIT at an interval end whose evaluation came first: the ANNOUNCE still says FIT, the
claim is withdrawn unsent or, had it started, is in flight as a withdrawn frame. -/
theorem test_publication_before_unfitness :
    let s : State :=
      { (up.updElect 0 fun e => { e with lane := .released, service := .live, activity := .quiet }).updService 0 fun v =>
          { v with tracking := ⟨true, false, false, false⟩, counters := { v.counters with resolved := 9250 } } with
        fitness := { up.fitness with mismatches := 1 } }
    let after' (starts : Bool) : State := after (.intervalEnd ⟨[], false, true, starts⟩ 20 silentBoot) s
    let announced (f : Option PlacedFrame) : Option Byte := f.bind fun g => g.frame.body[0]?
    (after' false).fitness.state = .unfit ∧ ((after' false).elect 0).lane = .disabled ∧
      (after' false).line.slots.lane.get 0 = none ∧
      announced ((after' false).line.flight.map Flight.placed) = some 0x40 ∧
      (after' true).line.flight.map (fun f => (f.slot, f.withdrawn)) = some (.lane 0, true) ∧
      announced (after' true).line.slots.announce = some 0x40 := by decide +kernel
/-- R126: a change to FIT comes before the publication; that is then a command of its own. -/
theorem test_publication_behind_fitness :
    let s : State := { up with fitness := { up.fitness with state := .listen, listenCount := 2 } }
    let t := after (.intervalEnd ⟨[], false, true, false⟩ 20 silentBoot) s
    t.fitness.state = .fit ∧ t.interval.latched = true := by decide +kernel
/-- Table 4-3 through the command, with the ANNOUNCE that follows. -/
theorem test_publication_figures :
    let t := after .publication (latched snap false up)
    (t.interval.published.figures.get 0).map FigurePart.sf = some 886 ∧
      t.line.flight.map (fun f => f.placed.frame.kind) = some 3 := by decide +kernel

/-- R91: a shadow port discards its head. -/
theorem test_due_event_in_shadow :
    let t := after (.dueEvent 0) (onPort fun u => { u with due := some 18500, rOut := some 18514, fifo := [pkt] })
    (t.port 0).fifo = [] ∧ (t.port 0).counters.shadowDiscards = 1 ∧ (t.port 0).due = some 18514 := by
  decide +kernel
/-- R133: admission at the due event, which sends at once. -/
theorem test_due_event_admits :
    let t := after (.dueEvent 0) ((onPort fun u =>
        { u with due := some 18500, rOut := some 18514, fifo := [pkt] }).updElect 0 fun e =>
      { e with lane := .claiming, settle := .expired, activity := .quiet })
    (t.elect 0).lane = .driving ∧ (t.port 0).driversOn = true ∧ (t.port 0).counters.sent = 1 := by
  decide +kernel
theorem test_port_service_state_signal :
    let t := after (.portServiceStateSignal 0)
      { (onPort fun u => { u with recorded := .live, rEst := some 700, rOut := some 1200 }) with
        portSignals := ⟨[.dark], [], [], []⟩ }
    (t.port 0).rOut = some 1000 ∧ (t.port 0).recorded = .dark := by decide +kernel
theorem test_packet_seen : ((after (.packetSeen 0) up).port 0).activitySignals = [.active] := by decide +kernel
theorem test_activity_timer_expiry :
    ((after (.activityTimerExpiry 0) (onPort fun u => { u with activity := .active })).port 0).activitySignals =
      [.quiet] := by decide +kernel
/-- R97: the second mismatch in a row is a contention event. -/
theorem test_readback_comparison :
    let s := onPort fun u => { u with driversOn := true, onLane := some ⟨pkt, false⟩, mismatch := 1 }
    ((after (.readbackComparison 0 pkt.header ⟨true, true, false, false⟩) s).port 0).notices = [.contention] ∧
      ((after (.readbackComparison 0 pkt.header ⟨true, false, false, false⟩) s).port 0).mismatch = 0 := by
  decide +kernel
theorem test_packet_end :
    ((after (.packetEnd 0) (onPort fun u =>
      { u with driversOn := true, onLane := some ⟨pkt, true⟩, finishOrder := true })).port 0).notices =
      [.finished] := by decide +kernel
theorem test_finished_notice :
    let t := after (.finishedNotice 0) ((onPort fun u => { u with notices := [.finished] }).updElect 0 fun e =>
      { e with lane := .driving, mark := some .handover })
    (t.elect 0).lane = .released ∧ t.line.flight.map (fun f => f.placed.frame) = some ⟨1, 2, [4, 0]⟩ := by
  decide +kernel
/-- R139: station 2 backs off for 6 intervals. -/
theorem test_contention_notice :
    let t := after (.contentionNotice 0) ((onPort fun u => { u with notices := [.contention] }).updElect 0 fun e =>
      { e with lane := .driving })
    (t.elect 0).backoff = 6 ∧ t.line.flight.map (fun f => f.placed.frame) = some ⟨0, 2, [4]⟩ := by
  decide +kernel
theorem test_election_service_state_signal :
    let t := after (.electionServiceStateSignal 0)
      { (onElect fun e => { e with lane := .driving, service := .live }) with
        electionSignals := ⟨[.dark], [], [], []⟩ }
    (t.elect 0).lane = .holding ∧ (t.elect 0).holdTimer = some 500 := by decide +kernel
theorem test_lane_activity_signal :
    ((after (.laneActivitySignal 0) ((onPort fun u => { u with activitySignals := [.active] }).updElect 0 fun e =>
      { e with lane := .claiming, yieldWait := .expired })).elect 0).refused = 1 := by decide +kernel
theorem test_settle_timer_expiry :
    ((after (.settleTimerExpiry 0) (onElect fun e =>
      { e with lane := .claiming, settle := .running 40, activity := .quiet })).elect 0).lane = .driving := by
  decide +kernel
theorem test_yield_wait_expiry :
    ((after (.yieldWaitExpiry 0) (onElect fun e =>
      { e with lane := .claiming, settle := .running 40, yieldWait := .running 200 })).elect 0).lane =
      .released := by decide +kernel
theorem test_hold_timer_expiry :
    ((after (.holdTimerExpiry 0) (onElect fun e => { e with lane := .holding, holdTimer := some 500 })).port 0).notices =
      [.finished] := by decide +kernel

/-- R110, R111: the 30 cells of section 6.2.1, read back and handed on. -/
theorem test_line_idle_hands_on :
    (after .lineIdle { busy with line := { busy.line with reception := .collecting (Frame.cells ⟨6, 3, []⟩) } }).line.heard =
      [⟨6, 3, []⟩] := by decide +kernel
/-- R114 (1): behind a REPORT, which goes to no block, a pending ANNOUNCE starts at once. -/
theorem test_line_idle_starts_pending :
    let s : State :=
      { busy with
        line :=
          { busy.line with
            reception := .collecting (Frame.cells ⟨5, 5, [0]⟩)
            slots := { busy.line.slots with announce := some ⟨⟨3, 2, [0, 0, 0]⟩, 0⟩ } } }
    (after .lineIdle s).line.heard = [⟨5, 5, [0]⟩] ∧
      (after .lineIdle s).line.flight.map (fun f => f.slot) = some .announce := by decide +kernel
theorem test_line_idle_counts_truncated :
    (after .lineIdle { busy with line := { busy.line with reception := .collecting (List.replicate 13 false) } }).line.counters.truncated =
      1 := by decide +kernel
theorem test_line_stuck :
    (after .lineStuck busy).line.state = .stuck ∧ (after .lineStuck busy).fitness.faults.lineStuck = true := by
  decide +kernel
/-- R112 (2): cell 2 of RESTART(3) is the second kind bit, a 1; the frame is pending again. -/
theorem test_arbitration_loss :
    let t := after (.arbitrationLoss 2) (flying .announce ⟨6, 3, []⟩ false)
    t.line.counters.arbitrationLosses = 1 ∧ t.line.retry = some .announce ∧
      t.line.reception = .collecting [false, false, false] := by decide +kernel
theorem test_readback_fault :
    (after (.readbackFault 1) (flying .announce ⟨6, 3, []⟩ false)).line.counters.readbackFaults = 1 := by
  decide +kernel
/-- R132: a sent CLAIM starts the settle timer of 40 ms and the yield wait of 200 ms. -/
theorem test_frame_leaves_line :
    let t := after .frameLeavesLine ((flying (.lane 0) (claimOf 2 4 4107 886) true).updElect 0 fun e =>
      { e with lane := .claiming })
    (t.elect 0).settle = .running 40 ∧ (t.elect 0).yieldWait = .running 200 := by decide +kernel
theorem test_announce_frame :
    ((after .announceFrame (heardFrom 3 [0x40, 0, 20, 0x10, 0x0B, 3, 0x76, 4, 3])).election.peers.get 5).map
        (fun e => e.records) =
      some [⟨4107, 886, some 4, .driving⟩] := by decide +kernel
/-- Section 7.7.2: SF 855 against a claimant SF of 951 hands over; 903 = 855 + 48 is enough, 902 is not. -/
theorem test_claim_frame :
    let w : Snapshot := { Snapshot.reset with figures := ⟨some ⟨0, 0, 0, 0, 855⟩, none, none, none⟩ }
    let heard (hi lo : Byte) : State :=
      ({ heardFrom 2 [4, 0x10, 0x0B, hi, lo] with interval := { up.interval with published := w } }).updElect 0
        fun e => { e with lane := .driving }
    ((after .claimFrame (heard 3 0x87)).elect 0).mark = some .handover ∧
      ((after .claimFrame (heard 3 0x86)).elect 0).mark = none := by decide +kernel
/-- R134 (2), R116: a beaten CLAIM in flight is withdrawn. -/
theorem test_claim_frame_withdraws :
    let s := (heardFrom 2 [4, 0x10, 0x0B, 3, 0xB7]).updElect 0 fun e => { e with lane := .claiming }
    let t := after .claimFrame { s with line := { s.line with flight := some ⟨.lane 0, ⟨claimOf 2 4 4107 0, 0⟩, false, false⟩ } }
    (t.elect 0).lane = .released ∧ (t.elect 0).slotMark = true ∧ t.line.flight.map Flight.withdrawn = some true := by
  decide +kernel
theorem test_release_frame :
    let s := heardFrom 1 [4, 0]
    let view : State :=
      { s with
        election := { s.election with
          peers := s.election.peers.set 5 (some ⟨1, 0x40, .powerOn, [⟨4107, 886, some 4, .driving⟩]⟩) } }
    ((after .releaseFrame view).election.peers.get 5).map (fun e => e.records) =
      some [⟨4107, 886, some 4, .released⟩] := by decide +kernel
theorem test_contention_frame :
    ((after .contentionFrame ((heardFrom 0 [4]).updElect 0 fun e => { e with lane := .holding })).elect 0).lane =
      .backoff := by decide +kernel
/-- Page 11: the first part holds the counters, the second the line state. -/
theorem test_query_frame :
    (after .queryFrame (heardOwn 4 [11])).reply.map (fun r => (r.page, r.content.length, r.part)) =
      some (11, 33, 0) := by decide +kernel
theorem test_restart_frame :
    let t := after .restartFrame ((heardOwn 6 []).updElect 0 fun e => { e with lane := .driving })
    t.loader.releaseLimit = some 20 ∧ (t.elect 0).mark = some .restart := by decide +kernel
theorem test_monitor_frame :
    (after .monitorFrame (heardOwn 7 [5])).monitor.source = .port 0 ∧
      (after .monitorFrame (heardFrom 7 [5])).monitor.source = .off := by decide +kernel
theorem test_report_frame : (after .reportFrame (heardFrom 5 [0])).line.heard = [] := by decide +kernel
theorem test_undefined_kind_frame : (after .undefinedKindFrame (heardFrom 8 [])).line.heard = [] := by decide +kernel
theorem test_released_report :
    let t := after (.releasedReport silentBoot) releasing
    t.loader.cause = .lineRestart ∧ t.loader.restartCount = 1 ∧ t.loader.phase = .loading := by decide +kernel
theorem test_release_limit_expiry :
    (after (.releaseLimitExpiry silentBoot) releasing).loader.cause = .lineRestart ∧
      (after (.releaseLimitExpiry silentBoot) up).loader.cause = .powerOn := by decide +kernel
theorem test_monitor_packet_end :
    (after .monitorPacketEnd { up with monitor := ⟨.path 0, some pkt, [pkt, nullPacket]⟩ }).monitor.queue.length =
      1 := by decide +kernel
theorem test_falling_edge :
    (after (.fallingEdge false) up).line.reception = .collecting [false] ∧
      (after (.fallingEdge true) up).line.reception = .noise := by decide +kernel

/-! ### Witnesses: states and operands that meet the hypotheses of the statements -/

/-- The configuration of S0 in `conf`. -/
def c0 : ServiceConfig := ⟨4107, ⟨true, true, false, false⟩, ⟨3, 1, 0, 0⟩, .sticky, 16, some 0⟩
/-- The configuration of S1 in `conf`. -/
def c1 : ServiceConfig := ⟨4210, ⟨false, false, true, false⟩, ⟨0, 0, 2, 0⟩, .priority, 40, some 1⟩
/-- The configuration of port 0 in `conf`. -/
def q0 : PortConfig := ⟨0, 4, 64, .null, 500⟩

theorem witness_StepRunsFrontCommand : State.reset.pending = [] := rfl

theorem witness_PowerOnResetStartsAfresh :
    State.reset.loader.phase = .held ∧ up.loader.phase ≠ .held ∧ silentBoot.image.identity = BitVec.allOnes 72 ∧
      (0 : Block) ≠ BitVec.allOnes 72 := by decide

theorem witness_LineRestartProceedsOnEitherEvent :
    (releasing.loader.releasing = true ∧ releasing.loader.releasedReport = true ∧
      releasing.loader.releaseLimit ≠ none) ∧
      up.loader.releasing = false ∧ up.loader.releaseLimit = none := by decide

/-- A candidate block that is there, with 8 MHz. -/
def here (i : Input) (f : BitVec 32) (e : Option Half) : Option CandidateFields := some ⟨true, i, f, some .mhz8, e⟩

/-- A candidate block marked absent. -/
def absent : Option CandidateFields := some ⟨false, .a, 0, none, none⟩

/-- What a load with a failed candidate block leaves, T_w 130, and fields that validation notes. -/
def faultyRaw : RawConfig where
  identity := some ⟨1, ⟨true, true, true, false⟩⟩
  station := some ⟨130⟩
  candidates :=
    ⟨⟨here .a 522000 (some 4107), here .b 522000 (some 4107), here .a 522000 (some 4107), absent⟩,
      ⟨none, here .c 522000 none, absent, absent⟩,
      ⟨here .d 538000 (some 4210), here .d 950000 none, absent, absent⟩,
      ⟨here .b 538000 (some 4210), absent, absent, absent⟩⟩
  services :=
    ⟨some ⟨4107, ⟨true, true, false, false⟩, ⟨3, 1, 0, 0⟩, .sticky, 80, some 0, 4, some .d64, some .null, 50⟩,
      some ⟨4210, ⟨false, true, true, true⟩, ⟨0, 2, 2, 1⟩, .priority, 16, some 1, 5, none, some .mark, 220⟩,
      some ⟨4300, ⟨false, false, false, true⟩, ⟨0, 0, 0, 2⟩, .sticky, 16, some 1, 6, some .d64, some .mark, 50⟩,
      some ⟨0, .fill false, .fill 0, .sticky, 0, none, 0, none, none, 0⟩⟩

/-- In LOADING, the image read: block 3 corrected, block 6 failed. -/
def loading : State :=
  { State.reset with
    loader :=
      { LoaderUnit.reset with phase := .loading, stationNumber := 6, record := ⟨true, [3], [6], 0⟩, raw := faultyRaw } }

/-- Tables 10-4 and 10-5: nine notes, T_w 120, S2 dropped. -/
theorem test_end_of_loading_faulty :
    let t := after .endOfLoading loading
    t.loader.record.notes = 9 ∧ t.config.tw = 120 ∧ t.fitness.faults.loadCorrected = true ∧
      t.fitness.faults.loadFailed = true ∧ t.slotConfig 2 = none ∧ (t.config.candidates.get 0).length = 2 ∧
      (t.slotConfig 0).map ServiceConfig.w = some 64 ∧
      (t.portConfig 1).map (fun q => (q.depth, q.hold)) = some (64, 2000) := by decide +kernel

theorem witness_EndOfLoadingStartsStation :
    loading.loader.phase = .loading ∧ loading.loader.raw.identity.isSome = true ∧
      (after (.powerOnReset false silentBoot) State.reset).loader.raw.identity = none := by decide +kernel

theorem witness_ValidationLeavesConfigurationInRange :
    let c := loading.loader.raw.validate.1
    (c.services.get 0).isSome = true ∧ (c.services.get 1).isSome = true ∧ (c.ports.get 0).isSome = true ∧
      (c.ports.get 1).isSome = true ∧ faultyRaw.identity ≠ none ∧ RawConfig.reset.identity = none ∧
      (faultyRaw.admitted 0).isSome = true ∧ faultyRaw.admitted 3 = none ∧
      faultyRaw.pathless c 0 = false ∧ faultyRaw.pathless c 2 = true ∧ faultyRaw.portTaken c 1 = false := by decide +kernel

/-- Table 10-5, slot by slot: W; contributor P1 taken, depth, hold; and S2, whose only path S1 has taken. -/
theorem test_slot_notes :
    [0, 1, 2, 3].map (faultyRaw.slotNotes faultyRaw.validate.1) = [1, 3, 2, 0] := by decide +kernel

theorem witness_CheckCodeCorrectsOneFlipDetectsTwo : decodeBits 0 = .good := by decide +kernel

theorem witness_PathEventsActInTheirState :
    ((onPath fun u => { u with state := .gain }).path 0).state = .gain ∧ (30 : Int) ≤ 30 ∧ (29 : Int) < 30 ∧
      (up.path 0).state ≠ .gain ∧ ((onPath fun u => { u with state := .mode }).path 0).state = .mode ∧
      (up.path 0).state ≠ .mode ∧ ((onPath fun u => { u with state := .timing }).path 0).state = .timing ∧
      (up.path 0).state ≠ .timing ∧ (tracking.path 0).state = .tracking ∧ (up.path 0).state ≠ .tracking ∧ (up.path 0).work = 0 ∧
      (up.path 0).work ≠ 1 := by
  decide

/-- The first candidate of P0 expects the multiplex 4107 that `sig` names. -/
theorem expects_sig (s : State) (hc : s.config = conf) (hi : (s.path 0).candidateIndex = 0) :
    ¬ s.expectsOther 0 sig.muxId := by
  rintro ⟨c, e, h, he, hne⟩
  rw [hc, hi] at h
  have h' : some (⟨.a, 522000, .mhz8, some 4107⟩ : Candidate) = some c := h
  cases h'
  cases he
  exact hne rfl

/-- And so no other one. -/
theorem expects_other (s : State) (hc : s.config = conf) (hi : (s.path 0).candidateIndex = 0) :
    s.expectsOther 0 4210 :=
  ⟨⟨.a, 522000, .mhz8, some 4107⟩, 4107, by rw [hc, hi]; rfl, rfl, by decide⟩

theorem witness_LockOrRegainEntersTracking :
    let f := onPath fun u => { u with state := .frame }
    let h := onPath fun u => { u with state := .hold }
    read.signalling = some sig ∧ 64 ≤ sig.n ∧ sig.n ≤ 8192 ∧ read.syncGained = true ∧
      ¬ f.expectsOther 0 sig.muxId ∧ ¬ h.expectsOther 0 sig.muxId ∧ (f.path 0).state = .frame ∧
      read.decoderLocked = true ∧ (h.path 0).state = .hold ∧ (f.path 0).work = 0 ∧ (h.path 0).work = 0 :=
  ⟨rfl, by decide, by decide, rfl, expects_sig _ rfl rfl, expects_sig _ rfl rfl, rfl, rfl, rfl, rfl, rfl⟩

theorem witness_DisregardedPathEventsChangeNothing :
    ({ read with signalling := none } : FrameStartRead).signalling = none ∧ ({ sig with n := 63 } : Signalling).n < 64 ∧
      8192 < ({ sig with n := 8193 } : Signalling).n ∧ ({ read with syncGained := false } : FrameStartRead).syncGained = false ∧
      ({ read with decoderLocked := false } : FrameStartRead).decoderLocked = false ∧ (up.path 0).state ≠ .frame ∧
      (up.path 0).state ≠ .hold ∧ (up.path 0).timer = none ∧ (up.path 0).work ≠ 1 := by decide

theorem witness_FailureRetriesThenAdvances :
    let f := onPath fun u => { u with state := .frame, timer := some 400 }
    let h := onPath fun u => { u with state := .hold, timer := some 300 }
    let wrong := { sig with muxId := 4210 }
    let told := tracking.updPath 0 fun u => { u with inbox := [.refusal, .modeMismatch 1] }
    ((f.path 0).timer ≠ none ∧ (h.path 0).timer ≠ none ∧ (f.path 0).state = .frame ∧ (h.path 0).state = .hold ∧
        (f.path 0).work = 0 ∧ (h.path 0).work = 0) ∧
      (f.expectsOther 0 wrong.muxId ∧ h.expectsOther 0 wrong.muxId ∧ tracking.expectsOther 0 wrong.muxId) ∧
      ((tracking.path 0).state = .tracking ∧
        (tracking.path 0).decoded = some ⟨.long, .eighth, .twoThirds, 6048, 4107⟩ ∧ wrong.n = 6048 ∧
        wrong.muxId ≠ (4107 : Half)) ∧
      (told.path 0).state = .tracking ∧ (told.path 0).stay = 1 ∧
      (told.path 0).inbox = [.refusal] ++ .modeMismatch 1 :: [] ∧
      ∀ n, PathOrder.modeMismatch n ∉ [PathOrder.refusal] :=
  ⟨by decide, ⟨expects_other _ rfl rfl, expects_other _ rfl rfl, expects_other _ rfl rfl⟩, by decide, rfl, rfl, rfl,
    fun n h => by simp at h⟩

/-- Delivered with no last position and with one just below the counter; withheld at the last position itself. -/
theorem witness_CompletedPacketIsDeliveredOrWithheld :
    (up.path 0).state ≠ .tracking ∧ (tracking.path 0).state = .tracking ∧ (tracking.path 0).counter = some ⟨12, 2, 0⟩ ∧
      (tracking.path 0).decoded = some ⟨.long, .eighth, .twoThirds, 6048, 4107⟩ ∧
      (∀ l, (tracking.path 0).lastDelivered = some l → newer 6048 ⟨12, 2, 0⟩ l = true) ∧
      newer 6048 ⟨12, 2, 0⟩ ⟨12, 1, 6047⟩ = true ∧ newer 6048 ⟨12, 2, 0⟩ ⟨12, 2, 0⟩ = false :=
  have absent : ∀ l, (tracking.path 0).lastDelivered = some l → newer 6048 ⟨12, 2, 0⟩ l = true := by
    intro l h
    have h' : none = some l := h
    cases h'
  ⟨by decide, by decide, by decide, by decide, absent, by decide, by decide⟩

theorem witness_ContinuityTableKeepsEightIdentifiers :
    let table : List ContinuityEntry := [⟨1, 0⟩, ⟨2, 0⟩, ⟨3, 0⟩, ⟨4, 0⟩, ⟨5, 0⟩, ⟨6, 0⟩, ⟨7, 0⟩, ⟨8, 15⟩]
    (table.map ContinuityEntry.pid).Nodup ∧ table.length ≤ 8 ∧ (continuityTake table 8 0).2 = false ∧
      (continuityTake table 8 15).2 = true := by decide

theorem witness_FrameStartHoldsAdoptsOrSlips :
    (up.path 0).state ≠ .tracking ∧ (tracking.path 0).state = .tracking ∧
      (tracking.path 0).decoded = some ⟨.long, .eighth, .twoThirds, 6048, 4107⟩ ∧
      ({ sig with n := 6047 } : Signalling).n ≠ 6048 ∧ sig.symbolMode = .long ∧ sig.guard = .eighth ∧ sig.n = 6048 ∧
      sig.muxId = 4107 ∧ (tracking.path 0).counter = some ⟨sig.superframe, sig.frame, 0⟩ ∧
      (tracking.path 0).counter ≠ some ⟨(13 : Fin 256), sig.frame, 0⟩ := by decide

theorem witness_PathTakesOrdersOfMergeUnit :
    let with_ (o : PathOrder) : State := tracking.updPath 0 fun u => { u with inbox := [.refusal, o] }
    ((with_ .stop).path 0).inbox = [.refusal] ++ .stop :: [] ∧ PathOrder.stop ∉ [PathOrder.refusal] ∧
      ((with_ .stop).path 0).state ≠ .parked ∧ (up.path 0).state = .parked ∧
      PathOrder.unpark ∉ [PathOrder.refusal] ∧ PathOrder.unpark ∈ [PathOrder.unpark] ∧ PathOrder.stop ∈ [PathOrder.stop] ∧
      ((with_ .unpark).path 0).inbox = [.refusal] ++ .unpark :: [] ∧ up.config.candidates.get 0 ≠ [] ∧
      up.config.candidates.get 3 = [] ∧ up.thermal.shutdown = false ∧ shut.thermal.shutdown = true ∧
      ((with_ .refusal).path 0).inbox = [] ++ .refusal :: [.refusal] ∧
      ((with_ (.modeMismatch 0)).path 0).inbox = [.refusal] ++ .modeMismatch 0 :: [] ∧
      ((with_ (.modeMismatch 0)).path 0).stay ≠ 0 := by decide

/-- At both ends of N, and at both ends of the half turn. -/
theorem witness_PositionsCompareOnACircle :
    newer 64 ⟨127, 3, 63⟩ ⟨0, 0, 0⟩ = true ∧ newer 64 ⟨128, 0, 0⟩ ⟨0, 0, 0⟩ = false ∧
      newer 64 ⟨0, 0, 0⟩ ⟨128, 0, 0⟩ = false ∧ newer 8192 ⟨127, 3, 8191⟩ ⟨0, 0, 0⟩ = true ∧
      newer 8192 ⟨128, 0, 0⟩ ⟨0, 0, 0⟩ = false ∧ Position.next 8192 ⟨255, 3, 8191⟩ = ⟨0, 0, 0⟩ := by decide

theorem served_p0 : up.servedIn 0 0 c0 := by unfold State.servedIn; decide

theorem witness_TrackingNoticeJoinsService :
    let s := onPath fun u => { u with outbox := [.tracking 1] }
    let n := up.updPath 3 fun u => { u with outbox := [.tracking 1] }
    (s.path 0).outbox = .tracking 1 :: [] ∧ s.servedIn 0 0 c0 ∧ (s.service 0).state = .dark ∧
      (n.path 3).outbox = .tracking 1 :: [] ∧ n.servedNowhere 3 ∧ shut.thermal.shutdown = true := by
  unfold State.servedIn State.servedNowhere; decide

/-- The record on its way in `arriving` and `shared`. -/
def rec0 : Record := ⟨0, ⟨12, 2, 9⟩, 6048, .corrected 2, pkt⟩

/-- What the clauses share: the copy, its service, and the service's state; a member of the tracking set, and not. -/
theorem witness_CopyIsRefusedStoredOrOpened :
    shared.servedIn 0 0 c0 ∧ (shared.path 0).outbox = .record rec0 :: [] ∧ rec0.path = 0 ∧ (shared.service 0).sound ∧
      (shared.service 0).tracking.get 0 = true ∧
      ((shared.updService 0 fun v => { v with tracking := ⟨false, true, false, false⟩ }).service 0).tracking.get 0 = false := by
  unfold State.servedIn Service.sound Service.stateFollows; decide +kernel

/-- A refused copy: of another N; not newer than the front; held already; too old to open an entry. -/
theorem witness_CopyIsRefused :
    (6048 : Nat) ≠ 6047 ∧ newer 6048 rec0.position ⟨12, 2, 9⟩ = false ∧
      samePosition 6048 (entryAt ⟨12, 2, 9⟩).position rec0.position = true ∧
      (({ entryAt ⟨12, 2, 9⟩ with copies := ⟨some (copy .clean), none, none, none⟩ } : Entry).copies.get 0).isSome = true ∧
      ((waiting ⟨12, 2, 10⟩).service 0).front = none ∧
      ((waiting ⟨12, 2, 10⟩).service 0).window = entryAt ⟨12, 2, 10⟩ :: [] ∧
      samePosition 6048 ⟨12, 2, 10⟩ rec0.position = false ∧ newer 6048 rec0.position ⟨12, 2, 10⟩ = false := by
  decide +kernel

/-- `shared` with 47 entries behind the front, all newer than the arriving copy. -/
def nearlyFull : State :=
  shared.updService 0 fun v =>
    { v with window := (List.range 47).map fun i => entryAt ⟨12, 3, i⟩, refN := some 6048, front := some ⟨12, 2, 8⟩ }

theorem ordered_of_decide {v : Service} {n : Nat} (hn : v.refN = some n)
    (h : sizeOk n ∧ v.ordered n ∧ (∀ e ∈ v.window, e.position.packet < n) ∧ ∀ f, v.front = some f → f.packet < n) :
    v.orderLaw := by
  refine ⟨fun h0 => absurd (hn.symm.trans h0) (by simp), fun m hm => ?_⟩
  rw [hn] at hm
  cases hm
  exact h

/-- A stored copy, behind the head and at it; and an opened entry, in the 48th place. -/
theorem witness_CopyIsStoredOrOpened :
    (([entryAt ⟨12, 2, 8⟩, entryAt ⟨12, 2, 9⟩] : List Entry) = [entryAt ⟨12, 2, 8⟩] ++ entryAt ⟨12, 2, 9⟩ :: [] ∧
      samePosition 6048 (entryAt ⟨12, 2, 8⟩).position rec0.position = false ∧
      (entryAt ⟨12, 2, 9⟩).copies.get 0 = none ∧
      ((waiting ⟨12, 2, 9⟩).service 0).window = [] ++ entryAt ⟨12, 2, 9⟩ :: []) ∧
      rec0.inRange ∧ (nearlyFull.service 0).orderLaw ∧ (nearlyFull.service 0).front = some ⟨12, 2, 8⟩ ∧
      newer 6048 rec0.position ⟨12, 2, 8⟩ = true ∧ (nearlyFull.service 0).window.length = 47 ∧
      ∀ d ∈ (nearlyFull.service 0).window, samePosition rec0.n d.position rec0.position = false := by
  have law : (nearlyFull.service 0).orderLaw := by
    refine ordered_of_decide (n := 6048) (by decide +kernel) ?_
    unfold sizeOk Service.ordered
    refine ⟨by decide, ⟨by decide +kernel, fun f hf => ?_⟩, by decide +kernel, fun f hf => ?_⟩
    · cases hf; decide +kernel
    · cases hf; decide
  exact ⟨by decide +kernel, by unfold Record.inRange sizeOk; decide, law, by decide +kernel, by decide +kernel,
    by decide +kernel, by decide +kernel⟩

theorem witness_SoleTrackerCopyResolvesAtOnce :
    arriving.servedIn 0 0 c0 ∧ (arriving.path 0).outbox = .record rec0 :: [] ∧ rec0.path = 0 ∧
      64 ≤ rec0.n ∧ rec0.n ≤ 8192 ∧ (arriving.service 0).window = [] ∧ (arriving.service 0).tracking = (Quad.fill false).set 0 true ∧
      (arriving.service 0).state = .live ∧ (arriving.service 0).refN = none ∧ (arriving.service 0).front = none ∧
      newer 6048 rec0.position ⟨12, 2, 8⟩ = true ∧ c0.port = some 0 ∧ arriving.portConfig 0 = some q0 ∧
      arriving.fitness.underCheck = some 0 := by
  unfold State.servedIn; decide +kernel

/-- `shared` with 48 entries, and a copy of P0 at a given place of their frame on its way. -/
def fullWith (packet : Nat) : State :=
  (shared.updPath 0 fun u => { u with outbox := [.record { rec0 with position := ⟨12, 3, packet⟩ }] }).updService 0 fun v =>
    { v with
      window := (List.range 48).map fun i => entryAt ⟨12, 3, i + 1⟩
      refN := some 6048
      front := some ⟨12, 2, 8⟩ }

theorem fullWith_orderLaw (n : Nat) : ((fullWith n).service 0).orderLaw := by
  have h : ((fullWith 0).service 0).orderLaw := by
    refine ordered_of_decide (n := 6048) (by decide +kernel) ?_
    unfold sizeOk Service.ordered
    refine ⟨by decide, ⟨by decide +kernel, fun f hf => ?_⟩, by decide +kernel, fun f hf => ?_⟩
    · cases hf; decide +kernel
    · cases hf; decide
  exact h

/-- The head, at packet 1, is forced; a copy for packet 0 is then late, one for packet 49 opens its entry. -/
theorem witness_FullWindowForcesOneResolution :
    (∀ n ∈ [0, 49], (fullWith n).servedIn 0 0 c0 ∧
      ((fullWith n).path 0).outbox = .record { rec0 with position := ⟨12, 3, n⟩ } :: [] ∧
      ({ rec0 with position := ⟨12, 3, n⟩ } : Record).inRange ∧ ((fullWith n).service 0).sound ∧
      ((fullWith n).service 0).tracking.get 0 = true ∧ ((fullWith n).service 0).window.length = 48 ∧
      ((fullWith n).service 0).window.head? = some (entryAt ⟨12, 3, 1⟩) ∧
      ((fullWith n).service 0).refN = some rec0.n ∧
      (∀ d ∈ ((fullWith n).service 0).window, samePosition rec0.n d.position ⟨12, 3, n⟩ = false) ∧
      ((fullWith n).service 0).late rec0.n ⟨12, 3, n⟩ = false ∧
      ((fullWith n).service 0).admits rec0.n ⟨12, 3, n⟩ = true) ∧
      (∀ n, ((fullWith n).service 0).orderLaw) ∧
      selectCopy c0 none (entryAt ⟨12, 3, 1⟩).copies = some (1, copy .clean) ∧
      newer 6048 ⟨12, 3, 0⟩ ⟨12, 3, 1⟩ = false ∧ newer 6048 ⟨12, 3, 49⟩ ⟨12, 3, 1⟩ = true := by
  refine ⟨?_, fullWith_orderLaw, by decide +kernel, by decide, by decide⟩
  unfold State.servedIn Service.sound Service.stateFollows Record.inRange sizeOk
  decide +kernel

/-- A cut of 1 in a cascade of two; the window it leaves is one shorter. -/
theorem witness_CascadeIsCut :
    let two := shared.updService 0 fun v =>
      { v with window := [entryAt ⟨12, 2, 9⟩, entryAt ⟨12, 2, 10⟩], refN := some 6048 }
    (two.service 0).window = entryAt ⟨12, 2, 9⟩ :: [entryAt ⟨12, 2, 10⟩] ∧ two.cascading = none ∧
      (entryAt ⟨12, 2, 9⟩).expiryTime ≤ max two.now 16000 ∧ (two.service 0).sound ∧
      ((after (.entryExpiry 0 ⟨16000, none⟩) two).service 0).window.length + 1 < (two.service 0).window.length := by
  unfold Service.sound Service.stateFollows; decide +kernel

theorem witness_ExpiryAndLeavingResolveReadyHeads :
    let s := waiting ⟨12, 2, 9⟩
    let l := s.updPath 0 fun u => { u with outbox := [.leaving] }
    let last := arriving.updPath 0 fun u => { u with outbox := [.leaving] }
    (s.slotConfig 0 = some c0 ∧ (s.service 0).window = entryAt ⟨12, 2, 9⟩ :: [] ∧
      (entryAt ⟨12, 2, 9⟩).expiryTime ≤ max s.now 16000 ∧ s.thermal.shutdown = false ∧ (s.service 0).sound) ∧
      max s.now 15999 < (entryAt ⟨12, 2, 9⟩).expiryTime ∧ (up.service 0).window = [] ∧ shut.thermal.shutdown = true ∧
      (l.servedIn 0 0 c0 ∧ (l.path 0).outbox = .leaving :: [] ∧ (l.service 0).tracking.get 0 = true ∧
        (l.service 0).sound) ∧
      (up.service 0).tracking.get 0 = false ∧
      (last.servedIn 0 0 c0 ∧ (last.service 0).state = .live ∧
        (∀ q, q ≠ 0 → (last.service 0).tracking.get q = false) ∧ (last.service 0).window = []) := by
  unfold State.servedIn Service.sound Service.stateFollows; decide +kernel

theorem witness_ParkAndUnparkRequestsAreAnswered :
    let p : State := { waiting ⟨12, 2, 9⟩ with requests := [.park 0] }
    let sole : State := { up with requests := [.park 2] }
    let left := up.updPath 3 fun u => { u with outbox := [.leaving] }
    let u := ({ up with requests := [.unpark 1] } : State).updService 0 fun v =>
      { v with contributors := ⟨true, false, false, false⟩ }
    (p.requests = .park 0 :: [] ∧ p.thermal.shutdown = false ∧ p.servedIn 0 0 c0 ∧
      (∃ q, q ≠ (0 : Path) ∧ (p.service 0).contributors.get q = true) ∧ (p.service 0).sound) ∧
      up.servedNowhere 3 ∧ (sole.servedIn 2 1 c1 ∧ ∀ q, q ≠ 2 → (sole.service 1).contributors.get q = false) ∧
      (u.requests = .unpark 1 :: [] ∧ u.slotConfig 0 = some c0 ∧ c0.contributors.get 1 = true ∧
        (u.service 0).contributors.get 1 = false ∧ (up.service 0).contributors.get 1 = true ∧
        u.thermal.shutdown = false ∧ c1.contributors.get 1 = false ∧ u.slotConfig 1 = some c1 ∧
        u.slotConfig 2 = none ∧ u.slotConfig 3 = none) ∧
      c0.contributors.get 3 = false ∧ c1.contributors.get 3 = false ∧ shut.thermal.shutdown = true ∧
      left.servedNowhere 3 ∧ (left.path 3).outbox = .leaving :: [] ∧ up.cascading = none := by
  unfold State.servedIn State.servedNowhere Service.sound Service.stateFollows; decide +kernel

/-- Equal ranks, the sticky last path P1 against the preferred P0; and a better rank against both. -/
theorem witness_SelectionTakesBestRankThenTieBreak :
    let tie : Quad (Option Copy) := ⟨some (copy .clean), some (copy .clean), none, none⟩
    (∃ p, tie.get p ≠ none) ∧ selectCopy c0 (some 1) tie = some (1, copy .clean) ∧ c0.tieMode = .sticky ∧
      selectCopy { c0 with tieMode := .priority } (some 1) tie = some (0, copy .clean) ∧
      selectCopy c0 (some 1) ⟨some (copy (.corrected 0)), some (copy (.corrected 1)), none, none⟩ =
        some (0, copy (.corrected 0)) := by decide +kernel

/-- A thermal controller's outstanding request with its answer. -/
def answered (o : Request) (a : Answer) : State :=
  { up with answers := [a], thermal := { up.thermal with outstanding := some o } }

theorem witness_AnswersSettleOutstandingRequest :
    (answered (.park 1) (.parked 1)).answers = .parked 1 :: [] ∧ up.thermal.shutdown = false ∧
      ((answered (.park 1) (.parked 1)).path 1).inbox = [] ∧ ((answered (.park 1) (.parked 1)).path 1).state = .parked ∧
      (tracking.path 0).state ≠ .parked ∧ .unpark ∈ ((up.updPath 1 fun u => { u with inbox := [.unpark] }).path 1).inbox ∧
      .stop ∈ ((up.updPath 1 fun u => { u with inbox := [.stop] }).path 1).inbox ∧
      (answered (.park 1) (.parked 1)).thermal.outstanding = some (.park 1) ∧
      up.thermal.outstanding ≠ some (.park 1) ∧
      (answered (.park 1) (.parkRefused 1)).answers = .parkRefused 1 :: [] ∧
      (answered (.unpark 1) (.unparked 1)).thermal.outstanding = some (.unpark 1) ∧
      shut.thermal.shutdown = true := by decide +kernel

/-- A shed step at T_w = 105, cool readings at 100, and the eighth of them. -/
theorem witness_ReadingShedsOrUnparks :
    let shedding : State := { up with thermal := { up.thermal with stack := [1], cool := 7 } }
    let deeper : State := { up with thermal := { up.thermal with stack := [1, 0], cool := 7 } }
    deeper.thermal.stack = 1 :: [0] ∧ deeper.thermal.stack.length ≠ 1 ∧ up.intervalOpen ∧ (124 : Int) < 125 ∧ up.thermal.outstanding = none ∧ (up.config.tw : Int) ≤ 105 ∧
      up.thermal.spacing = 4 ∧ up.pathToPark = some 1 ∧ (104 : Int) < up.config.tw ∧
      up.thermal.stack = [] ∧ (up.config.tw : Int) - 5 < 101 ∧ shedding.intervalOpen ∧
      shedding.thermal.stack = 1 :: [] ∧ (100 : Int) ≤ shedding.config.tw - 5 ∧ up.thermal.cool + 1 < 8 ∧
      8 ≤ shedding.thermal.cool + 1 ∧ (answered (.park 1) (.parked 1)).thermal.outstanding ≠ none ∧ publishesApart ⟨[], false, false, true⟩ := by
  unfold State.intervalOpen publishesApart; decide +kernel

theorem witness_ParkedPathIsLeastOfRichestService :
    up.pathToPark = some 1 ∧ State.reset.pathToPark = none := by decide +kernel

theorem witness_HotReadingShutsDown :
    up.intervalOpen ∧ (125 : Int) ≤ 125 ∧ (tracking.path 0).state ≠ .parked ∧ (tracking.path 0).state = .tracking ∧
      (up.path 0).state ≠ .tracking ∧ tracking.intervalOpen ∧ up.slotConfig 0 = some c0 ∧
      up.portConfig 0 = some q0 ∧ busy.line.state ≠ .idle ∧ c0.port = some 0 := by
  unfold State.intervalOpen; decide +kernel

theorem witness_TwentyCoolReadingsRestartStation :
    let s : State := { shut with thermal := { shut.thermal with recovery := 19 } }
    shut.loader.phase = .running ∧ shut.thermal.shutdown = true ∧ shut.interval.running = true ∧
      shut.interval.latched = false ∧ (shut.config.tw : Int) - 10 < 96 ∧ (95 : Int) ≤ shut.config.tw - 10 ∧
      shut.thermal.recovery < 19 ∧ s.thermal.shutdown = true ∧ 19 ≤ s.thermal.recovery := by decide

theorem witness_LatchCopiesAndClearsCounters :
    tracking.intervalOpen ∧ (124 : Int) < 125 ∧ tracking.slotConfig 0 = some c0 ∧ tracking.slotConfig 2 = none ∧
      tracking.portConfig 0 = some q0 ∧ tracking.portConfig 2 = none ∧ publishesApart ⟨[], false, false, true⟩ := by
  unfold State.intervalOpen publishesApart; decide +kernel

theorem witness_PublicationReplacesSnapshotAndAnnounces :
    let s := latched snap false busy
    s.loader.phase = .running ∧ s.thermal.shutdown = false ∧ s.interval.latched = true ∧
      s.interval.working = some snap ∧ s.portConfig 0 = some q0 ∧ s.portConfig 2 = none ∧
      s.election.restarting = false ∧ s.line.state ≠ .idle ∧ releasing.election.restarting = true ∧
      (let idle : State := { s with line := up.line }
       idle.line.state = .idle ∧ idle.line.flight = none ∧ idle.line.slots.announce = none ∧
        idle.line.slots.report = none ∧ (∀ x, idle.line.slots.lane.get x = none) ∧
        ∀ x, ((after .publication idle).elect x).lane ≠ .claiming) := by
  decide +kernel

/-- The two orders of an interval end and its publication, each from the same state. -/
theorem witness_PublicationBeforeReading :
    let ended := after (.intervalEnd ⟨[], false, false, false⟩ 124 silentBoot) busy
    busy.intervalOpen ∧ (124 : Int) < 125 ∧ exec (.intervalEnd ⟨[], false, false, false⟩ 124 silentBoot) busy = .next ended ∧
      exec .publication ended = .next (after .publication ended) ∧
      exec (.intervalEnd ⟨[], true, false, true⟩ 124 silentBoot) busy = .next (after (.intervalEnd ⟨[], true, false, true⟩ 124 silentBoot) busy) ∧
      busy.election.restarting = false ∧ busy.line.state ≠ .idle ∧ up.intervalOpen ∧ up.line.state = .idle ∧
      up.line.flight = none ∧ ¬ publishesApart ⟨[], true, false, true⟩ ∧
      ((up.fitness.state = .fit ∧
          (after (.intervalEnd ⟨[], false, false, false⟩ 20 silentBoot)
            { up with fitness := { up.fitness with mismatches := 1 } }).fitness.state = .unfit) ∧
        (after (.intervalEnd ⟨[], false, false, false⟩ 20 silentBoot)
          { up with fitness := { up.fitness with state := .listen, listenCount := 2 } }).fitness.state = .fit) :=
  ⟨by unfold State.intervalOpen; decide +kernel, by decide, rfl, rfl, rfl, by decide, by decide,
    by unfold State.intervalOpen; decide +kernel, by decide, by decide, by unfold publishesApart; decide, by decide +kernel⟩

theorem witness_RateUpdateFollowsEntriesAndFill :
    (64 : Nat) % 2 = 0 ∧ (up.port 0).rEst = none ∧ (up.port 0).due = none ∧
      ((onPort fun u => { u with rEst := some 18500 }).port 0).rEst = some 18500 ∧ (4 : Nat) ≤ 4 ∧
      64 - 4 ≤ 60 ∧ ¬(5 ≤ 4 ∨ 64 - 4 ≤ 5) ∧
      ((onPort fun u => { u with rEst := some 18500, due := some 18490 }).port 0).due ≠ none := by decide

theorem witness_FigureFollowsItsThreeParts :
    let v : ServicePart :=
      ⟨{ ServiceCounters.reset with resolved := 9236, missing := 4, outputUncorrectable := 33, correctedBytes := 41580 },
        ⟨false, false, false, true⟩⟩
    (∃ p, v.tracking.get p = true) ∧ (figureOf true ⟨none, some 240, none, some 191⟩ v).p ≠ 0 ∧
      (figureOf true ⟨none, some 240, none, some 191⟩ v).sf = 582 ∧
      (figureOf false ⟨none, some 240, none, some 191⟩ v).sf = 0 := by decide +kernel

/-- Port 0 RELEASED and LIVE, S0's figure 886, a driving peer 5 with `sf`. -/
def challenging (sf challenge : Nat) : State :=
  let w := { snap with figures := ⟨some ⟨283, 9250, 0, 2313, 886⟩, none, none, none⟩ }
  let s := (latched w true busy).updElect 0 fun e =>
    { e with lane := .released, service := .live, activity := .quiet, challenge := challenge }
  { s with
    election := { s.election with
      peers := s.election.peers.set 5 (some ⟨1, 0x40, .powerOn, [⟨4107, sf, some 4, .driving⟩]⟩) } }

/-- 838 + 48 = 886 counts; 839 + 48 does not. -/
theorem witness_PublicationEvaluatesReleasedPort :
    let s := challenging 838 2
    let idle : State := { s with line := up.line }
    s.loader.phase = .running ∧ s.thermal.shutdown = false ∧ s.interval.latched = true ∧
      (s.interval.working.bind fun w => w.figures.get 0).map FigurePart.sf = some 886 ∧ s.interval.figured = true ∧
      s.election.restarting = false ∧ s.portConfig 0 = some q0 ∧
      (s.slotConfig q0.slot).map ServiceConfig.muxId = some 4107 ∧ (s.elect 0).lane = .released ∧
      s.fitness.state = .fit ∧ s.election.lineStuck = false ∧ (s.elect 0).service = .live ∧ 838 + 48 ≤ 886 ∧
      ¬ 839 + 48 ≤ 886 ∧ (s.elect 1).lane ≠ .released ∧ s.line.state ≠ .idle ∧
      (idle.line.state = .idle ∧ idle.line.flight = none ∧ (∀ x, idle.line.slots.lane.get x = none) ∧
        idle.line.slots.announce = none ∧ idle.line.slots.report = none ∧ ∀ y : Port, ¬ y < 0) := by decide +kernel

/-- And the port of that state claims at its third count, not at its second. -/
theorem test_third_challenge_claims :
    ((after .publication (challenging 838 2)).elect 0).lane = .claiming ∧
      ((after .publication (challenging 838 1)).elect 0).lane = .released ∧
      ((after .publication (challenging 839 2)).elect 0).challenge = 0 ∧
      ((after .publication { challenging 838 2 with line := up.line }).line.flight.map Flight.slot) = some (.lane 0) := by
  decide +kernel

/-- The ANNOUNCE starts at once on an IDLE line, and waits behind a CLAIM that the same publication brings. -/
theorem test_announce_on_idle_line :
    let alone := after .publication { latched snap false busy with line := up.line }
    let behind := after .publication { challenging 838 2 with line := up.line }
    (alone.line.flight.map Flight.slot = some .announce ∧ alone.line.slots.announce = none) ∧
      behind.line.flight.map Flight.slot = some (.lane 0) ∧ behind.line.slots.announce.isSome = true := by
  decide +kernel

theorem witness_IntervalEndChecksFitnessAndAges :
    let bad : State := { up with fitness := { up.fitness with mismatches := 1, checkValue := some up.config.checkValue } }
    let third : State := { up with fitness := { up.fitness with state := .listen, listenCount := 2 } }
    let backing := onElect fun e => { e with lane := .backoff, backoff := 2 }
    up.intervalOpen ∧ up.fitness.state ≠ .unconfigured ∧ bad.intervalOpen ∧
      (bad.fitness.underCheck = some 0 ∧ bad.fitness.mismatches ≠ 0 ∧ bad.fitness.mergeFault = none) ∧
      (third.intervalOpen ∧ third.fitness.underCheck = some 0 ∧ third.fitness.mismatches = 0 ∧
        third.fitness.checkValue = none ∧ third.fitness.listenCount + 1 = 3) ∧
      (backing.elect 0).lane = .backoff ∧ 2 ≤ (backing.elect 0).backoff ∧ up.election.restarting = false ∧
      State.reset.fitness.underCheck = none ∧ (up.slotConfig 1).isSome = true ∧
      ({ bad.fitness with mergeFault := some (1, 4) } : FitnessUnit).mergeFault ≠ none ∧
      up.fitness.mismatches = 0 := by
  unfold State.intervalOpen; decide +kernel

/-- A station that becomes UNFIT with a port that drives under RESTART, and with one whose CLAIM is in flight. -/
theorem witness_UnfitReleasesLanes :
    let bad : State := { busy with fitness := { busy.fitness with mismatches := 1 } }
    let driving := bad.updElect 0 fun e => { e with lane := .driving, mark := some .restart }
    let claiming : State :=
      { bad.updElect 0 fun e => { e with lane := .claiming } with
        line := { bad.line with flight := some ⟨.lane 0, ⟨claimOf 2 4 4107 0, 0⟩, false, false⟩ } }
    let quiet : State := { driving with line := up.line }
    (quiet.intervalOpen ∧ quiet.fitness.state = .fit ∧ quiet.fitness.mismatches ≠ 0 ∧ quiet.line.state = .idle ∧
        quiet.line.flight = none ∧ (quiet.elect 0).lane = .driving ∧ quiet.line.slots.get .announce = none ∧
        quiet.line.slots.get .report = none ∧ (∀ x, quiet.line.slots.get (.lane x) = none) ∧
        ∀ y : Port, ¬ y < 0) ∧
      driving.intervalOpen ∧ (driving.fitness.state = .fit ∧ driving.fitness.underCheck = some 0) ∧
      ((driving.elect 0).lane = .driving ∧ driving.portConfig 0 = some q0 ∧ driving.line.state ≠ .idle ∧
        (driving.elect 0).mark = some .restart) ∧
      (claiming.elect 0).lane = .claiming ∧ claiming.line.flight.map Flight.slot = some (.lane 0) := by
  unfold State.intervalOpen; decide +kernel

/-- A station whose stored check value is one above that of its configuration. -/
theorem witness_IntervalEndFindsConfigurationChanged :
    let value := checkOver (bitsOfBytes up.config.sequence)
    let s : State := { up with fitness := { up.fitness with checkValue := some (value + 1) } }
    s.fitness.checkValue = some (value + 1) ∧ checkOver (bitsOfBytes s.config.sequence) ≠ value + 1 := by
  refine ⟨rfl, fun h => ?_⟩
  have hv : checkOver (bitsOfBytes up.config.sequence) = checkOver (bitsOfBytes up.config.sequence) + 1 := h
  generalize checkOver (bitsOfBytes up.config.sequence) = v at hv
  simp at hv

theorem test_interval_end_fitness :
    let bad : State := { up with fitness := { up.fitness with mismatches := 1 } }
    let third : State := { up with fitness := { up.fitness with state := .listen, listenCount := 2 } }
    (after (.intervalEnd ⟨[], false, false, false⟩ 20 silentBoot) bad).fitness.state = .unfit ∧
      ((after (.intervalEnd ⟨[], false, false, false⟩ 20 silentBoot) third).elect 0).lane = .released := by decide +kernel

/-- A FIFO with room and a full one, and a status that is not UNCORRECTABLE. -/
theorem witness_ConditionedPacketEntersFifo :
    (Status.corrected 7) ≠ .uncorrectable ∧ (up.port 0).fifo.length < 32 ∧
      ¬ ((onPort fun u => { u with fifo := List.replicate 32 pkt }).port 0).fifo.length < 32 := by decide +kernel

theorem witness_DueEventSendsDiscardsOrAdmits :
    let paced := onPort fun u => { u with due := some 18500 }
    let drive := (paced.updElect 0 fun e => { e with lane := .driving }).updPort 0 fun u => { u with driversOn := true }
    let claim := paced.updElect 0 fun e => { e with lane := .claiming, settle := .expired, activity := .quiet }
    let last := drive.updPort 0 fun u => { u with onLane := some ⟨pkt, true⟩, finishOrder := true }
    paced.portConfig 0 = some q0 ∧ (paced.port 0).due = some 18500 ∧
      ((drive.elect 0).lane = .driving ∧ (drive.port 0).driversOn = true ∧ (drive.port 0).onLane = none) ∧
      ((claim.elect 0).lane = .claiming ∧ (claim.elect 0).settle = .expired ∧ (claim.elect 0).activity = .quiet ∧
        (claim.port 0).finishOrder = false) ∧
      ((paced.elect 0).lane = .disabled ∧ (paced.port 0).driversOn = false) ∧
      (last.port 0).onLane ≠ none ∧ (last.port 0).finishOrder = true := by decide +kernel

theorem witness_PortTakesSignalsAndSensesLane :
    let dark : State :=
      { (onPort fun u => { u with recorded := .live, rEst := some 18500 }) with portSignals := ⟨[.dark], [], [], []⟩ }
    let live : State := { up with portSignals := ⟨[.live], [], [], []⟩ }
    (dark.portSignals.get 0 = .dark :: [] ∧ dark.thermal.shutdown = false ∧ .dark ≠ (dark.port 0).recorded ∧
      (dark.port 0).rEst = some 18500) ∧
      (live.portSignals.get 0 = .live :: [] ∧ .live ≠ (live.port 0).recorded) ∧
      ServiceState.dark = (up.port 0).recorded ∧ shut.thermal.shutdown = true ∧ (up.port 0).sensing = true ∧
      (up.port 0).activityTimer ≠ none ∧ (up.port 2).sensing = false ∧ (up.port 2).activityTimer = none ∧
      up.portConfig 2 = none ∧ (up.port 0).due = none := by decide +kernel

theorem witness_ReadbackJudgesPacketOnce :
    let s := onPort fun u => { u with driversOn := true, onLane := some ⟨pkt, false⟩, mismatch := 1 }
    (s.port 0).onLane = some ⟨pkt, false⟩ ∧ (s.port 0).driversOn = true ∧ (s.port 0).mismatch ≠ 0 ∧
      (up.port 0).mismatch = 0 ∧ (up.port 0).driversOn = false ∧ (s.port 0).finishOrder = false ∧
      ({ pkt.header with continuity := 8 } : Header) ≠ pkt.header := by decide +kernel

theorem witness_NoticesEndDriving :
    let s := (onPort fun u => { u with notices := [.finished] }).updElect 0 fun e =>
      { e with lane := .driving, mark := some .restart }
    s.portConfig 0 = some q0 ∧ (s.port 0).notices = .finished :: [] ∧ s.thermal.shutdown = false ∧
      (s.elect 0).mark = some .restart ∧ (s.elect 0).lane = .driving ∧ (up.elect 0).mark = none ∧
      (up.elect 0).lane = .disabled ∧ shut.thermal.shutdown = true := by decide +kernel

theorem witness_ServiceStateHoldsResumesWithdraws :
    let s : State := { onElect (fun e => { e with lane := .holding, holdTimer := some 0 }) with
      electionSignals := ⟨[.live], [], [], []⟩ }
    s.portConfig 0 = some q0 ∧ s.electionSignals.get 0 = .live :: [] ∧ s.thermal.shutdown = false ∧
      (s.elect 0).mark = none ∧ (s.elect 0).lane = .holding ∧ (s.elect 0).holdTimer = some 0 ∧
      ((onElect fun e => { e with lane := .driving }).elect 0).lane = .driving ∧
      ((onElect fun e => { e with lane := .claiming }).elect 0).lane = .claiming ∧
      (up.elect 0).holdTimer = none ∧ (up.elect 0).lane ≠ .driving ∧ up.electionSignals.get 0 = [] ∧
      (let quiet := onElect fun e => { e with lane := .holding, holdTimer := some 500 }
       quiet.electionSignals.get 0 = [] ∧ (quiet.elect 0).lane = .holding ∧ (quiet.elect 0).holdTimer = some 500 ∧
        (quiet.elect 0).mark = none) := by decide +kernel

theorem witness_SettledClaimIsAdmittedOrRefused :
    let s := (onElect fun e => { e with lane := .claiming, settle := .expired, yieldWait := .expired }).updPort 0
      fun u => { u with activitySignals := [.quiet, .active] }
    (s.port 0).activitySignals = .quiet :: [.active] ∧ s.thermal.shutdown = false ∧ (s.elect 0).lane = .claiming ∧
      (s.elect 0).settle = .expired ∧ (s.port 0).due = none ∧ (s.elect 0).yieldWait = .expired ∧
      ((onElect fun e => { e with settle := .running 40 }).elect 0).settle = .running 40 ∧
      ((onElect fun e => { e with yieldWait := .running 200 }).elect 0).yieldWait = .running 200 ∧
      (up.elect 0).lane ≠ .claiming ∧ (s.elect 0).activity = .active := by decide +kernel

theorem witness_PeerFramesUpdatePeerView :
    let own := heardOwn 3 [0x40, 0, 20]
    let other := heardFrom 3 [0x40, 0, 20]
    other.loader.phase = .running ∧ other.thermal.shutdown = false ∧ other.line.heard = ⟨3, 5, [0x40, 0, 20]⟩ :: [] ∧
      own.line.heard = ⟨3, 2, [0x40, 0, 20]⟩ :: [] ∧ own.loader.stationNumber = 2 ∧
      (heardFrom 1 [4, 0]).line.heard = ⟨1, 5, [4, 0]⟩ :: [] ∧ other.portConfig 0 = some q0 ∧
      other.slotConfig q0.slot = some c0 ∧ other.portConfig 2 = none := by decide +kernel

/-- A CLAIM; an ANNOUNCE with two records, the second without a lane; a RELEASE reason, and a lane, out of range. -/
theorem witness_BodiesAreRead :
    let claim : Frame := ⟨2, 5, [4, 0x10, 0x0B, 3, 0xB7]⟩
    let announce : Frame := ⟨3, 5, [0x40, 2, 20, 0x10, 0x0B, 3, 0xFF, 15, 5, 0, 1, 0, 0, 255, 0]⟩
    (claim.lengthListed ∧ ¬ claim.fieldWrong) ∧ (announce.lengthListed ∧ ¬ announce.fieldWrong) ∧
      announce.announced.records[1]? = some ⟨1, 0, none, .disabled⟩ ∧ Frame.fieldWrong ⟨1, 5, [4, 4]⟩ ∧
      Frame.fieldWrong ⟨3, 5, [0x40, 3, 20]⟩ ∧ ¬ Frame.lengthListed ⟨3, 5, [0x40, 2, 20, 0]⟩ := by
  refine ⟨⟨?_, ?_⟩, ⟨⟨?_, ?_⟩, ?_⟩, ?_, ?_, ?_, ?_⟩
  · simp [Frame.lengthListed]
  · simp [Frame.fieldWrong, Frame.bodyByte]
  · decide
  · exact .inr (.inr (.inr (.inl ⟨rfl, 2, by decide, rfl⟩)))
  · unfold Frame.fieldWrong Frame.recordWrong; decide
  · decide +kernel
  · unfold Frame.fieldWrong Frame.recordWrong; decide
  · unfold Frame.fieldWrong Frame.recordWrong; decide
  · rintro ⟨-, h⟩
    simp at h
    omega

/-- A CLAIM for lane 4 and multiplex 4107 with SF 951; with own figure 0 it beats every state of the port. -/
theorem witness_PortsAnswerClaimAndContention :
    let f : Frame := ⟨2, 5, [4, 0x10, 0x0B, 3, 0xB7]⟩
    let s := heardFrom 2 f.body
    s.loader.phase = .running ∧ s.thermal.shutdown = false ∧ s.line.heard = f :: [] ∧
      f.station ≠ s.loader.stationNumber ∧ s.portConfig 0 = some q0 ∧ s.slotConfig q0.slot = some c0 ∧
      f.lane = q0.lane ∧ f.claimMux = c0.muxId ∧ f.claimSF = 951 ∧ s.election.restarting = false ∧
      (∀ y, y ≠ 0 → (s.portConfig y).map PortConfig.lane ≠ some q0.lane) ∧
      releasing.election.restarting = true ∧ (heardFrom 0 [4]).line.heard = ⟨0, 5, [4]⟩ :: [] ∧
      Frame.lane ⟨0, 5, [4]⟩ = q0.lane ∧ s.election.peers.get 5 = none ∧
      (challenging 838 2).election.peers.get 5 = some ⟨1, 0x40, .powerOn, [⟨4107, 838, some 4, .driving⟩]⟩ ∧
      ((onElect fun e => { e with lane := .claiming }).elect 0).lane = .claiming := by decide +kernel

/-- A CLAIM and a CONTENTION for lane 9, to which no port is bound, from a peer whose record names it. -/
theorem witness_ForeignLaneIsOnlyRecorded :
    let view : PeerEntry := ⟨1, 0x40, .powerOn, [⟨4107, 838, some 9, .driving⟩]⟩
    let s : State :=
      { heardFrom 2 [9, 0x10, 0x0B, 3, 0xB7] with
        election := { up.election with peers := up.election.peers.set 5 (some view) } }
    (∀ y, (s.portConfig y).map PortConfig.lane ≠ some 9) ∧ s.line.heard.map Frame.lane = [9] ∧
      Frame.lane ⟨0, 5, [9]⟩ = 9 ∧ s.election.peers.get 5 = some view ∧
      (((after .claimFrame s).election.peers.get 5).map fun v => v.records) = some [⟨4107, 951, some 9, .claiming⟩] := by
  decide +kernel

theorem witness_PendingFrameStartsOnIdleLine :
    let s : State := { up with line := { up.line with slots := { up.line.slots with announce := some ⟨⟨3, 2, [0, 0, 0]⟩, 0⟩ } } }
    s.loader.phase = .running ∧ s.thermal.shutdown = false ∧ s.line.state = .idle ∧ s.line.flight = none ∧
      s.line.slots.get .announce ≠ none ∧ busy.line.state ≠ .idle ∧ up.line.slots.get .report = none ∧
      ((flying (.lane 0) (claimOf 2 4 4107 0) false).line.flight.map Flight.slot = some (.lane 0) ∧
        TxSlot.announce ≠ .lane 0 ∧ up.line.flight = none) := by
  decide +kernel

/-- An empty body, and 32 bytes. -/
theorem witness_ReceptionReadsBackSentFrame :
    (Frame.lengthListed ⟨6, 3, []⟩ ∧ ¬ Frame.fieldWrong ⟨6, 3, []⟩) ∧
      Frame.lengthListed ⟨5, 3, List.replicate 32 7⟩ ∧ ¬ Frame.fieldWrong ⟨5, 3, List.replicate 32 7⟩ := by
  simp [Frame.lengthListed, Frame.fieldWrong]

/-- Each test of R110 has a reception that fails it first. -/
theorem test_first_failed_test :
    let restart := Frame.cells ⟨6, 3, []⟩
    testFrame (restart.take 13) = .truncated ∧ testFrame (List.replicate 14 true) = .badLength ∧
      testFrame (restart.take 29) = .truncated ∧ testFrame (restart ++ [true]) = .badLength ∧
      testFrame (restart.set 29 true) = .badCheck ∧ testFrame (Frame.cells ⟨6, 3, [0]⟩) = .badLength ∧
      testFrame (Frame.cells ⟨7, 3, [9]⟩) = .badField := by decide +kernel

/-- Cells for each clause; the restart request of section 6.2.1, with its check 719C hex. -/
theorem witness_ReceptionsAreTested :
    let restart := Frame.cells ⟨6, 3, []⟩
    (cellsNumber restart 8 6 = 0 ∧ restart.length = 30 + 8 * 0 ∧ cellsNumber restart 1 4 = 6 ∧ cellsNumber restart 5 3 = 3) ∧
      checkOver ((restart.drop 1).take 13) = 0x719C#16 ∧ cellsNumber restart 14 16 = 0x719C ∧
      32 < cellsNumber (List.replicate 14 true) 8 6 ∧ (restart.take 29).length < 30 ∧ 30 < (restart ++ [true]).length ∧
      cellsNumber (restart.set 29 true) 14 16 ≠ 0x719C := by decide +kernel

/-- The first cell after the start cell, and the last of 30. -/
theorem witness_SingleWrongCellIsNeverGood :
    ([] : List Byte).length ≤ 32 ∧ 1 ≤ 1 ∧ 29 < (Frame.cells ⟨6, 3, []⟩).length ∧
      testFrame ((Frame.cells ⟨6, 3, []⟩).set 1 true) = .badCheck := by decide +kernel

theorem witness_LineIdleEndsReception :
    let cells := Frame.cells ⟨6, 3, []⟩
    let short : State := { busy with line := { busy.line with reception := .collecting (List.replicate 13 false) } }
    let behind : LineUnit :=
      { (heardFrom 2 [4, 0x10, 0x0B, 3, 0xB7]).line with
        slots := { up.line.slots with announce := some ⟨⟨3, 2, [0, 0, 0]⟩, 0⟩ } }
    let f := flying .announce ⟨3, 2, [0x40, 0, 20]⟩ false
    busy.loader.phase ≠ .held ∧ busy.thermal.shutdown = false ∧ up.line.state = .idle ∧ busy.line.state = .busy ∧
      testFrame cells = .good ⟨6, 3, []⟩ ∧ (short.line.heard = [] ∧ testFrame (List.replicate 13 false) = .truncated) ∧
      loading.loader.phase = .loading ∧
      ((f.line.flight.map fun l => l.ended) = some false ∧ f.line.reception = .collecting [false] ∧
        testFrame (Frame.cells ⟨3, 2, [0x40, 0, 20]⟩) = .good ⟨3, 2, [0x40, 0, 20]⟩ ∧
        [false] <+: Frame.cells ⟨3, 2, [0x40, 0, 20]⟩) ∧
      ((f.line.flight.map fun l => l.placed.frame) = some ⟨3, 2, [0x40, 0, 20]⟩ ∧ [true] ≠ [] ∧
        Frame.body ⟨3, 2, [0x40, 0, 20]⟩ = [0x40, 0, 20]) ∧
      ((flying .announce ⟨6, 3, []⟩ true).line.flight.map fun l => l.ended) = some true ∧
      busy.line.reception = .off ∧ ({ busy.line with state := .stuck } : LineUnit).state = .stuck ∧
      behind.slots.get .announce ≠ none ∧ behind.flight = none ∧ behind.heard.map Frame.station = [5] ∧
      up.loader.stationNumber = 2 := by
  decide +kernel

theorem witness_StuckLineCutsReceptionAndClaims :
    let f := flying .announce ⟨6, 3, []⟩ false
    let cells := Frame.cells ⟨6, 3, []⟩
    busy.loader.phase ≠ .held ∧ busy.thermal.shutdown = false ∧ busy.line.state = .busy ∧ up.line.state ≠ .busy ∧
      f.line.flight = some ⟨.announce, ⟨⟨6, 3, []⟩, 0⟩, false, false⟩ ∧ f.line.state = .busy ∧
      true ∈ cells.drop 27 ∧ true ∉ cells.drop 28 := by
  decide +kernel

/-- RESTART(3) has its last 1 at cell 27: with 27 cells collected it goes on into STUCK, and is lost there at that
1 or, at the latest, as the line clears; with 28 it is lost at once. Each time it is pending again and marked. -/
theorem test_stuck_line_and_own_frame :
    let f := flying .announce ⟨6, 3, []⟩ false
    let read (n : Nat) : State :=
      { f with line := { f.line with reception := .collecting ((Frame.cells ⟨6, 3, []⟩).take n) } }
    let held := after .lineStuck (read 27)
    let again : TxSlots := { up.line.slots with announce := some ⟨⟨6, 3, []⟩, 0⟩ }
    held.line.flight = f.line.flight ∧ held.line.counters.arbitrationLosses = 0 ∧
      (∀ u ∈ [after (.arbitrationLoss 27) held, after .lineStuck (read 28)],
        u.line.flight = none ∧ u.line.reception = .off ∧ u.line.counters.arbitrationLosses = 1 ∧
          u.line.slots = again ∧ u.line.retry = some .announce ∧ u.line.counters.truncated = 1) ∧
      (after .lineIdle held).line.counters.arbitrationLosses = 1 ∧
      (after .lineIdle held).line.flight.map Flight.slot = some .announce := by
  decide +kernel

/-- Cell 1 of RESTART(3) is a 0, cell 2 a 1. -/
theorem witness_WrongOwnCellLosesFrame :
    let s := flying .announce ⟨6, 3, []⟩ false
    s.line.flight = some ⟨.announce, ⟨⟨6, 3, []⟩, 0⟩, false, false⟩ ∧ s.line.reception = .collecting [false] ∧
      [false].length ≤ 1 ∧ (Frame.cells ⟨6, 3, []⟩)[1]? = some false ∧ (Frame.cells ⟨6, 3, []⟩)[2]? = some true ∧
      s.loader.phase ≠ .held ∧ s.thermal.shutdown = false ∧ s.line.state = .busy ∧
      [false] <+: Frame.cells ⟨6, 3, []⟩ ∧ (after .lineStuck s).line.state = .stuck ∧
      (after .lineStuck s).line.reception = .off ∧ (after .lineStuck s).line.flight = s.line.flight := by decide +kernel

theorem witness_FallingEdgeBeginsOrCollects :
    let pending : State := { up with line := { up.line with slots := { up.line.slots with announce := some ⟨⟨3, 2, [0, 0, 0]⟩, 0⟩ } } }
    let f := flying .announce ⟨6, 3, []⟩ false
    State.reset.loader.phase = .held ∧ shut.thermal.shutdown = true ∧
      (up.loader.phase ≠ .held ∧ up.thermal.shutdown = false ∧ up.line.state = .idle ∧
        up.line.slots.get .announce = none ∧ up.line.slots.get .report = none ∧ ∀ x, up.line.slots.get (.lane x) = none) ∧
      (pending.line.state = .idle ∧ pending.loader.phase = .running ∧ pending.line.flight = none ∧
        pending.line.slots.get .announce ≠ none) ∧
      (f.line.state = .busy ∧ f.line.reception = .collecting [false] ∧
        (Frame.cells ⟨6, 3, []⟩)[1]? ≠ some (!false)) ∧
      (busy.line.state = .busy ∧ busy.line.reception = .off) ∧
      ({ busy.line with state := .stuck } : LineUnit).state = .stuck := by decide +kernel

theorem witness_SentFrameIsToldToItsOwner :
    let claim := (flying (.lane 0) (claimOf 2 4 4107 886) true).updElect 0 fun e => { e with lane := .claiming }
    let out := (flying (.lane 0) (releaseOf 2 4 .restart) true).updElect 0 fun e => { e with releaseOut := true }
    let last : State := { out with election := { out.election with restarting := true } }
    let reply : State := { flying .report (reportOf 2 11 []) true with reply := some ⟨11, List.replicate 33 0, 0, 0⟩ }
    (flying .announce ⟨6, 3, []⟩ false).line.flight.map (fun f => f.ended) = some false ∧
      (claim.line.flight.map (fun f => (f.ended, f.slot)) = some (true, .lane 0) ∧ (claim.elect 0).slotMark = false ∧
        (claim.elect 0).lane = .claiming) ∧
      ((out.elect 0).releaseOut = true ∧ (releaseOf 2 4 .restart).body[1]? = some 3) ∧
      (last.election.restarting = true ∧ last.election.reported = false ∧
        ∀ y, (last.elect y).lane ≠ .driving ∧ (last.elect y).lane ≠ .holding ∧ (y ≠ 0 → (last.elect y).releaseOut = false)) ∧
      reply.reply.map (fun r => (r.serial, r.content.length, r.part)) = some (0, 33, 0) ∧ 31 * (0 + 1) < 33 := by
  decide +kernel

theorem witness_QueryPlacesFirstPartOfPage :
    (heardOwn 4 [11]).loader.phase = .running ∧ (heardOwn 4 [11]).thermal.shutdown = false ∧
      (heardOwn 4 [11]).line.heard = ⟨4, 2, [11]⟩ :: [] ∧ (heardFrom 4 [12]).line.heard = ⟨4, 5, [12]⟩ :: [] ∧
      (up.slotConfig 0).isSome = true ∧ (up.slotConfig 2).isSome = false := by decide +kernel

theorem witness_RestartFrameReleasesLanes :
    let s := (heardOwn 6 []).updElect 0 fun e => { e with lane := .driving }
    s.loader.phase = .running ∧ s.thermal.shutdown = false ∧ s.line.heard = ⟨6, 2, []⟩ :: [] ∧
      s.loader.stationNumber = 2 ∧ s.loader.releasing = false ∧ (s.elect 0).lane = .driving ∧
      (s.elect 0).mark = none ∧ (s.elect 1).lane ≠ .driving ∧ (s.elect 1).lane ≠ .holding ∧
      releasing.loader.releasing = true ∧
      ((heardOwn 6 []).updElect 0 fun e => { e with lane := .claiming }).line.heard = ⟨6, 2, []⟩ :: [] := by decide +kernel

theorem witness_MonitorSelectsSourceAndUnreadFramesPass :
    (heardOwn 7 [8]).line.heard = ⟨7, 2, [8]⟩ :: [] ∧ 5 + (3 : Port).val = 8 ∧ 1 + (3 : Path).val = 4 ∧
      (heardFrom 5 [0]).line.heard = ⟨5, 5, [0]⟩ :: [] ∧ (heardFrom 15 []).line.heard = ⟨15, 5, []⟩ :: [] ∧
      up.monitor.queue = [] ∧ up.monitor.current = none ∧ (MonitorUnit.mk .off (some pkt) []).current ≠ none ∧
      (MonitorUnit.mk .off (some pkt) [pkt]).queue.length < 2 ∧ 2 ≤ (MonitorUnit.mk .off (some pkt) [pkt, pkt]).queue.length ∧
      ({ up.monitor with current := some pkt, queue := [pkt] } : MonitorUnit).queue = [pkt] := by
  decide +kernel

/-- A running station meets every law that a step keeps. -/
theorem witness_StepKeepsLaneLaw : up.laneLaw := by
  unfold State.laneLaw State.drivesInDriveOnly State.electsWhenFit State.activePortsBound State.marksOnDrivers
  decide +kernel

theorem up_contributorLaw : up.contributorLaw := by
  have member : ∀ k, (up.slotConfig k).isSome = true → ∃ p, (up.service k).contributors.get p = true := by
    decide +kernel
  have inside : ∀ k p, (up.service k).contributors.get p = true →
      (up.slotConfig k).all (fun c => c.contributors.get p) = true := by decide +kernel
  have apart : ∀ k j : SlotNo, j ≠ k → ∀ p : Path,
      ¬ ((up.slotConfig k).any (fun c => c.contributors.get p) = true ∧
        (up.slotConfig j).any (fun d => d.contributors.get p) = true) := by decide +kernel
  intro k c hc
  refine ⟨member k (by rw [hc]; rfl), fun p hp => ?_, fun j d hj hd p h => ?_⟩
  · have := inside k p hp
    rwa [hc] at this
  · exact apart k j hj p ⟨by rw [hc]; exact h.1, by rw [hd]; exact h.2⟩

/-- With 47 entries behind the front of S0. -/
theorem witness_StepKeepsMergeLaws : nearlyFull.windowLaw ∧ up.contributorLaw := by
  refine ⟨⟨by unfold State.windowsBounded; decide +kernel, by unfold State.entriesHoldCopies; decide +kernel,
    by unfold State.statesFollow Service.stateFollows; decide +kernel, fun k => ?_, fun p => ?_, fun k r h => ?_⟩,
    up_contributorLaw⟩
  · match k with
    | 0 => exact witness_CopyIsStoredOrOpened.2.2.1
    | 1 => exact ⟨fun _ => ⟨rfl, rfl⟩, fun n hn => by cases hn⟩
    | 2 => exact ⟨fun _ => ⟨rfl, rfl⟩, fun n hn => by cases hn⟩
    | 3 => exact ⟨fun _ => ⟨rfl, rfl⟩, fun n hn => by cases hn⟩
  · match p with
    | 0 =>
      refine ⟨fun d hd => (by cases hd), fun r hr => ?_⟩
      have : PathMessage.record r = .record rec0 := List.mem_singleton.mp hr
      cases this
      unfold Record.inRange sizeOk; decide
    | 1 => exact ⟨fun d hd => (by cases hd), fun r hr => by cases hr⟩
    | 2 => exact ⟨fun d hd => (by cases hd), fun r hr => by cases hr⟩
    | 3 => exact ⟨fun d hd => (by cases hd), fun r hr => by cases hr⟩
  · cases h

theorem shut_shutdownLaw : shut.shutdownLaw := by
  have dark : ∀ k, (shut.service k).window = [] ∧ (shut.service k).state = .dark := by decide +kernel
  exact ⟨fun _ => rfl, fun _ =>
    ⟨rfl, by decide +kernel, rfl, fun k _ _ => dark k, rfl, rfl, rfl, by decide +kernel⟩⟩

/-- P1 parked, its stop taken, and the acknowledgement on its way to a working controller. -/
def parking : State :=
  { answered (.park 1) (.parked 1) with
    services := up.services.set 0 { up.service 0 with contributors := ⟨true, false, false, false⟩ } }

theorem parking_parkedOut : parking.parkedOut 1 :=
  ⟨by decide +kernel, 0, c0, by decide +kernel, by decide⟩

/-- A SHUTDOWN; a stack with P1 on it; and the step that pushes P1. -/
theorem witness_StepKeepsShutdownAndStackLaws :
    (shut.thermal.shutdown = true ∧ shut.shutdownLaw) ∧
      parking.contributorLaw ∧ parking.shutdownLaw ∧ parking.stackLaw ∧
      (after .parkAcknowledgement parking).thermal.stack = [1] ∧
      ({ parking with answers := [], thermal := { up.thermal with stack := [1] } } : State).stackLaw := by
  have member : ∀ k, (parking.slotConfig k).isSome = true → ∃ p, (parking.service k).contributors.get p = true := by
    decide +kernel
  have inside : ∀ k p, (parking.service k).contributors.get p = true → (up.service k).contributors.get p = true := by
    decide +kernel
  have uncut : ∀ p, ¬ parking.stopsAfterCascade p := by
    rintro p ⟨k, h⟩
    cases h
  refine ⟨⟨rfl, shut_shutdownLaw⟩, fun k c hc => ?_, ⟨fun _ => rfl, fun h => by cases h⟩, ?_, by decide +kernel, ?_⟩
  · have law := up_contributorLaw k c hc
    exact ⟨member k (by rw [hc]; rfl), fun p hp => law.2.1 p (inside k p hp), law.2.2⟩
  · refine ⟨by decide, by decide, fun p hp => (by cases hp), fun h => absurd rfl h, fun _ => ?_⟩
    exact ⟨by decide, .inr (.inr (.inl ⟨rfl, rfl, parking_parkedOut, uncut⟩))⟩
  · refine ⟨by decide, by decide, fun p hp => ?_, fun h => absurd rfl h, fun _ => ⟨rfl, rfl, uncut⟩⟩
    cases List.mem_singleton.mp hp
    exact ⟨by decide +kernel, parking_parkedOut, by decide +kernel⟩

theorem witness_StepKeepsRanges :
    up.fifoLaw ∧ up.figureLaw ∧ up.peerLaw ∧ up.pathRanges ∧ up.serviceRanges ∧ up.lineRanges ∧ up.portRanges ∧
      up.electionRanges ∧ up.unitRanges := by
  have ports : ∀ x, (up.portConfig x).all (fun c =>
      decide (c.depth = 32 ∨ c.depth = 64 ∨ c.depth = 128) && decide ((up.port x).fifo.length ≤ c.depth) &&
        decide ((up.port x).peak ≤ c.depth / 2)) = true := by decide +kernel
  have figures : ∀ k, up.interval.published.figures.get k = none := by decide +kernel
  have peers : ∀ i, up.election.peers.get i = none := by decide +kernel
  have rates : ∀ x, (up.port x).rOut = none ∧ (up.port x).rEst = none ∧ (up.port x).mismatch ≤ 1 := by decide +kernel
  have counts : ∀ x, (up.port x).counters.inRange := by unfold PortCounters.inRange; decide +kernel
  have runs : ∀ p, (up.path p).attempts ≤ 1 ∧ (up.path p).run ≤ 24 ∧ (up.path p).state ≠ .tracking ∧
      (up.path p).measurements = none ∧ (up.path p).continuity.length ≤ 8 ∧ (up.path p).counters.inRange ∧
      (up.path p).cumulativeUncorrectable ≤ 4294967295 ∧ (up.config.candidates.get p).length ≤ 4 ∧
      (up.path p).candidateIndex = 0 := by unfold PathCounters.inRange; decide +kernel
  have snapshots : ∀ k, up.interval.published.services.get k = none := by decide +kernel
  have results : up.fitness.lastResult = none ∧ up.fitness.mergeFault = none := by decide +kernel
  refine ⟨fun x c hc => ?_, ⟨fun k f hf => ?_, fun w hw => ?_⟩, fun i e he => ?_,
    ⟨fun p => ?_, fun h => absurd rfl h, ?_, fun w hw => ?_⟩, ⟨?_, fun k r h => ?_, fun k v hv => ?_, fun w hw => ?_⟩, ?_,
    ⟨fun x => ⟨counts x, (rates x).2.2, fun r hr => ?_, fun r hr => ?_⟩, ?_, fun w hw => ?_⟩, ?_, ?_⟩
  · have h := ports x
    rw [hc] at h
    simpa [and_assoc] using h
  · rw [figures k] at hf; cases hf
  · cases hw
  · rw [peers i] at he; cases he
  · obtain ⟨a, r, t, m, l, c, u, n, z⟩ := runs p
    exact ⟨⟨a, r, fun h => absurd h t, fun _ h => (nomatch m.symm.trans h), l, c, u⟩, n, .inl z⟩
  · unfold Snapshot.pathsInRange PathCounters.inRange; decide +kernel
  · cases hw
  · unfold ServiceCounters.inRange; decide +kernel
  · cases h
  · rw [snapshots k] at hv; cases hv
  · cases hw
  · unfold State.lineRanges; decide +kernel
  · rw [(rates x).2.1] at hr; cases hr
  · rw [(rates x).1] at hr; cases hr
  · unfold Snapshot.portsInRange PortCounters.inRange; decide +kernel
  · cases hw
  · unfold State.electionRanges PortElection.inRange; decide +kernel
  · refine ⟨by decide +kernel, by decide +kernel, by decide +kernel, fun r h => ?_, fun k n h => ?_, by decide +kernel,
      by decide +kernel, by decide +kernel, by decide +kernel, by decide +kernel, by decide +kernel, by decide +kernel⟩
    · rw [results.1] at h; cases h
    · rw [results.2] at h; cases h

end Sys2Proof.Tests
end

section
/-!
Positions on the circle of 1024 × N ordinals (R22, R26, R27), and the obligation that says so (O16).
-/
namespace Sys2Proof.Machine

/-! ### The circle (R26, R27) -/

theorem modulus_pos {n : Nat} (hn : 0 < n) : 0 < modulus n := by
  unfold modulus; omega

/-- 256 superframes of 4 frames of N packets make M places. -/
theorem ordinal_lt_modulus {n : Nat} {q : Position} (hq : q.packet < n) : ordinal n q < modulus n := by
  have frames : q.superframe.val * 4 + q.frame.val ≤ 1023 := by omega
  calc ordinal n q < (q.superframe.val * 4 + q.frame.val) * n + n := Nat.add_lt_add_left hq _
    _ = (q.superframe.val * 4 + q.frame.val + 1) * n := (Nat.succ_mul _ _).symm
    _ ≤ modulus n := Nat.mul_le_mul_right n (Nat.succ_le_succ frames)

theorem distance_lt_modulus {n : Nat} (hn : 0 < n) (a b : Position) : distance n a b < modulus n :=
  Nat.mod_lt _ (modulus_pos hn)

/-- The model's distance, which avoids subtraction below zero, is the integer residue R27 names. -/
theorem distance_eq_sub_emod {n : Nat} (hn : 0 < n) (a b : Position) :
    (distance n a b : Int) = ((ordinal n a : Int) - ordinal n b) % modulus n := by
  have below := (Nat.mod_lt (ordinal n b) (modulus_pos hn)).le
  calc (distance n a b : Int)
      = (ordinal n a + ((modulus n : Int) - (ordinal n b : Int) % modulus n)) % modulus n := by
        unfold distance; push_cast [below]; rfl
    _ = ((ordinal n a : Int) - (ordinal n b : Int) % modulus n + modulus n) % modulus n := by
        congr 1; ring
    _ = ((ordinal n a : Int) - ordinal n b) % modulus n := by
        rw [Int.add_emod_right, Int.sub_emod_emod]

/-- The two ways round between two places make one whole turn, or both are nought. -/
theorem distance_swap {n : Nat} (hn : 0 < n) (a b : Position) :
    distance n a b = 0 ∧ distance n b a = 0 ∨ distance n a b + distance n b a = modulus n := by
  have opposite : (modulus n : Int) ∣ distance n a b + distance n b a := by
    rw [distance_eq_sub_emod hn, distance_eq_sub_emod hn, Int.dvd_iff_emod_eq_zero, ← Int.add_emod]
    simp
  obtain ⟨turns, total⟩ : modulus n ∣ distance n a b + distance n b a := by exact_mod_cast opposite
  have there := distance_lt_modulus hn a b
  have back := distance_lt_modulus hn b a
  match turns with
  | 0 => left; omega
  | 1 => right; omega
  | k + 2 =>
    have := Nat.mul_le_mul_left (modulus n) (Nat.le_add_left 2 k)
    omega

/-! ### The three outcomes of a comparison (R27) -/

theorem samePosition_iff (n : Nat) (a b : Position) : samePosition n a b = true ↔ distance n a b = 0 := by
  simp [samePosition]

theorem newer_iff (n : Nat) (a b : Position) :
    newer n a b = true ↔ 1 ≤ distance n a b ∧ distance n a b < 512 * n := by
  have half : modulus n / 2 = 512 * n := by unfold modulus; omega
  simp [newer, half]

theorem samePosition_eq_false_iff (n : Nat) (a b : Position) :
    samePosition n a b = false ↔ 1 ≤ distance n a b := by
  rw [← Bool.not_eq_true, samePosition_iff]; omega

theorem newer_eq_false_iff (n : Nat) (a b : Position) :
    newer n a b = false ↔ distance n a b = 0 ∨ 512 * n ≤ distance n a b := by
  rw [← Bool.not_eq_true, newer_iff]; omega

/-- R27 (3): what is neither the same position nor newer is half a turn or more away. -/
theorem older_iff {n : Nat} (hn : 0 < n) (a b : Position) :
    samePosition n a b = false ∧ newer n a b = false ↔ 512 * n ≤ distance n a b := by
  rw [samePosition_eq_false_iff, newer_eq_false_iff]; omega

theorem newer_asymm {n : Nat} {a b : Position} (hn : 0 < n) (h : newer n a b = true) :
    newer n b a = false ∧ samePosition n b a = false := by
  have turn := distance_swap hn a b
  rw [newer_iff] at h
  rw [newer_eq_false_iff, samePosition_eq_false_iff]
  unfold modulus at turn
  omega

theorem newer_false_of_half_turn {n : Nat} {a b : Position} (hn : 0 < n) (h : distance n a b = 512 * n) :
    newer n a b = false ∧ newer n b a = false := by
  have turn := distance_swap hn a b
  rw [newer_eq_false_iff, newer_eq_false_iff]
  unfold modulus at turn
  omega

/-! ### The counter's advance (R22) -/

theorem next_packet_lt {n : Nat} (hn : 0 < n) (q : Position) : (q.next n).packet < n := by
  unfold Position.next
  split
  · assumption
  · split <;> exact hn

/-- After the last packet of a frame, the frame stage and the superframe stage count on together, as one
counter of 1024 frames. -/
theorem next_frames {n : Nat} {q : Position} (last : ¬ q.packet + 1 < n) :
    (q.next n).superframe.val * 4 + (q.next n).frame.val =
      (q.superframe.val * 4 + q.frame.val + 1) % 1024 := by
  unfold Position.next
  rw [if_neg last]
  split <;> simp only [Fin.val_add, Fin.lt_def] at * <;> omega

/-- The advance raises the ordinal by one, from M − 1 to 0: within a frame, and from its last packet. -/
theorem ordinal_next {n : Nat} {q : Position} (hq : q.packet < n) :
    ordinal n (q.next n) = (ordinal n q + 1) % modulus n := by
  by_cases inner : q.packet + 1 < n
  · have raised : ordinal n (q.next n) = ordinal n q + 1 := by
      simp [Position.next, inner, ordinal, Nat.add_assoc]
    have bound := ordinal_lt_modulus (next_packet_lt (by omega : 0 < n) q)
    rw [Nat.mod_eq_of_lt (raised ▸ bound), raised]
  · have start : (q.next n).packet = 0 := by
      unfold Position.next; rw [if_neg inner]; split <;> rfl
    have full : q.packet + 1 = n := by omega
    calc ordinal n (q.next n)
        = (q.superframe.val * 4 + q.frame.val + 1) % 1024 * n := by
          rw [ordinal, next_frames inner, start, Nat.add_zero]
      _ = (q.superframe.val * 4 + q.frame.val + 1) * n % modulus n := (Nat.mul_mod_mul_right ..).symm
      _ = (ordinal n q + 1) % modulus n := by rw [Nat.succ_mul, ordinal, Nat.add_assoc, full]

/-! ### The obligation -/

/-- Settles O16: the residue of the statement is the model's `distance`, and each clause is one lemma
above about it. -/
theorem positionsCompareOnACircle : Obligations.PositionsCompareOnACircle := by
  refine ⟨fun n a b hn _ _ _ => ?_, fun n q hn hq =>
    ⟨rfl, ordinal_lt_modulus hq, next_packet_lt hn q, ordinal_next hq⟩⟩
  have pos : 0 < n := by omega
  have residue := distance_eq_sub_emod pos a b
  simp only [ordinal, modulus, Nat.cast_add, Nat.cast_mul, Nat.cast_ofNat] at residue
  intro ord d
  have isDistance : d = distance n a b := residue.symm
  have range := distance_lt_modulus pos a b
  unfold modulus at range
  refine ⟨?_, ?_, ?_, newer_asymm pos, fun half => newer_false_of_half_turn pos (by omega)⟩
  · rw [samePosition_iff]; omega
  · rw [newer_iff]; omega
  · rw [older_iff pos]; omega

end Sys2Proof.Machine
end

section
/-!
The merge unit's selection (R51, R52): the copies of the best rank, the choice among them, and the
obligation that says so (O23).
-/
namespace Sys2Proof.Machine

/-! ### The copies present in an entry -/

theorem mem_presentCopies {copies : Quad (Option Copy)} {x : Path × Copy} :
    x ∈ presentCopies copies ↔ copies.get x.1 = some x.2 := by
  have listed : ∀ p : Path, p ∈ four := by decide
  simp only [presentCopies, List.mem_filterMap, Option.map_eq_some_iff]
  constructor
  · rintro ⟨p, -, d, held, rfl⟩
    exact held
  · exact fun held => ⟨x.1, listed x.1, x.2, held, rfl⟩

/-- The copies stand in path order, so the first of several is that of the lowest path. -/
theorem presentCopies_pairwise (copies : Quad (Option Copy)) :
    (presentCopies copies).Pairwise fun x y => x.1 < y.1 := by
  have rising : four.Pairwise (· < ·) := by decide
  refine List.Pairwise.filterMap _ (fun p q below x hx y hy => ?_) rising
  obtain ⟨d, -, rfl⟩ := Option.map_eq_some_iff.mp hx
  obtain ⟨e, -, rfl⟩ := Option.map_eq_some_iff.mp hy
  exact below

/-! ### The best rank (R51) -/

theorem rank_le_nine (st : Status) : st.rank ≤ 9 := by
  cases st with
  | clean => exact Nat.zero_le 9
  | corrected k => simp only [Status.rank]; omega
  | uncorrectable => exact Nat.le_refl 9

/-- The best rank is the greatest lower bound of the ranks present, and of 9. -/
theorem le_bestRank_iff {n : Nat} {cs : List (Path × Copy)} :
    n ≤ bestRank cs ↔ n ≤ 9 ∧ ∀ x ∈ cs, n ≤ x.2.status.rank := by
  unfold bestRank
  generalize 9 = start
  induction cs generalizing start with
  | nil => simp
  | cons c rest ih => simp [ih, and_assoc]

theorem bestRank_le_rank {cs : List (Path × Copy)} {x : Path × Copy} (hx : x ∈ cs) :
    bestRank cs ≤ x.2.status.rank :=
  (le_bestRank_iff.mp le_rfl).2 x hx

/-- Some copy has the best rank: otherwise one more than it would still be a lower bound. -/
theorem exists_rank_eq_bestRank {cs : List (Path × Copy)} (some_copy : cs ≠ []) :
    ∃ x ∈ cs, x.2.status.rank = bestRank cs := by
  by_contra! missed
  have above : ∀ x ∈ cs, bestRank cs + 1 ≤ x.2.status.rank := fun x hx =>
    lt_of_le_of_ne (bestRank_le_rank hx) (missed x hx).symm
  obtain ⟨c, hc⟩ := List.exists_mem_of_ne_nil cs some_copy
  have larger : bestRank cs + 1 ≤ bestRank cs :=
    le_bestRank_iff.mpr ⟨(above c hc).trans (rank_le_nine c.2.status), above⟩
  omega

theorem mem_tiedCopies {cs : List (Path × Copy)} {x : Path × Copy} :
    x ∈ tiedCopies cs ↔ x ∈ cs ∧ ∀ y ∈ cs, x.2.status.rank ≤ y.2.status.rank := by
  simp only [tiedCopies, List.mem_filter, beq_iff_eq]
  refine and_congr_right fun hx => ⟨fun best y hy => best ▸ bestRank_le_rank hy, fun least => ?_⟩
  obtain ⟨y, hy, best⟩ := exists_rank_eq_bestRank (List.ne_nil_of_mem hx)
  exact le_antisymm (best ▸ least y hy) (bestRank_le_rank hx)

/-- Every copy that ranks with a tied one is tied. -/
theorem mem_tiedCopies_of_rank_eq {cs : List (Path × Copy)} {x y : Path × Copy} (hx : x ∈ tiedCopies cs)
    (hy : y ∈ cs) (same : y.2.status.rank = x.2.status.rank) : y ∈ tiedCopies cs :=
  mem_tiedCopies.mpr ⟨hy, same ▸ (mem_tiedCopies.mp hx).2⟩

theorem tiedCopies_ne_nil {cs : List (Path × Copy)} (some_copy : cs ≠ []) : tiedCopies cs ≠ [] := by
  obtain ⟨x, hx, best⟩ := exists_rank_eq_bestRank some_copy
  exact List.ne_nil_of_mem (List.mem_filter.mpr ⟨hx, beq_iff_eq.mpr best⟩)

theorem tiedCopies_pairwise (copies : Quad (Option Copy)) :
    (tiedCopies (presentCopies copies)).Pairwise fun x y => x.1 < y.1 :=
  (presentCopies_pairwise copies).filter _

/-! ### The choice by priority (R52 (2)) -/

theorem byPriority_eq_none_iff {priority : Quad (Fin 4)} {cs : List (Path × Copy)} :
    byPriority priority cs = none ↔ cs = [] := by
  cases cs with
  | nil => simp [byPriority]
  | cons c rest => simp only [byPriority]; split <;> simp [ite_eq_iff]

/-- Path `p` is chosen over path `q`: its priority is higher, or the same and its number no greater. -/
def takesPriority (priority : Quad (Fin 4)) (p q : Path) : Prop :=
  (priority.get q).val < (priority.get p).val ∨
    ((priority.get q).val = (priority.get p).val ∧ p.val ≤ q.val)

theorem takesPriority_refl (priority : Quad (Fin 4)) (p : Path) : takesPriority priority p p :=
  .inr ⟨rfl, le_rfl⟩

theorem takesPriority_trans {priority : Quad (Fin 4)} {p q r : Path} (hpq : takesPriority priority p q)
    (hqr : takesPriority priority q r) : takesPriority priority p r := by
  unfold takesPriority at *; omega

theorem byPriority_spec {priority : Quad (Fin 4)} {cs : List (Path × Copy)} {x : Path × Copy}
    (rising : cs.Pairwise fun y z => y.1 < z.1) (chosen : byPriority priority cs = some x) :
    x ∈ cs ∧ ∀ y ∈ cs, takesPriority priority x.1 y.1 := by
  induction cs generalizing x with
  | nil => simp [byPriority] at chosen
  | cons c rest ih =>
    obtain ⟨lowest, rising⟩ := List.pairwise_cons.mp rising
    simp only [byPriority] at chosen
    split at chosen
    next none_left =>
      obtain rfl := Option.some.inj chosen
      rw [byPriority_eq_none_iff.mp none_left]
      simp [takesPriority_refl]
    next d later =>
      obtain ⟨hd, best⟩ := ih rising later
      split at chosen
      next higher =>
        obtain rfl := Option.some.inj chosen
        exact ⟨.tail c hd, List.forall_mem_cons.mpr ⟨.inl higher, best⟩⟩
      next not_higher =>
        obtain rfl := Option.some.inj chosen
        have over_d : takesPriority priority c.1 d.1 := by
          have below : c.1.val < d.1.val := lowest d hd
          unfold takesPriority; omega
        exact ⟨.head rest, List.forall_mem_cons.mpr
          ⟨takesPriority_refl priority c.1, fun y hy => takesPriority_trans over_d (best y hy)⟩⟩

/-! ### The selection (R52) -/

/-- A selection is the tied copy of the last selected path, under STICKY, or the choice by priority where
STICKY does not name one. -/
theorem selectCopy_cases {c : ServiceConfig} {last : Option Path} {copies : Quad (Option Copy)}
    {x : Path × Copy} (selected : selectCopy c last copies = some x) :
    (c.tieMode = .sticky ∧ last = some x.1 ∧ x ∈ tiedCopies (presentCopies copies)) ∨
    ((c.tieMode = .sticky → ∀ y ∈ tiedCopies (presentCopies copies), last ≠ some y.1) ∧
      byPriority c.priority (tiedCopies (presentCopies copies)) = some x) := by
  simp only [selectCopy] at selected
  split at selected
  next priority => exact .inr ⟨by simp [priority], selected⟩
  next sticky =>
    split at selected
    next d found =>
      obtain rfl := Option.some.inj selected
      exact .inl ⟨sticky, by simpa using List.find?_some found, List.mem_of_find?_eq_some found⟩
    next absent => exact .inr ⟨fun _ => by simpa using absent, selected⟩

theorem selectCopy_mem_tiedCopies {c : ServiceConfig} {last : Option Path} {copies : Quad (Option Copy)}
    {x : Path × Copy} (selected : selectCopy c last copies = some x) :
    x ∈ tiedCopies (presentCopies copies) := by
  obtain ⟨-, -, tied⟩ | ⟨-, chosen⟩ := selectCopy_cases selected
  · exact tied
  · exact (byPriority_spec (tiedCopies_pairwise copies) chosen).1

theorem selectCopy_ne_none {c : ServiceConfig} {last : Option Path} {copies : Quad (Option Copy)}
    {p : Path} (held : copies.get p ≠ none) : selectCopy c last copies ≠ none := by
  obtain ⟨d, hd⟩ := Option.ne_none_iff_exists'.mp held
  have present : (p, d) ∈ presentCopies copies := mem_presentCopies.mpr hd
  have chosen : byPriority c.priority (tiedCopies (presentCopies copies)) ≠ none :=
    byPriority_eq_none_iff.not.mpr (tiedCopies_ne_nil (List.ne_nil_of_mem present))
  simp only [selectCopy]
  split
  · exact chosen
  · split
    · exact Option.some_ne_none _
    · exact chosen

/-- R52 (1): under STICKY the last selected path's copy, when it is tied, is the one selected. -/
theorem selectCopy_of_sticky {c : ServiceConfig} {copies : Quad (Option Copy)} {q : Path} {d : Copy}
    {x : Path × Copy} (selected : selectCopy c (some q) copies = some x) (sticky : c.tieMode = .sticky)
    (tied : (q, d) ∈ tiedCopies (presentCopies copies)) : x.1 = q := by
  obtain ⟨-, named, -⟩ | ⟨unnamed, -⟩ := selectCopy_cases selected
  · exact (Option.some.inj named).symm
  · exact absurd rfl (unnamed sticky (q, d) tied)

/-- R52 (2): where STICKY names no tied copy, the one selected takes priority over every tied one. -/
theorem selectCopy_takesPriority {c : ServiceConfig} {last : Option Path} {copies : Quad (Option Copy)}
    {x y : Path × Copy} (selected : selectCopy c last copies = some x)
    (unnamed : c.tieMode = .sticky → last ≠ some x.1) (tied : y ∈ tiedCopies (presentCopies copies)) :
    takesPriority c.priority x.1 y.1 := by
  obtain ⟨sticky, named, -⟩ | ⟨-, chosen⟩ := selectCopy_cases selected
  · exact absurd named (unnamed sticky)
  · exact (byPriority_spec (tiedCopies_pairwise copies) chosen).2 y tied

/-! ### The obligation -/

/-- Settles O23: the selected copy is tied (R51), and each tie clause is one lemma above about the
selection among the tied copies (R52). -/
theorem selectionTakesBestRankThenTieBreak : Obligations.SelectionTakesBestRankThenTieBreak := by
  intro c last copies rank
  have rank_eq : rank = Status.rank := by
    funext st
    cases st <;> rfl
  rw [rank_eq]
  refine ⟨fun ⟨_, held⟩ => selectCopy_ne_none held, fun p copy selected => ?_⟩
  have tied := selectCopy_mem_tiedCopies selected
  obtain ⟨present, best⟩ := mem_tiedCopies.mp tied
  have held : copies.get p = some copy := mem_presentCopies.mp present
  have tied_of_rank_eq {q : Path} {d : Copy} (hd : copies.get q = some d)
      (same : d.status.rank = copy.status.rank) : (q, d) ∈ tiedCopies (presentCopies copies) :=
    mem_tiedCopies_of_rank_eq tied (mem_presentCopies.mpr hd) same
  refine ⟨held, fun q d hd => best (q, d) (mem_presentCopies.mpr hd), ?_, ?_⟩
  · rintro sticky q d rfl hd same
    exact selectCopy_of_sticky selected sticky (tied_of_rank_eq hd same)
  · intro priority_or_worse q d hd same
    have unnamed : c.tieMode = .sticky → last ≠ some p := by
      intro sticky named
      obtain priority | worse := priority_or_worse
      · exact absurd (priority.symm.trans sticky) (by decide)
      · exact absurd (worse p copy named held) (lt_irrefl _)
    exact selectCopy_takesPriority selected unnamed (tied_of_rank_eq hd same)

end Sys2Proof.Machine
end

section
/-!
The service figure (R69 to R75): its MER input as a least upper bound, its three parts and their limits, and
the obligation that puts them together (O33).
-/
namespace Sys2Proof

/-! ### Sets of paths -/

theorem Quad.isEmpty_iff {q : Quad Bool} : q.isEmpty = true ↔ ∀ p, q.get p = false := by
  simp [Quad.isEmpty, Quad.get, Fin.forall_fin_succ, and_assoc]

theorem Quad.isEmpty_eq_false_iff {q : Quad Bool} : q.isEmpty = false ↔ ∃ p, q.get p = true := by
  rw [← Bool.not_eq_true, Quad.isEmpty_iff]; simp

theorem mem_four : ∀ p : Fin 4, p ∈ four := by decide

namespace Machine

/-! ### The MER input (R69) -/

/-- The MER input is the least upper bound of the latched values of the tracking paths. -/
theorem merInput_le_iff {tracking : Quad Bool} {mers : Quad (Option Nat)} {b : Nat} :
    merInput tracking mers ≤ b ↔ ∀ p m, tracking.get p = true → mers.get p = some m → m ≤ b := by
  have fold_le_iff : ∀ (ps : List Path) (start : Nat),
      ps.foldl (fun m p => if tracking.get p then max m ((mers.get p).getD 0) else m) start ≤ b ↔
        start ≤ b ∧ ∀ p ∈ ps, ∀ m, tracking.get p = true → mers.get p = some m → m ≤ b := by
    intro ps
    induction ps with
    | nil => simp
    | cons p rest ih =>
      intro start
      rw [List.foldl_cons, ih, List.forall_mem_cons, ← and_assoc]
      refine and_congr_left fun _ => ?_
      cases tracked : tracking.get p <;> cases latched : mers.get p <;> simp
  simp [merInput, fold_le_iff, mem_four]

theorem le_merInput {tracking : Quad Bool} {mers : Quad (Option Nat)} {p : Path} {m : Nat}
    (tracked : tracking.get p = true) (latched : mers.get p = some m) : m ≤ merInput tracking mers :=
  merInput_le_iff.mp le_rfl p m tracked latched

/-- A MER input that is not 0 is a tracking path's: otherwise one less would still be an upper bound. -/
theorem exists_latched_eq_merInput {tracking : Quad Bool} {mers : Quad (Option Nat)}
    (positive : merInput tracking mers ≠ 0) :
    ∃ p, tracking.get p = true ∧ mers.get p = some (merInput tracking mers) := by
  by_contra! missed
  have smaller : merInput tracking mers ≤ merInput tracking mers - 1 := by
    refine merInput_le_iff.mpr fun p m tracked latched => ?_
    have below := le_merInput tracked latched
    have apart : m ≠ merInput tracking mers := fun same => missed p tracked (same ▸ latched)
    omega
  omega

/-! ### The three parts (R72 to R74) -/

theorem merPart_le (mer : Nat) : merPart mer ≤ 700 := by
  unfold merPart; omega

theorem cleanPart_le (p u : Nat) : cleanPart p u ≤ 200 := by
  unfold cleanPart
  split
  · exact le_rfl
  · exact (Nat.sub_le ..).trans (by decide)

theorem marginPart_le (p c : Nat) : marginPart p c ≤ 123 := Nat.sub_le ..

theorem cast_merPart (mer : Nat) : (merPart mer : Int) = 2 * min (mer : Int) 350 := by
  unfold merPart; omega

/-- The model's difference of natural numbers stops at 0, as the maximum of R73 does. -/
theorem cast_cleanPart (p u : Nat) :
    (cleanPart p u : Int) = if u = 0 then 200 else max 0 (150 - ((1000 * u / p : Nat) : Int)) := by
  unfold cleanPart; split <;> omega

theorem cast_marginPart (p c : Nat) :
    (marginPart p c : Int) = 123 - min 123 ((123 * c / (8 * p) : Nat) : Int) := by
  unfold marginPart; omega

/-! ### The figure (R70, R71, R75) -/

theorem serviceFigure_eq_sum {p : Nat} (positions : p ≠ 0) (mer u c : Nat) :
    serviceFigure true true mer p u c = merPart mer + cleanPart p u + marginPart p c := by
  simp [serviceFigure, positions]

theorem serviceFigure_eq_zero {fit tracked : Bool} {p : Nat} (h : fit = false ∨ tracked = false ∨ p = 0)
    (mer u c : Nat) : serviceFigure fit tracked mer p u c = 0 := by
  obtain rfl | rfl | rfl := h <;> simp [serviceFigure]

/-- 700, 200 and 123 make 1023. -/
theorem serviceFigure_le (fit tracked : Bool) (mer p u c : Nat) :
    serviceFigure fit tracked mer p u c ≤ 1023 := by
  have mer_limit := merPart_le mer
  have clean_limit := cleanPart_le p u
  have margin_limit := marginPart_le p c
  unfold serviceFigure; split <;> omega

/-! ### The obligation -/

/-- Settles O33: R70's inputs are the model's own, and each further clause is one lemma above about the MER
input, about the three parts or about the figure. -/
theorem figureFollowsItsThreeParts : Obligations.FigureFollowsItsThreeParts := by
  intro fit mers v f
  have sf_eq : f.sf = serviceFigure fit (!v.tracking.isEmpty) f.mer f.p f.u f.c := rfl
  refine ⟨rfl, rfl, rfl, fun _ _ => le_merInput, exists_latched_eq_merInput, ?_, ?_, ?_⟩
  · intro no_figure
    rw [sf_eq]
    refine serviceFigure_eq_zero (no_figure.imp_right (Or.imp_left fun none_tracks => ?_)) ..
    rw [Quad.isEmpty_iff.mpr none_tracks, Bool.not_true]
  · intro fits tracks positions
    rw [sf_eq, fits, Quad.isEmpty_eq_false_iff.mpr tracks, Bool.not_false, serviceFigure_eq_sum positions,
      Nat.cast_add, Nat.cast_add, cast_merPart, cast_cleanPart, cast_marginPart]
  · exact sf_eq ▸ serviceFigure_le ..

end Machine
end Sys2Proof
end

section
/-!
The rate update (R85 to R90): the next estimate as an integer between the estimate and the measured rate, the
output rate, what an update writes, and the obligation that puts them together (O32).
-/
namespace Sys2Proof.Machine

/-! ### The estimate (R86, R87) -/

/-- R87: the estimate that follows a settled estimate `r`, from the measured rate `a`, before it is stored as a
natural number. -/
def nextEstimate (r a : Int) (fill d : Nat) (dark : Bool) : Int :=
  if dark then r
  else if fill ≤ 4 ∨ d - 4 ≤ fill then r + Int.tdiv (a - r) 2
  else r + Int.tdiv (a - r) 8

theorem newEstimate_of_settled (r a fill d : Nat) (dark : Bool) :
    newEstimate (some r) a fill d dark = some (nextEstimate r a fill d dark).toNat := by
  cases dark with
  | true => rfl
  | false =>
    have near_full : d ≤ fill + 4 ↔ d - 4 ≤ fill := tsub_le_iff_right.symm
    simp only [newEstimate, nextEstimate, near_full, Bool.false_eq_true, if_false]
    split <;> rfl

/-- A quotient rounded toward zero lies between 0 and the difference, so the step does not pass the target. -/
theorem add_tdiv_sub_mem_uIcc (r a : Int) {g : Int} (positive : 0 < g) :
    r + Int.tdiv (a - r) g ∈ Set.uIcc r a := by
  rw [Set.mem_uIcc]
  obtain rises | falls := le_total r a
  · have quotient_nonneg : 0 ≤ Int.tdiv (a - r) g := Int.tdiv_nonneg (by omega) positive.le
    have quotient_le : Int.tdiv (a - r) g ≤ a - r := Int.tdiv_le_self g (by omega)
    omega
  · have mirrored : Int.tdiv (a - r) g = -Int.tdiv (r - a) g := by rw [← Int.neg_tdiv, neg_sub]
    have quotient_nonneg : 0 ≤ Int.tdiv (r - a) g := Int.tdiv_nonneg (by omega) positive.le
    have quotient_le : Int.tdiv (r - a) g ≤ r - a := Int.tdiv_le_self g (by omega)
    omega

theorem nextEstimate_mem_uIcc (r a : Int) (fill d : Nat) (dark : Bool) :
    nextEstimate r a fill d dark ∈ Set.uIcc r a := by
  unfold nextEstimate
  split
  · exact Set.left_mem_uIcc
  · split <;> exact add_tdiv_sub_mem_uIcc r a (by decide)

/-! ### The output rate (R88) -/

/-- The output rate in integers: an estimate that is not negative loses nothing as a natural number. -/
theorem outputRate_toNat {e : Int} (nonneg : 0 ≤ e) (fill d : Nat) (v : ServiceState) :
    outputRate e.toNat fill d v =
      (max 1000 (min (if v = .live then e + 4 * ((fill : Int) - d / 2) else e) 40000)).toNat := by
  cases v <;> simp [outputRate, clampNat, clampInt, Int.toNat_of_nonneg nonneg]

/-! ### The update (R85, R90) -/

/-- An update that leaves the port unsettled changes nothing. -/
theorem PortUnit.rateUpdate_of_unsettled {u : PortUnit} {part : PortPart} {d : Nat} (unsettled : u.rEst = none) :
    u.rateUpdate d part true = u := by
  cases u
  cases unsettled
  rfl

/-- R90: an update does not move a scheduled due event. -/
theorem PortUnit.rateUpdate_due_of_scheduled {u : PortUnit} (d : Nat) (part : PortPart) (dark : Bool)
    (scheduled : u.due ≠ none) : (u.rateUpdate d part dark).due = u.due := by
  obtain ⟨rate, due_eq⟩ := Option.ne_none_iff_exists'.mp scheduled
  unfold PortUnit.rateUpdate
  split
  · rfl
  · simp [due_eq]

section Settled
variable {u : PortUnit} {d : Nat} {part : PortPart} {dark : Bool} {e : Int}

/-- An update that leaves the port settled writes the estimate and the output rate; a due event is scheduled
only where none is. -/
theorem PortUnit.rateUpdate_of_settled (nonneg : 0 ≤ e)
    (settled : newEstimate u.rEst (2 * part.counters.entered) part.fill d dark = some e.toNat) :
    u.rateUpdate d part dark =
      { u with
        rEst := some e.toNat
        rOut := some (max 1000 (min
          (if u.recorded = .live then e + 4 * ((part.fill : Int) - d / 2) else e) 40000)).toNat
        due := (u.rateUpdate d part dark).due } := by
  rw [← outputRate_toNat nonneg]
  simp only [PortUnit.rateUpdate, settled]

/-- R90: the update that finds no due event scheduled schedules one by its output rate. -/
theorem PortUnit.rateUpdate_due_of_unscheduled (unscheduled : u.due = none)
    (settled : newEstimate u.rEst (2 * part.counters.entered) part.fill d dark = some e.toNat) :
    (u.rateUpdate d part dark).due = (u.rateUpdate d part dark).rOut := by
  simp [PortUnit.rateUpdate, settled, unscheduled]

end Settled

/-! ### The obligation -/

/-- Settles O32: an unsettled port settles at the measured rate or not at all (R86), a settled one moves to an
estimate between its own and the measured rate (R87); either way the update writes what the lemmas above say. -/
theorem rateUpdateFollowsEntriesAndFill : Obligations.RateUpdateFollowsEntriesAndFill := by
  intro u d part dark _ a out t
  have measured_nonneg : 0 ≤ a := by omega
  refine ⟨?_, ?_, ?_⟩
  · rintro unsettled rfl
    exact PortUnit.rateUpdate_of_unsettled unsettled
  · rintro unsettled rfl
    have settled : newEstimate u.rEst (2 * part.counters.entered) part.fill d false = some a.toNat := by
      rw [unsettled]; rfl
    exact ⟨PortUnit.rateUpdate_of_settled measured_nonneg settled,
      (PortUnit.rateUpdate_due_of_unscheduled · settled), PortUnit.rateUpdate_due_of_scheduled d part false⟩
  · intro r estimated e
    have settled : newEstimate u.rEst (2 * part.counters.entered) part.fill d dark = some e.toNat := by
      rw [estimated]; exact newEstimate_of_settled ..
    have between : e ∈ Set.uIcc (r : Int) a := nextEstimate_mem_uIcc r a part.fill d dark
    rw [Set.mem_uIcc] at between
    have nonneg : 0 ≤ e := by omega
    exact ⟨nonneg, by omega, PortUnit.rateUpdate_of_settled nonneg settled,
      PortUnit.rateUpdate_due_of_scheduled d part dark, (PortUnit.rateUpdate_due_of_unscheduled · settled)⟩

end Sys2Proof.Machine
end

section
/-!
Which path is parked (R164): what a choice that keeps the best element met so far finds, the two such choices
that the thermal controller makes, and the obligation that puts them together (O27).
-/
namespace Sys2Proof

theorem four_pairwise_lt : four.Pairwise (· < ·) := by decide

/-- A set that counts a member has one. -/
theorem Quad.exists_get_of_count_pos {q : Quad Bool} (counted : 0 < q.count) : ∃ p, q.get p = true := by
  by_contra! absent
  rw [Quad.count, List.count_pos_iff] at counted
  simp only [Quad.toList, List.mem_cons, List.not_mem_nil, or_false] at counted
  obtain held | held | held | held := counted
  · exact absent 0 held.symm
  · exact absent 1 held.symm
  · exact absent 2 held.symm
  · exact absent 3 held.symm

namespace Machine

/-! ### The best element of a list -/

section Choice
variable {α : Type} {ok : α → Prop} [DecidablePred ok] {beats : α → α → Bool} {xs : List α}

/-- One step of a choice: an eligible element takes the place of the best one so far when it beats it. -/
def keepBest (ok : α → Prop) [DecidablePred ok] (beats : α → α → Bool) (best : Option α) (x : α) : Option α :=
  if ok x ∧ best.all (beats x) then some x else best

theorem keepBest_eq_none_iff {best : Option α} {x : α} :
    keepBest ok beats best x = none ↔ best = none ∧ ¬ ok x := by
  unfold keepBest
  cases best <;> simp [ite_eq_iff]

/-- What a step chooses is the element itself or the best one so far, which the element does not replace. -/
theorem keepBest_eq_some {best : Option α} {x b : α} (chosen : keepBest ok beats best x = some b) :
    (b = x ∧ ok x ∧ ∀ y, best = some y → beats x y = true) ∨
      (best = some b ∧ (ok x → beats x b = false)) := by
  unfold keepBest at chosen
  split at chosen
  next taken =>
    obtain ⟨eligible, beaten⟩ := taken
    refine .inl ⟨(Option.some.inj chosen).symm, eligible, ?_⟩
    rintro y rfl
    exact beaten
  next refused =>
    subst chosen
    exact .inr ⟨rfl, by simpa using refused⟩

theorem foldl_keepBest_eq_none_iff : xs.foldl (keepBest ok beats) none = none ↔ ∀ x ∈ xs, ¬ ok x := by
  induction xs using List.reverseRecOn with
  | nil => simp
  | append_singleton xs x ih => simp [keepBest_eq_none_iff, ih, or_imp, forall_and]

/-- The element chosen is eligible and better than every other eligible one, where `better` is transitive and
`beats` decides it between an element and one before it. -/
theorem foldl_keepBest_spec {better : α → α → Prop} {b : α}
    (trans : ∀ {x y z}, better x y → better y z → better x z)
    (decides : xs.Pairwise fun y x => if beats x y then better x y else better y x)
    (chosen : xs.foldl (keepBest ok beats) none = some b) :
    b ∈ xs ∧ ok b ∧ ∀ x ∈ xs, ok x → x ≠ b → better b x := by
  induction xs using List.reverseRecOn generalizing b with
  | nil => simp at chosen
  | append_singleton xs x ih =>
    obtain ⟨earlier, -, last⟩ := List.pairwise_append.mp decides
    have against (y : α) (hy : y ∈ xs) : if beats x y then better x y else better y x :=
      last y hy x (List.mem_singleton_self x)
    rw [List.foldl_append, List.foldl_cons, List.foldl_nil] at chosen
    simp only [List.forall_mem_append, List.forall_mem_singleton]
    obtain ⟨rfl, eligible, beaten⟩ | ⟨stands, unbeaten⟩ := keepBest_eq_some chosen
    · refine ⟨by simp, eligible, fun y hy ok_y _ => ?_, fun _ differs => absurd rfl differs⟩
      cases before : xs.foldl (keepBest ok beats) none with
      | none => exact absurd ok_y (foldl_keepBest_eq_none_iff.mp before y hy)
      | some d =>
        obtain ⟨hd, -, best⟩ := ih earlier before
        have over_d : better b d := by simpa [beaten d before] using against d hd
        by_cases same : y = d
        · exact same ▸ over_d
        · exact trans over_d (best y hy ok_y same)
    · obtain ⟨hb, ok_b, best⟩ := ih earlier stands
      refine ⟨List.mem_append_left _ hb, ok_b, best, fun ok_x _ => ?_⟩
      simpa [unbeaten ok_x] using against b hb

end Choice

/-! ### The two choices (R164) -/

/-- A slot may give a path up: it is configured and has two contributors or more. -/
abbrev State.spares (s : State) (k : SlotNo) : Prop :=
  (s.slotConfig k).isSome = true ∧ 2 ≤ (s.service k).contributors.count

/-- One slot has more contributors than another, or as many and the lower number. -/
def State.richer (s : State) (k j : SlotNo) : Prop :=
  (s.service j).contributors.count < (s.service k).contributors.count ∨
    ((s.service j).contributors.count = (s.service k).contributors.count ∧ k.val < j.val)

/-- One path has a lower priority than another, or the same and the higher number. -/
def parksBefore (priority : Quad (Fin 4)) (p q : Path) : Prop :=
  (priority.get p).val < (priority.get q).val ∨
    ((priority.get p).val = (priority.get q).val ∧ q.val < p.val)

theorem State.richestService_eq_foldl (s : State) :
    s.richestService = four.foldl (keepBest s.spares fun k j =>
      decide ((s.service j).contributors.count < (s.service k).contributors.count)) none :=
  congrArg (four.foldl · none) (funext₂ fun best k => by simp only [keepBest, State.spares, and_assoc])

theorem State.richestService_eq_none_iff {s : State} : s.richestService = none ↔ ∀ k, ¬ s.spares k := by
  simp only [State.richestService_eq_foldl, foldl_keepBest_eq_none_iff, mem_four, true_imp_iff]

theorem State.richestService_spec {s : State} {k : SlotNo} (chosen : s.richestService = some k) :
    s.spares k ∧ ∀ j, s.spares j → j ≠ k → s.richer k j := by
  rw [State.richestService_eq_foldl] at chosen
  have decides : four.Pairwise fun j k =>
      if decide ((s.service j).contributors.count < (s.service k).contributors.count) then s.richer k j
      else s.richer j k :=
    four_pairwise_lt.imp fun {j k} rises => by
      have : j.val < k.val := rises
      unfold State.richer
      simp only [decide_eq_true_eq]
      split <;> omega
  obtain ⟨-, spares, best⟩ :=
    foldl_keepBest_spec (fun {_ _ _} => by unfold State.richer; omega) decides chosen
  exact ⟨spares, fun j => best j (mem_four j)⟩

theorem lowestPriority_eq_foldl (contributors : Quad Bool) (priority : Quad (Fin 4)) :
    lowestPriority contributors priority = four.foldl (keepBest (contributors.get · = true) fun p q =>
      decide ((priority.get p).val ≤ (priority.get q).val)) none := rfl

theorem lowestPriority_ne_none {contributors : Quad Bool} (priority : Quad (Fin 4)) {p : Path}
    (member : contributors.get p = true) : lowestPriority contributors priority ≠ none := by
  rw [lowestPriority_eq_foldl, Ne, foldl_keepBest_eq_none_iff]
  exact fun none_contributes => none_contributes p (mem_four p) member

theorem lowestPriority_spec {contributors : Quad Bool} {priority : Quad (Fin 4)} {p : Path}
    (chosen : lowestPriority contributors priority = some p) :
    contributors.get p = true ∧ ∀ q, contributors.get q = true → q ≠ p → parksBefore priority p q := by
  rw [lowestPriority_eq_foldl] at chosen
  have decides : four.Pairwise fun q p =>
      if decide ((priority.get p).val ≤ (priority.get q).val) then parksBefore priority p q
      else parksBefore priority q p :=
    four_pairwise_lt.imp fun {q p} rises => by
      have : q.val < p.val := rises
      unfold parksBefore
      simp only [decide_eq_true_eq]
      split <;> omega
  obtain ⟨-, contributes, best⟩ :=
    foldl_keepBest_spec (fun {_ _ _} => by unfold parksBefore; omega) decides chosen
  exact ⟨contributes, fun q => best q (mem_four q)⟩

/-! ### The path to park (R164) -/

/-- A path is found wherever a service is: one with two contributors has one. -/
theorem State.pathToPark_eq_none_iff {s : State} : s.pathToPark = none ↔ s.richestService = none := by
  refine ⟨fun unfound => ?_, fun no_service => by rw [State.pathToPark, no_service]; rfl⟩
  cases chosen : s.richestService with
  | none => rfl
  | some k =>
    obtain ⟨⟨configured, two⟩, -⟩ := State.richestService_spec chosen
    obtain ⟨c, slot⟩ := Option.isSome_iff_exists.mp configured
    obtain ⟨p, member⟩ := Quad.exists_get_of_count_pos (two.trans_lt' Nat.two_pos)
    refine absurd ?_ (lowestPriority_ne_none c.priority member)
    simpa [State.pathToPark, chosen, slot] using unfound

theorem State.pathToPark_eq_some {s : State} {p : Path} (found : s.pathToPark = some p) :
    ∃ k c, s.richestService = some k ∧ s.slotConfig k = some c ∧
      lowestPriority (s.service k).contributors c.priority = some p := by
  obtain ⟨k, chosen, rest⟩ := Option.bind_eq_some_iff.mp found
  obtain ⟨c, slot, lowest⟩ := Option.bind_eq_some_iff.mp rest
  exact ⟨k, c, chosen, slot, lowest⟩

/-! ### The obligation -/

/-- Settles O27: the service is the best of the four slots, the path the best of its contributors. A configured
slot with fewer than two contributors is poorer than the service chosen. -/
theorem parkedPathIsLeastOfRichestService : Obligations.ParkedPathIsLeastOfRichestService := by
  intro s
  refine ⟨?_, fun p found => ?_⟩
  · rw [State.pathToPark_eq_none_iff, State.richestService_eq_none_iff]
    simp only [State.spares, not_and, not_le]
  · obtain ⟨k, c, chosen, slot, lowest⟩ := State.pathToPark_eq_some found
    obtain ⟨⟨-, two⟩, richest⟩ := State.richestService_spec chosen
    obtain ⟨contributes, least⟩ := lowestPriority_spec lowest
    refine ⟨k, c, slot, two, contributes, fun j configured differs => ?_, least⟩
    by_cases enough : 2 ≤ (s.service j).contributors.count
    · exact richest j ⟨configured, enough⟩ differs
    · exact .inl (by omega)

end Machine
end Sys2Proof
end

section
/-!
The reading of an interval end (R161 to R168): what the other takers leave to the thermal controller, the order in
which it comes among them, what the reading does in each case, and the obligation that puts them together (O26).
-/
namespace Sys2Proof.Machine

/-! ### What the other takers leave to the thermal controller -/

/-- What the thermal controller reads and writes stands as it did, and of the rest only what an interval end may
change is changed. -/
structure State.SparesThermal (s t : State) : Prop where
  thermal : t.thermal = s.thermal
  requests : t.requests = s.requests
  shed : t.fitness.faults.thermalShed = s.fitness.faults.thermalShed
  contributors : ∀ k, (t.service k).contributors = (s.service k).contributors
  kept : s.keptByInterval t

theorem State.keptByInterval_trans {s t u : State} (first : s.keptByInterval t) (second : t.keptByInterval u) :
    s.keptByInterval u := by
  obtain ⟨published, counters, rest⟩ := first
  obtain ⟨published', counters', rest'⟩ := second
  refine ⟨published'.trans published, counters'.trans counters, ?_⟩
  rw [rest] at rest'
  exact rest'

theorem State.SparesThermal.refl (s : State) : s.SparesThermal s :=
  ⟨rfl, rfl, rfl, fun _ => rfl, rfl, rfl, rfl⟩

theorem State.SparesThermal.trans {s t u : State} (first : s.SparesThermal t) (second : t.SparesThermal u) :
    s.SparesThermal u where
  thermal := second.thermal.trans first.thermal
  requests := second.requests.trans first.requests
  shed := second.shed.trans first.shed
  contributors k := (second.contributors k).trans (first.contributors k)
  kept := State.keptByInterval_trans first.kept second.kept

theorem State.sparesThermal_foldl {α : Type} {f : State → α → State} {xs : List α}
    (spares : ∀ (s : State), ∀ x ∈ xs, s.SparesThermal (f s x)) (s : State) : s.SparesThermal (xs.foldl f s) := by
  induction xs generalizing s with
  | nil => exact .refl s
  | cons x xs ih =>
    obtain ⟨first, rest⟩ := List.forall_mem_cons.mp (fun y hy => (spares · y hy))
    exact (first s).trans (ih (fun t y hy => rest y hy t) (f s x))

/-- What changes the election, the ports and the line alone, and none of the line's counters, spares the thermal
controller. -/
theorem State.sparesThermal_of_lanes {s : State} (e : ElectionUnit) (p : Quad PortUnit) {l : LineUnit}
    (counters : l.counters = s.line.counters) :
    s.SparesThermal { s with election := e, ports := p, line := l } :=
  ⟨rfl, rfl, rfl, fun _ => rfl, rfl, counters, rfl⟩

theorem sparesThermal_trySend (s : State) : s.SparesThermal (trySend s) := by
  obtain ⟨-, -, -, k, f, -, sent⟩ | same := trySend_cases s
  · rw [sent]; exact State.sparesThermal_of_lanes s.election s.ports rfl
  · rw [same]; exact .refl s

theorem sparesThermal_latch (s : State) : s.SparesThermal (latch s) := by
  refine ⟨rfl, rfl, rfl, fun k => ?_, rfl, rfl, rfl⟩
  simp only [latch, State.service, Quad.get_map]
  split <;> rfl

theorem sparesThermal_computeFigures (s : State) : s.SparesThermal (computeFigures s) := by
  unfold computeFigures
  split
  · split
    · exact ⟨rfl, rfl, rfl, fun _ => rfl, rfl, rfl, rfl⟩
    · exact .refl s
  · exact .refl s

theorem sparesThermal_ageOnInterval (s : State) : s.SparesThermal (ageOnInterval s) := by
  unfold ageOnInterval
  dsimp only
  split <;> exact State.sparesThermal_of_lanes _ s.ports rfl

/-! ### The fitness monitor's event -/

@[simp] theorem FitnessUnit.thermalShed_conclude (f : FitnessUnit) :
    f.conclude.faults.thermalShed = f.faults.thermalShed := by
  unfold FitnessUnit.conclude
  split
  · rfl
  · dsimp only; split <;> rfl

@[simp] theorem FitnessUnit.thermalShed_checkConfig (f : FitnessUnit) (found : Half) :
    (f.checkConfig found).faults.thermalShed = f.faults.thermalShed := by
  unfold FitnessUnit.checkConfig
  split
  · rfl
  · split <;> rfl

@[simp] theorem FitnessUnit.faults_rotate (f : FitnessUnit) (c : Config) : (f.rotate c).faults = f.faults := rfl

@[simp] theorem FitnessUnit.faults_listen (f : FitnessUnit) : f.listen.faults = f.faults := by
  unfold FitnessUnit.listen
  split <;> rfl

/-- R151 (2): THERMAL_SHED follows the thermal controller's signal alone. -/
@[simp] theorem FitnessUnit.thermalShed_intervalEnd (f : FitnessUnit) (c : Config) :
    (f.intervalEnd c).faults.thermalShed = f.faults.thermalShed := by
  unfold FitnessUnit.intervalEnd
  split
  · rfl
  · simp

theorem sparesThermal_electionFit (s : State) : s.SparesThermal (electionFit s) := by
  unfold electionFit
  split
  · exact .refl s
  · exact State.sparesThermal_of_lanes _ s.ports rfl

theorem counters_withdrawFrame (s : State) (x : Port) :
    (withdrawFrame s x).line.counters = s.line.counters := by
  simp only [withdrawFrame]
  split
  · split <;> rfl
  · rfl

theorem sparesThermal_withdrawClaim (s : State) (x : Port) (l : LaneState) :
    s.SparesThermal (withdrawClaim s x l) := by
  obtain ⟨n, e, withdrawn⟩ := withdrawClaim_only s x l
  have counters : (withdrawClaim s x l).line.counters = s.line.counters := counters_withdrawFrame s x
  rw [withdrawn] at counters ⊢
  exact State.sparesThermal_of_lanes e s.ports counters

theorem sparesThermal_placeRelease (s : State) (x : Port) (r : ReleaseReason) :
    s.SparesThermal (placeRelease s x r) := by
  unfold placeRelease placeLane
  split
  · exact State.sparesThermal_of_lanes s.election s.ports rfl
  · exact .refl s

theorem sparesThermal_standDown_placeRelease (s : State) (x : Port) (l : LaneState) (r : ReleaseReason) :
    s.SparesThermal (placeRelease (standDown s x l) x r) :=
  (State.sparesThermal_of_lanes _ _ rfl : s.SparesThermal (standDown s x l)).trans
    (sparesThermal_placeRelease _ x r)

theorem sparesThermal_updElect (s : State) (x : Port) (f : PortElection → PortElection) :
    s.SparesThermal (s.updElect x f) :=
  State.sparesThermal_of_lanes _ s.ports rfl

theorem sparesThermal_unfitPort (s : State) (x : Port) : s.SparesThermal (unfitPort s x) := by
  unfold unfitPort
  dsimp only
  split
  case h_3 => exact sparesThermal_withdrawClaim s x .disabled
  case h_4 => exact sparesThermal_updElect s x _
  all_goals
    split
    · exact (sparesThermal_standDown_placeRelease s x .disabled .restart).trans (sparesThermal_updElect _ x _)
    · exact sparesThermal_standDown_placeRelease s x .disabled .unfit

theorem sparesThermal_fitnessOnInterval (s : State) : s.SparesThermal (fitnessOnInterval s) := by
  have monitored : s.SparesThermal { s with fitness := s.fitness.intervalEnd s.config } :=
    ⟨rfl, rfl, FitnessUnit.thermalShed_intervalEnd .., fun _ => rfl, rfl, rfl, rfl⟩
  unfold fitnessOnInterval
  dsimp only
  split
  · exact monitored.trans (sparesThermal_electionFit _)
  · exact monitored.trans (State.sparesThermal_foldl (fun t x _ => sparesThermal_unfitPort t x) _)
  · exact monitored

/-! ### The order of the takers (R65) -/

theorem sparesThermal_takeEnd (sensor : Int) (boot : BootInputs) (s : State) {x : Taker} (other : x ≠ .thermal) :
    s.SparesThermal (takeEnd sensor boot s x) := by
  have of_working {t : State} (spares : s.SparesThermal t) : s.SparesThermal (if s.working then t else s) := by
    split
    · exact spares
    · exact .refl s
  cases x with
  | latch => exact of_working (sparesThermal_latch s)
  | figures => exact of_working (sparesThermal_computeFigures s)
  | ageing => exact of_working (sparesThermal_ageOnInterval s)
  | fitness => exact of_working (sparesThermal_fitnessOnInterval s)
  | thermal => exact absurd rfl other

theorem mem_firstPlaces {x : Taker} {order : List Taker} : x ∈ firstPlaces order ↔ x ∈ order := by
  induction order with
  | nil => rfl
  | cons y ys ih =>
    by_cases same : x = y <;> simp [firstPlaces, ih, same]

theorem nodup_firstPlaces (order : List Taker) : (firstPlaces order).Nodup := by
  induction order with
  | nil => exact List.nodup_nil
  | cons y ys ih => exact List.nodup_cons.mpr ⟨by simp, ih.filter _⟩

theorem nodup_takersInOrder (order : List Taker) : (takersInOrder order).Nodup := by
  refine (nodup_firstPlaces order).append ((by decide : List.Nodup _).filter _) fun x given left_out => ?_
  simp [mem_firstPlaces.mp given] at left_out

theorem thermal_mem_takersInOrder (order : List Taker) : .thermal ∈ takersInOrder order := by
  by_cases given : .thermal ∈ order <;> simp [takersInOrder, mem_firstPlaces, given]

/-- The thermal controller takes an interval end once, between some of the other takers and the rest. -/
theorem exists_takersInOrder_eq_append (order : List Taker) :
    ∃ before after, takersInOrder order = before ++ .thermal :: after ∧
      (∀ x ∈ before, x ≠ .thermal) ∧ ∀ x ∈ after, x ≠ .thermal := by
  obtain ⟨before, after, placed⟩ := List.append_of_mem (thermal_mem_takersInOrder order)
  have once := nodup_takersInOrder order
  rw [placed, List.nodup_middle, List.nodup_cons, List.mem_append, not_or] at once
  obtain ⟨⟨not_before, not_after⟩, -⟩ := once
  exact ⟨before, after, placed, fun x hx => ne_of_mem_of_not_mem hx not_before,
    fun x hx => ne_of_mem_of_not_mem hx not_after⟩

/-- No taker comes behind the publication where that is a command of its own. -/
theorem execIntervalEnd_of_publishesApart {order : EndOrder} {s : State} (sensor : Int) (boot : BootInputs)
    (taken : s.intervalOpen) (apart : publishesApart order) :
    execIntervalEnd order sensor boot s = .next (takeEnds (takersInOrder order.takers) sensor boot s) := by
  obtain ⟨-, -, running, unlatched⟩ := taken
  obtain ⟨reading_first, fitness_first⟩ := apart
  have none_behind (x : Taker) : behindPublication order s x = false := by
    cases x <;> simp [behindPublication, reading_first, fitness_first]
  simp [execIntervalEnd, running, unlatched, none_behind, takeEnds]

/-- An interval end whose publication is apart is the reading, between takers that spare the thermal controller. -/
theorem exists_takeReading_between {order : EndOrder} {s : State} (sensor : Int) (boot : BootInputs)
    (taken : s.intervalOpen) (apart : publishesApart order) :
    ∃ u t, exec (.intervalEnd order sensor boot) s = .next t ∧ s.SparesThermal u ∧
      (takeReading u sensor boot).SparesThermal t := by
  obtain ⟨before, after, order_eq, not_before, not_after⟩ := exists_takersInOrder_eq_append order.takers
  refine ⟨before.foldl (takeEnd sensor boot) s, _, execIntervalEnd_of_publishesApart sensor boot taken apart,
    State.sparesThermal_foldl (fun t x hx => sparesThermal_takeEnd sensor boot t (not_before x hx)) s, ?_⟩
  rw [order_eq, takeEnds, List.foldl_append, List.foldl_cons]
  exact (State.sparesThermal_foldl
    (fun t x hx => sparesThermal_takeEnd sensor boot t (not_after x hx)) _).trans (sparesThermal_trySend _)

/-! ### The shed test (R163) and the cool test (R167) -/

/-- The shed test finds no path: the reading is below T_w, the spacing is not over, or there is no path to park. -/
abbrev State.shedTestFails (s : State) (r : Int) : Prop :=
  r < s.config.tw ∨ s.thermal.spacing ≠ 4 ∨ s.pathToPark = none

theorem shedTest_of_pathToPark {s : State} {p : Path} (hot : (s.config.tw : Int) ≤ s.thermal.reading)
    (spaced : s.thermal.spacing = 4) (found : s.pathToPark = some p) :
    shedTest s =
      { s with
        requests := s.requests ++ [.park p]
        thermal := { s.thermal with outstanding := some (.park p), spacing := 0 } } := by
  simp [shedTest, hot, spaced, found]

theorem shedTest_of_fails {s : State} (fails : s.shedTestFails s.thermal.reading) :
    shedTest s = { s with thermal := { s.thermal with spacing := min 4 (s.thermal.spacing + 1) } } := by
  have unfound :
      (if (s.config.tw : Int) ≤ s.thermal.reading ∧ s.thermal.spacing = 4 then s.pathToPark else none) = none := by
    obtain cold | unspaced | no_path := fails
    · exact if_neg fun ⟨hot, _⟩ => absurd cold (not_lt.mpr hot)
    · exact if_neg fun ⟨_, spaced⟩ => unspaced spaced
    · rw [no_path, ite_self]
  simp only [shedTest, unfound]

theorem coolTest_of_warm {s : State} (warm : s.thermal.stack = [] ∨ (s.config.tw : Int) - 5 < s.thermal.reading) :
    coolTest s = { s with thermal := { s.thermal with cool := 0 } } := by
  unfold coolTest
  split
  · rfl
  next stacked =>
    have not_cool : ¬ s.thermal.reading ≤ (s.config.tw : Int) - 5 :=
      not_le.mpr (warm.resolve_left (by simp [stacked]))
    rw [if_neg not_cool]

theorem coolTest_of_cool {s : State} {p : Path} {rest : List Path} (stacked : s.thermal.stack = p :: rest)
    (cool : s.thermal.reading ≤ (s.config.tw : Int) - 5) :
    coolTest s =
      if 8 ≤ s.thermal.cool + 1 then unparkTop s p rest
      else { s with thermal := { s.thermal with cool := s.thermal.cool + 1 } } := by
  simp [coolTest, stacked, cool]

/-! ### The reading outside SHUTDOWN, below 125 °C (R161, R162) -/

/-- The station once the thermal controller holds a new reading. -/
def State.withReading (s : State) (r : Int) : State := { s with thermal := { s.thermal with reading := r } }

/-- The station once a new reading's shed test has found no path. -/
def State.unshed (s : State) (r : Int) : State :=
  { s with thermal := { s.thermal with reading := r, spacing := min 4 (s.thermal.spacing + 1) } }

section Reading
variable {s : State} {sensor r : Int} (boot : BootInputs) (read : clampInt sensor (-40) 150 = r)
  (runs : s.thermal.shutdown = false) (below : r < 125)
include read runs below

/-- Neither test is made while a request is outstanding. -/
theorem takeReading_of_outstanding (asked : s.thermal.outstanding ≠ none) :
    takeReading s sensor boot = s.withReading r := by
  simp [takeReading, read, runs, not_le.mpr below, asked, State.withReading]

theorem takeReading_of_not_outstanding (unasked : s.thermal.outstanding = none) :
    takeReading s sensor boot = coolTest (shedTest (s.withReading r)) := by
  simp [takeReading, read, runs, not_le.mpr below, unasked, State.withReading]

/-- R163: the park request goes out; a reading that sheds is no cool one. -/
theorem takeReading_of_sheds {p : Path} (unasked : s.thermal.outstanding = none) (hot : (s.config.tw : Int) ≤ r)
    (spaced : s.thermal.spacing = 4) (found : s.pathToPark = some p) :
    takeReading s sensor boot =
      { s with
        requests := s.requests ++ [.park p]
        thermal := { s.thermal with reading := r, outstanding := some (.park p), spacing := 0, cool := 0 } } := by
  rw [takeReading_of_not_outstanding boot read runs below unasked,
    shedTest_of_pathToPark (s := s.withReading r) hot spaced found]
  exact coolTest_of_warm (.inr (by dsimp only [State.withReading]; omega))

/-- Where the shed test finds no path the cool test is all that is left. -/
theorem takeReading_of_fails (unasked : s.thermal.outstanding = none) (fails : s.shedTestFails r) :
    takeReading s sensor boot = coolTest (s.unshed r) := by
  rw [takeReading_of_not_outstanding boot read runs below unasked, shedTest_of_fails (s := s.withReading r) fails]
  rfl

theorem takeReading_of_warm (unasked : s.thermal.outstanding = none) (fails : s.shedTestFails r)
    (warm : s.thermal.stack = [] ∨ (s.config.tw : Int) - 5 < r) :
    takeReading s sensor boot =
      { s with
        thermal := { s.thermal with reading := r, spacing := min 4 (s.thermal.spacing + 1), cool := 0 } } := by
  rw [takeReading_of_fails boot read runs below unasked fails]
  exact coolTest_of_warm (s := s.unshed r) warm

theorem takeReading_of_cool {p : Path} {rest : List Path} (unasked : s.thermal.outstanding = none)
    (fails : s.shedTestFails r) (stacked : s.thermal.stack = p :: rest) (cool : r ≤ (s.config.tw : Int) - 5) :
    takeReading s sensor boot =
      if 8 ≤ s.thermal.cool + 1 then unparkTop (s.unshed r) p rest
      else
        { s with
          thermal :=
            { s.thermal with
              reading := r
              spacing := min 4 (s.thermal.spacing + 1)
              cool := s.thermal.cool + 1 } } := by
  rw [takeReading_of_fails boot read runs below unasked fails]
  exact coolTest_of_cool (s := s.unshed r) stacked cool

/-- Either the reading unparks the top of the stack, or it changes the thermal controller and its requests alone. -/
theorem takeReading_cases :
    (∃ p rest, s.thermal.outstanding = none ∧ s.shedTestFails r ∧ s.thermal.stack = p :: rest ∧
      r ≤ (s.config.tw : Int) - 5 ∧ 8 ≤ s.thermal.cool + 1 ∧
      takeReading s sensor boot = unparkTop (s.unshed r) p rest) ∨
    ∃ h q, takeReading s sensor boot = { s with thermal := h, requests := q } := by
  by_cases unasked : s.thermal.outstanding = none
  case neg => exact .inr ⟨_, s.requests, takeReading_of_outstanding boot read runs below unasked⟩
  by_cases fails : s.shedTestFails r
  case neg =>
    obtain ⟨hot, spaced, found⟩ : ¬ r < s.config.tw ∧ s.thermal.spacing = 4 ∧ s.pathToPark ≠ none := by
      simpa only [State.shedTestFails, not_or, not_not] using fails
    obtain ⟨p, found⟩ := Option.ne_none_iff_exists'.mp found
    exact .inr ⟨_, _, takeReading_of_sheds boot read runs below unasked (not_lt.mp hot) spaced found⟩
  by_cases warm : s.thermal.stack = [] ∨ (s.config.tw : Int) - 5 < r
  case pos => exact .inr ⟨_, s.requests, takeReading_of_warm boot read runs below unasked fails warm⟩
  obtain ⟨stacked, cool⟩ := not_or.mp warm
  obtain ⟨p, rest, stacked⟩ := List.exists_cons_of_ne_nil stacked
  have cool := not_lt.mp cool
  have counted := takeReading_of_cool boot read runs below unasked fails stacked cool
  by_cases eighth : 8 ≤ s.thermal.cool + 1
  · exact .inl ⟨p, rest, unasked, fails, stacked, cool, eighth, by rw [counted, if_pos eighth]⟩
  · exact .inr ⟨_, s.requests, by rw [counted, if_neg eighth]⟩

theorem keptByInterval_takeReading : s.keptByInterval (takeReading s sensor boot) := by
  obtain ⟨p, rest, -, -, -, -, -, unparks⟩ | ⟨h, q, same⟩ := takeReading_cases boot read runs below
  · rw [unparks]; exact ⟨rfl, rfl, rfl⟩
  · rw [same]; exact ⟨rfl, rfl, rfl⟩

/-- R151 (2), R166: THERMAL_SHED changes only where the last path of the stack is unparked. -/
theorem thermalShed_takeReading
    (stays : ¬ (s.thermal.outstanding = none ∧ s.shedTestFails r ∧ s.thermal.stack.length = 1 ∧
      r ≤ (s.config.tw : Int) - 5 ∧ 8 ≤ s.thermal.cool + 1)) :
    (takeReading s sensor boot).fitness.faults.thermalShed = s.fitness.faults.thermalShed := by
  obtain ⟨p, rest, unasked, fails, stacked, cool, eighth, unparks⟩ | ⟨h, q, same⟩ :=
    takeReading_cases boot read runs below
  · have more : rest ≠ [] := by
      rintro rfl
      exact stays ⟨unasked, fails, by rw [stacked]; rfl, cool, eighth⟩
    rw [unparks, unparkTop, if_neg more]
    rfl
  · rw [same]

end Reading

/-! ### The obligation -/

theorem State.SparesThermal.config {s t : State} (spares : s.SparesThermal t) : t.config = s.config := by
  obtain ⟨-, -, rest⟩ := spares.kept
  rw [rest]

theorem State.SparesThermal.richestService {s t : State} (spares : s.SparesThermal t) :
    t.richestService = s.richestService :=
  congrArg (four.foldl · none) (funext₂ fun _ _ =>
    if_congr (by simp only [State.slotConfig, spares.config, spares.contributors]) rfl rfl)

theorem State.SparesThermal.pathToPark {s t : State} (spares : s.SparesThermal t) :
    t.pathToPark = s.pathToPark := by
  simp only [State.pathToPark, State.slotConfig, spares.richestService, spares.config, spares.contributors]

/-- Settles O26: the other takers spare what the statement speaks of, so it is about the reading alone, and each
clause is one lemma above about the reading. -/
theorem readingShedsOrUnparks : Obligations.ReadingShedsOrUnparks := by
  intro order sensor boot s taken apart r h below
  obtain ⟨u, t, ended, before, after⟩ := exists_takeReading_between sensor boot taken apart
  obtain ⟨-, runs, -⟩ := taken
  rw [← before.thermal] at runs
  have read : clampInt sensor (-40) 150 = r := rfl
  refine ⟨t, ended, ?_⟩
  simp only [h, after.thermal, after.requests, after.shed, ← before.thermal, ← before.requests, ← before.shed,
    ← before.config, ← before.pathToPark]
  refine ⟨fun asked => ?_, fun unasked hot spaced p found => ?_, fun unasked fails => ⟨fun warm => ?_, ?_⟩,
    thermalShed_takeReading boot read runs below,
    State.keptByInterval_trans before.kept
      (State.keptByInterval_trans (keptByInterval_takeReading boot read runs below) after.kept)⟩
  · rw [takeReading_of_outstanding boot read runs below asked]
    exact ⟨rfl, rfl⟩
  · rw [takeReading_of_sheds boot read runs below unasked hot spaced found]
    exact ⟨rfl, rfl⟩
  · rw [takeReading_of_warm boot read runs below unasked fails warm]
    exact ⟨rfl, rfl⟩
  · intro p rest stacked cool
    rw [takeReading_of_cool boot read runs below unasked fails stacked cool]
    refine ⟨fun few => ?_, fun eighth => ?_⟩
    · rw [if_neg (not_le.mpr few)]
      exact ⟨rfl, rfl⟩
    · rw [if_pos eighth]
      refine ⟨rfl, rfl, fun last => ?_⟩
      rw [unparkTop, if_pos last]
      rfl

end Sys2Proof.Machine
end

section
/-!
The events that a receiver path takes in its own state (R2 to R13, R16, R22 to R25): what each does to the path,
and the obligations on completions, entries to TRACKING and HOLD, failures and frame starts (O8 to O11, O14).
-/
namespace Sys2Proof.Machine

/-! ### Work that is being done, and complete signalling (R2 (4), R8 (3)) -/

theorem State.worksAt_iff {s : State} {a : PathWork} {st : PathState} :
    s.worksAt a st = true ↔ (s.path a.path).state = st ∧ (s.path a.path).work = a.work := by
  simp [State.worksAt]

theorem completeSignalling_eq_some_iff {r : FrameStartRead} {g : Signalling} :
    completeSignalling r = some g ↔ r.signalling = some g ∧ 64 ≤ g.n ∧ g.n ≤ 8192 := by
  simp only [completeSignalling, Option.bind_eq_some_iff, Option.ite_none_right_eq_some, frameSizeOk,
    Bool.and_eq_true, decide_eq_true_eq, Option.some.injEq]
  exact ⟨fun ⟨_, read, size, same⟩ => same ▸ ⟨read, size⟩, fun ⟨read, size⟩ => ⟨g, read, size, rfl⟩⟩

/-- The model's test of the identifier is the statement's: the current candidate expects another one. -/
theorem State.wrongMux_iff {s : State} {p : Path} {muxId : Half} :
    s.wrongMux p muxId = true ↔ s.expectsOther p muxId := by
  simp only [State.wrongMux, State.expectsOther, State.candidate]
  cases (s.config.candidates.get p)[(s.path p).candidateIndex]? with
  | none => simp
  | some c => cases h : c.expected <;> simp [h]

theorem State.wrongMux_eq_false {s : State} {p : Path} {muxId : Half} (expected : ¬ s.expectsOther p muxId) :
    s.wrongMux p muxId = false := by
  rwa [← State.wrongMux_iff, Bool.not_eq_true] at expected

/-! ### The moves of a path, told on the path alone -/

theorem enterHold_eq (s : State) (p : Path) : enterHold s p = s.updPath p PathUnit.held := by
  refine State.updPath_congr s p ?_
  simp only [PathUnit.startWork, PathUnit.held]
  cases (s.path p).lastDelivered <;> simp

/-- R13: the retry of a candidate or the advance to the next one, as one change of the path. -/
theorem takeFailure_eq (s : State) (p : Path) (reason : Failure) :
    takeFailure s p reason = s.updPath p fun u => u.failed (s.config.candidates.get p) reason := by
  have first_attempt : (s.path p).attempts + 1 < 2 ↔ (s.path p).attempts = 0 := by omega
  simp only [takeFailure, enterGain, State.sendMerge, State.candidate, first_attempt]
  split <;> split <;>
  · simp only [State.updPath_updPath, State.path_updPath_self, State.config_updPath]
    refine State.updPath_congr s p ?_
    simp_all [PathUnit.startWork, PathUnit.failed]

/-! ### Completions, frame ends and losses of sync (R5 to R7, R11, R16) -/

section Events
variable {a : PathWork} {s : State}

theorem execGainSettled_of_settled {level : Int} (doing : s.worksAt a .gain = true) (loud : 30 ≤ level) :
    execGainSettled a level s = .next (s.updPath a.path fun u => u.startWork .mode 150) :=
  if_pos ⟨doing, loud⟩

theorem execGainSettled_of_unsettled {level : Int} (fails : ¬ s.worksAt a .gain = true ∨ level < 30) :
    execGainSettled a level s = .next s :=
  if_neg fun ⟨doing, loud⟩ => fails.elim (· doing) loud.not_gt

theorem execPathFrameEnd_of_tracking {p : Path} (tracking : (s.path p).state = .tracking) (v : Measured) :
    execPathFrameEnd p v s = .next (s.updPath p fun u => { u with measurements := some v.clamped }) :=
  if_pos tracking

theorem execLossOfFrameSync_of_tracking {p : Path} (tracking : (s.path p).state = .tracking) :
    execLossOfFrameSync p s = .next (s.updPath p PathUnit.held) := by
  rw [← enterHold_eq]; exact if_pos tracking

end Events

/-- Settles O8: each completion acts where its work is being done, and nowhere else. -/
theorem pathEventsActInTheirState : Obligations.PathEventsActInTheirState := by
  intro a v s p doing enters
  simp only [doing, p, ← State.worksAt_iff]
  exact ⟨fun _ => execGainSettled_of_settled, fun _ => execGainSettled_of_unsettled, fun _ _ _ => (if_pos ·),
    fun _ _ _ => (if_neg ·), (if_pos ·), (if_neg ·),
    fun tracking => ⟨execLossOfFrameSync_of_tracking tracking, execPathFrameEnd_of_tracking tracking v⟩,
    fun left => ⟨if_neg left, if_neg left⟩⟩

/-! ### Locking and regaining (R8, R9, R12) -/

section Locking
variable {a : PathWork} {read : FrameStartRead} {g : Signalling} {s : State}

theorem execLocked_of_complete (complete : completeSignalling read = some g)
    (locks : s.worksAt a .frame = true ∧ read.syncGained = true ∧ read.decoderLocked = true) :
    execLocked a read s = .next (acceptSignalling s a.path g read.measured) := by
  simp only [execLocked, complete, if_pos locks]

theorem execRegained_of_complete (complete : completeSignalling read = some g)
    (regains : s.worksAt a .hold = true ∧ read.syncGained = true) :
    execRegained a read s = .next (acceptSignalling s a.path g read.measured) := by
  simp only [execRegained, complete, if_pos regains]

theorem execLocked_of_fails (fails : completeSignalling read = none ∨
      ¬(s.worksAt a .frame = true ∧ read.syncGained = true ∧ read.decoderLocked = true)) :
    execLocked a read s = .next s := by
  unfold execLocked
  split
  next complete => exact if_neg (fails.resolve_left (by simp [complete]))
  next => rfl

theorem execRegained_of_fails
    (fails : completeSignalling read = none ∨ ¬(s.worksAt a .hold = true ∧ read.syncGained = true)) :
    execRegained a read s = .next s := by
  unfold execRegained
  split
  next complete => exact if_neg (fails.resolve_left (by simp [complete]))
  next => rfl

theorem acceptSignalling_of_expected {p : Path} (expected : ¬ s.expectsOther p g.muxId) (m : Measured) :
    acceptSignalling s p g m = enterTracking s p g m := by
  simp [acceptSignalling, State.wrongMux_eq_false expected]

theorem acceptSignalling_of_expectsOther {p : Path} (other : s.expectsOther p g.muxId) (m : Measured) :
    acceptSignalling s p g m = s.updPath p fun u => u.failed (s.config.candidates.get p) .wrongMux := by
  simp [acceptSignalling, State.wrongMux_iff.mpr other, takeFailure_eq]

end Locking

/-- Settles O9: LOCKED and REGAINED accept the signalling by the same entry. -/
theorem lockOrRegainEntersTracking : Obligations.LockOrRegainEntersTracking := by
  intro a read g s p signalled low high synced expected sameWork entered
  have complete := completeSignalling_eq_some_iff.mpr ⟨signalled, low, high⟩
  have accepted := acceptSignalling_of_expected expected read.measured
  refine ⟨fun inFrame decoding => ?_, fun inHold => ?_⟩
  · rw [exec, execLocked_of_complete complete ⟨State.worksAt_iff.mpr ⟨inFrame, sameWork⟩, synced, decoding⟩, accepted]
    rfl
  · rw [exec, execRegained_of_complete complete ⟨State.worksAt_iff.mpr ⟨inHold, sameWork⟩, synced⟩, accepted]
    rfl

/-! ### Time limits (R2, R13) -/

section Expiry
variable {a : PathWork} {s : State}

theorem execAcquisitionTimerExpiry_of_running {reason : Failure} (running : (s.path a.path).timer ≠ none)
    (sameWork : (s.path a.path).work = a.work) (fails : (s.path a.path).state.expiryFailure = some reason) :
    execAcquisitionTimerExpiry a s =
      .next (s.updPath a.path fun u => u.failed (s.config.candidates.get a.path) reason) := by
  obtain ⟨limit, running⟩ := Option.ne_none_iff_exists'.mp running
  simp only [execAcquisitionTimerExpiry, running, fails, if_pos sameWork, takeFailure_eq]

theorem execAcquisitionTimerExpiry_of_left
    (left : (s.path a.path).timer = none ∨ (s.path a.path).state.expiryFailure = none ∨
      (s.path a.path).work ≠ a.work) :
    execAcquisitionTimerExpiry a s = .next s := by
  unfold execAcquisitionTimerExpiry
  split
  next running fails => exact if_neg ((left.resolve_left (by simp [running])).resolve_left (by simp [fails]))
  next => rfl

end Expiry

/-- Settles O10: a frame start that is not complete, and work that has been left, fail the tests of R8, R12 and
R2 (4). -/
theorem disregardedPathEventsChangeNothing : Obligations.DisregardedPathEventsChangeNothing := by
  intro a read s p incomplete
  have unread : incomplete → completeSignalling read = none ∨ read.syncGained = false := by
    refine Or.imp ?_ id ∘ or_assoc.mpr
    simp only [Option.eq_none_iff_forall_ne_some, ne_eq, completeSignalling_eq_some_iff]
    rintro (none_read | ⟨g, signalled, outside⟩) h ⟨read_eq, low, high⟩
    · exact none_read h read_eq
    · obtain rfl := Option.some.inj (signalled.symm.trans read_eq)
      omega
  refine ⟨fun fails => execLocked_of_fails ?_, fun fails => execRegained_of_fails ?_, fun left =>
    execAcquisitionTimerExpiry_of_left ?_⟩
  · rw [State.worksAt_iff]
    rcases fails with fails | fails
    · exact (unread fails).imp_right fun lost => by simp [lost]
    · exact .inr fun ⟨⟨inFrame, sameWork⟩, _, decoding⟩ => by simp_all [p]
  · rw [State.worksAt_iff]
    rcases fails with fails | fails
    · exact (unread fails).imp_right fun lost => by simp [lost]
    · exact .inr fun ⟨⟨inHold, sameWork⟩, _⟩ => by simp_all [p]
  · rcases left with stopped | parked | tracking | other
    · exact .inl stopped
    · exact .inr (.inl (by rw [parked]; rfl))
    · exact .inr (.inl (by rw [tracking]; rfl))
    · exact .inr (.inr other)

/-! ### Frame starts in TRACKING (R11, R24) -/

section FrameStart
variable {p : Path} {g : Signalling} {d : Decoded} {s : State}

theorem execFrameStart_of_left (left : (s.path p).state ≠ .tracking) : execFrameStart p g s = .next s := by
  unfold execFrameStart
  split
  next tracking _ => exact absurd tracking left
  next => rfl

theorem execFrameStart_of_structure (tracking : (s.path p).state = .tracking) (decoded : (s.path p).decoded = some d)
    (other : g.symbolMode ≠ d.symbolMode ∨ g.guard ≠ d.guard ∨ g.n ≠ d.n) :
    execFrameStart p g s = .next (s.updPath p PathUnit.held) := by
  simp only [execFrameStart, tracking, decoded, if_pos other, enterHold_eq]

/-- The signalling of a frame start that keeps the structure is adopted (R11). -/
def PathUnit.adopting (u : PathUnit) (g : Signalling) (d : Decoded) : PathUnit :=
  { u with decoded := some { d with codeRate := g.codeRate, muxId := g.muxId } }

theorem execFrameStart_of_same (tracking : (s.path p).state = .tracking) (decoded : (s.path p).decoded = some d)
    (same : ¬(g.symbolMode ≠ d.symbolMode ∨ g.guard ≠ d.guard ∨ g.n ≠ d.n)) :
    execFrameStart p g s =
      if g.muxId ≠ d.muxId ∧ s.wrongMux p g.muxId = true then
        .next (s.updPath p fun u => u.failed (s.config.candidates.get p) .wrongMux)
      else .next (s.updPath p fun u => (u.adopting g d).checkPosition g) := by
  simp only [execFrameStart, tracking, decoded, if_neg same, takeFailure_eq,
    State.updPath_updPath, State.config_updPath]
  rfl

theorem PathUnit.checkPosition_of_eq {u : PathUnit} (same : u.counter = some ⟨g.superframe, g.frame, 0⟩) :
    u.checkPosition g = u := if_pos same

theorem PathUnit.checkPosition_of_ne {u : PathUnit} (slipped : u.counter ≠ some ⟨g.superframe, g.frame, 0⟩) :
    u.checkPosition g =
      { u with
        counter := some ⟨g.superframe, g.frame, 0⟩
        counters := { u.counters with slips := min (u.counters.slips + 1) 65535 } } := if_neg slipped

end FrameStart

/-- Settles O14: the structure decides between HOLD and the adoption, the counter between a stay and a slip. -/
theorem frameStartHoldsAdoptsOrSlips : Obligations.FrameStartHoldsAdoptsOrSlips := by
  refine ⟨fun p g s left => execFrameStart_of_left left, fun p g d s tracking decoded =>
    ⟨fun other => execFrameStart_of_structure tracking decoded other, fun mode guard size kept => ?_⟩⟩
  intro adopted
  have stays : exec (.frameStart p g) s = .next (s.updPath p fun u => (u.adopting g d).checkPosition g) := by
    refine (execFrameStart_of_same tracking decoded (by simp [mode, guard, size])).trans (if_neg ?_)
    exact fun ⟨differs, other⟩ => kept.elim differs (· (State.wrongMux_iff.mp other))
  rw [stays]
  exact ⟨fun same => congrArg _ (State.updPath_congr s p (PathUnit.checkPosition_of_eq same)),
    fun slipped => congrArg _ (State.updPath_congr s p (PathUnit.checkPosition_of_ne slipped))⟩

/-! ### Orders of the merge unit (R14, R15, R29) -/

/-- The first order that a kind accepts is taken from its place in the inbox. -/
theorem takeFirst_append {α β : Type} {f : α → Option β} {before after : List α} {x : α} {b : β}
    (accepts : f x = some b) (earlier : ∀ y ∈ before, f y = none) :
    takeFirst f (before ++ x :: after) = some (b, before ++ after) := by
  induction before with
  | nil => simp [takeFirst, accepts]
  | cons y ys ih =>
    obtain ⟨refuses, earlier⟩ := List.forall_mem_cons.mp earlier
    simp [takeFirst, refuses, ih earlier]

theorem State.takeOrder_append {β : Type} {s : State} {p : Path} {f : PathOrder → Option β}
    {before after : List PathOrder} {o : PathOrder} {b : β} (waits : (s.path p).inbox = before ++ o :: after)
    (accepts : f o = some b) (earlier : ∀ y ∈ before, f y = none) :
    s.takeOrder p f = some (b, s.updPath p fun u => { u with inbox := before ++ after }) := by
  simp [State.takeOrder, waits, takeFirst_append accepts earlier]

/-- The path of a MODE_MISMATCH order fails when the order names its present stay in TRACKING, and else only takes
it out of the inbox (R14). -/
theorem execModeMismatchOrder_of_waits {p : Path} {before after : List PathOrder} {stay : Nat} {s : State}
    (waits : (s.path p).inbox = before ++ .modeMismatch stay :: after)
    (first : ∀ n, PathOrder.modeMismatch n ∉ before) :
    execModeMismatchOrder p s =
      if (s.path p).state = .tracking ∧ (s.path p).stay = stay then
        .next (s.updPath p fun u =>
          ({ u with inbox := before ++ after }).failed (s.config.candidates.get p) .modeMismatch)
      else .next (s.updPath p fun u => { u with inbox := before ++ after }) := by
  unfold execModeMismatchOrder
  rw [State.takeOrder_append waits (b := stay) rfl fun o ho => ?_]
  · simp only [State.path_updPath_self, takeFailure_eq, State.updPath_updPath, State.config_updPath]
  · cases o with
    | modeMismatch n => exact absurd ho (first n)
    | _ => rfl

/-- Settles O11: every event that fails a path does so by one operation. -/
theorem failureRetriesThenAdvances : Obligations.FailureRetriesThenAdvances := by
  intro a s p list
  refine ⟨fun reason running sameWork listed => ?_, fun sameWork read g signalled low high synced other => ?_,
    fun g d tracking decoded mode guard size differs other => ?_, fun before after stay tracking sameStay waits first =>
      ?_⟩
  · refine execAcquisitionTimerExpiry_of_running running sameWork ?_
    simp only [List.mem_cons, Prod.mk.injEq, List.not_mem_nil, or_false] at listed
    obtain ⟨state, rfl⟩ | ⟨state, rfl⟩ | ⟨state, rfl⟩ | ⟨state, rfl⟩ | ⟨state, rfl⟩ := listed <;>
      exact congrArg PathState.expiryFailure state
  · have complete := completeSignalling_eq_some_iff.mpr ⟨signalled, low, high⟩
    have fails := acceptSignalling_of_expectsOther other read.measured
    refine ⟨fun inFrame decoding => ?_, fun inHold => ?_⟩
    · rw [exec, execLocked_of_complete complete ⟨State.worksAt_iff.mpr ⟨inFrame, sameWork⟩, synced, decoding⟩, fails]
    · rw [exec, execRegained_of_complete complete ⟨State.worksAt_iff.mpr ⟨inHold, sameWork⟩, synced⟩, fails]
  · exact (execFrameStart_of_same tracking decoded (by simp [mode, guard, size])).trans
      (if_pos ⟨differs, State.wrongMux_iff.mpr other⟩)
  · exact (execModeMismatchOrder_of_waits waits first).trans (if_pos ⟨tracking, sameStay⟩)

theorem PathUnit.stopped_of_parked {u : PathUnit} (parked : u.state = .parked) : u.stopped = u := if_pos parked

theorem PathUnit.stopped_of_not_parked {u : PathUnit} (working : u.state ≠ .parked) :
    u.stopped =
      { u with
        state := .parked
        timer := none
        selection := none
        measurements := none
        decoded := none
        detected := none
        counter := none
        outbox := if u.state = .tracking then u.outbox ++ [.leaving] else u.outbox } := if_neg working

section StopAndUnpark
variable {p : Path} {before after : List PathOrder} {s : State}

theorem parks_eq_none {o : PathOrder} : o.parks = none ↔ o ≠ .stop ∧ o ≠ .unpark := by
  cases o <;> simp [PathOrder.parks]

theorem execStopOrder_of_waits (waits : (s.path p).inbox = before ++ .stop :: after)
    (earlier : ∀ o ∈ before, o.parks = none) :
    execStopOrder p s =
      .next (s.updPath p fun u => PathUnit.stopped { u with inbox := before ++ after }) := by
  simp only [execStopOrder, State.takeOrder_append (f := PathOrder.parks) waits rfl earlier, State.updPath_updPath]

theorem execUnparkOrder_of_waits (waits : (s.path p).inbox = before ++ .unpark :: after)
    (earlier : ∀ o ∈ before, o.parks = none) :
    execUnparkOrder p s =
      if (s.path p).state = .parked ∧ s.config.candidates.get p ≠ [] ∧ s.thermal.shutdown = false then
        .next (enterGain (s.updPath p fun u => { u with inbox := before ++ after, attempts := 0 }) p)
      else .next (s.updPath p fun u => { u with inbox := before ++ after }) := by
  simp only [execUnparkOrder, State.takeOrder_append (f := PathOrder.parks) waits rfl earlier, State.path_updPath_self,
    State.config_updPath, State.thermal_updPath, State.updPath_updPath]

/-- Of the stops and unparks that wait, the one sent first is taken first (log 24). -/
theorem exists_first_parks {o : PathOrder} (member : o ∈ before) (moves : o.parks ≠ none) :
    ∃ early late first, before = early ++ first :: late ∧ first.parks ≠ none ∧ ∀ y ∈ early, y.parks = none := by
  induction before with
  | nil => simp at member
  | cons y ys ih =>
    by_cases still : y.parks = none
    · obtain rfl | member := List.mem_cons.mp member
      · exact absurd still moves
      · obtain ⟨early, late, first, rfl, firstMoves, earlier⟩ := ih member
        exact ⟨y :: early, late, first, rfl, firstMoves, List.forall_mem_cons.mpr ⟨still, earlier⟩⟩
    · exact ⟨[], ys, y, rfl, still, by simp⟩

theorem takeOrder_parks_of_earlier {o : PathOrder} {b : Bool} {rest : List PathOrder} (member : o ∈ before)
    (moves : o.parks = some b) (alone : ∀ y ∈ before, y.parks ≠ some !b)
    (waits : (s.path p).inbox = before ++ rest) : ∃ t, s.takeOrder p PathOrder.parks = some (b, t) := by
  obtain ⟨early, late, first, rfl, firstMoves, earlier⟩ := exists_first_parks member (by simp [moves])
  obtain ⟨c, firstMoves⟩ := Option.ne_none_iff_exists'.mp firstMoves
  obtain rfl : c = b := by
    have := alone first (by simp)
    cases b <;> cases c <;> simp_all
  rw [List.append_assoc] at waits
  exact ⟨_, State.takeOrder_append waits firstMoves earlier⟩

/-- A stop does not overtake an unpark sent before it. -/
theorem execStopOrder_of_unpark_earlier {rest : List PathOrder} (member : .unpark ∈ before)
    (alone : .stop ∉ before) (waits : (s.path p).inbox = before ++ rest) : execStopOrder p s = .next s := by
  obtain ⟨t, taken⟩ := takeOrder_parks_of_earlier member rfl
    (fun y hy same => alone (by cases y <;> simp_all [PathOrder.parks])) waits
  simp only [execStopOrder, taken]

/-- An unpark does not overtake a stop sent before it. -/
theorem execUnparkOrder_of_stop_earlier {rest : List PathOrder} (member : .stop ∈ before)
    (alone : .unpark ∉ before) (waits : (s.path p).inbox = before ++ rest) : execUnparkOrder p s = .next s := by
  obtain ⟨t, taken⟩ := takeOrder_parks_of_earlier member rfl
    (fun y hy same => alone (by cases y <;> simp_all [PathOrder.parks])) waits
  simp only [execUnparkOrder, taken]

theorem execRefusalNotice_of_waits (waits : (s.path p).inbox = before ++ .refusal :: after)
    (first : .refusal ∉ before) :
    execRefusalNotice p s = .next (s.updPath p fun u =>
      { u with
        inbox := before ++ after
        counters := { u.counters with refused := min (u.counters.refused + 1) 65535 } }) := by
  have taken := State.takeOrder_append waits (f := fun o => if o = .refusal then some () else none) (if_pos rfl)
    (fun o ho => if_neg fun same : o = .refusal => first (same ▸ ho))
  simp only [execRefusalNotice, taken, State.updPath_updPath]
  rfl

end StopAndUnpark

/-- Settles O15: each order is found in the inbox and taken by its own lemma above. -/
theorem pathTakesOrdersOfMergeUnit : Obligations.PathTakesOrdersOfMergeUnit := by
  intro p before after s
  have still (alone : .stop ∉ before) (alone' : .unpark ∉ before) : ∀ o ∈ before, o.parks = none :=
    fun o ho => parks_eq_none.mpr ⟨fun same => alone (same ▸ ho), fun same => alone' (same ▸ ho)⟩
  refine ⟨fun waits first => ⟨fun earlier => execStopOrder_of_unpark_earlier earlier first waits,
      fun alone working => ?_, fun alone parked => ?_⟩,
    fun waits first => ⟨fun earlier => execUnparkOrder_of_stop_earlier earlier first waits,
      fun alone parked listed runs => ?_, fun alone fails => ?_⟩,
    execRefusalNotice_of_waits, fun stay waits first other => ?_⟩
  · rw [exec, execStopOrder_of_waits waits (still first alone)]
    exact congrArg _ (State.updPath_congr s p (PathUnit.stopped_of_not_parked working))
  · rw [exec, execStopOrder_of_waits waits (still first alone)]
    exact congrArg _ (State.updPath_congr s p (PathUnit.stopped_of_parked parked))
  · rw [exec, execUnparkOrder_of_waits waits (still alone first), if_pos ⟨parked, listed, runs⟩, enterGain,
      State.updPath_updPath]
    refine congrArg _ (State.updPath_congr s p ?_)
    simp only [State.candidate, State.path_updPath_self, State.config_updPath]
    rfl
  · refine (execUnparkOrder_of_waits waits (still alone first)).trans (if_neg fun ⟨parked, listed, runs⟩ => ?_)
    obtain working | unlisted | shut := fails
    · exact working parked
    · exact listed unlisted
    · simp [shut] at runs
  · refine (execModeMismatchOrder_of_waits waits first).trans (if_neg fun ⟨tracking, same⟩ => ?_)
    exact other.elim (· tracking) (· same)

/-! ### The continuity table (R30, R31) -/

section Continuity
variable {table : List ContinuityEntry} {pid : BitVec 13}

/-- Of a table without repeats, the entry of an identifier is taken and the others stay. -/
theorem takeFirst_pid_of_present {e : ContinuityEntry} (distinct : (table.map ContinuityEntry.pid).Nodup)
    (member : e ∈ table) (present : e.pid = pid) :
    takeFirst (fun e : ContinuityEntry => if e.pid = pid then some e.count else none) table =
      some (e.count, table.filter fun d => d.pid ≠ pid) := by
  obtain ⟨before, after, rfl⟩ := List.append_of_mem member
  rw [List.map_append, List.map_cons, List.nodup_middle, List.nodup_cons, List.mem_append, not_or] at distinct
  obtain ⟨⟨notBefore, notAfter⟩, -⟩ := distinct
  have others {l : List ContinuityEntry} (absent : e.pid ∉ l.map ContinuityEntry.pid) : ∀ d ∈ l, d.pid ≠ pid :=
    fun d hd same => absent (List.mem_map.mpr ⟨d, hd, same.trans present.symm⟩)
  have taken := takeFirst_append (f := fun e : ContinuityEntry => if e.pid = pid then some e.count else none)
    (after := after) (if_pos present) fun d hd => if_neg (others notBefore d hd)
  have keeps {l : List ContinuityEntry} (absent : e.pid ∉ l.map ContinuityEntry.pid) :
      l.filter (fun d => d.pid ≠ pid) = l := List.filter_eq_self.mpr fun d hd => by simpa using others absent d hd
  rw [taken, List.filter_append, List.filter_cons_of_neg (by simp [present]), keeps notBefore, keeps notAfter]

theorem continuityTake_of_present {e : ContinuityEntry} (distinct : (table.map ContinuityEntry.pid).Nodup)
    (member : e ∈ table) (present : e.pid = pid) (c : BitVec 4) :
    continuityTake table pid c = ((table.filter fun d => d.pid ≠ pid) ++ [⟨pid, c⟩], c != e.count + 1) := by
  simp only [continuityTake, takeFirst_pid_of_present distinct member present]

theorem continuityTake_of_absent (absent : ¬ ∃ e ∈ table, e.pid = pid) (c : BitVec 4) :
    continuityTake table pid c = ((if table.length < 8 then table else table.tail) ++ [⟨pid, c⟩], false) := by
  have untaken : takeFirst (fun e : ContinuityEntry => if e.pid = pid then some e.count else none) table = none := by
    by_contra! taken
    obtain ⟨⟨b, rest⟩, taken⟩ := Option.ne_none_iff_exists'.mp taken
    obtain ⟨e, before, after, rfl, -, found, -⟩ := takeFirst_some taken
    exact absent ⟨e, by simp, by simpa using (Option.ite_none_right_eq_some.mp found).1⟩
  simp only [continuityTake, untaken]

end Continuity

/-- Settles O13: the identifier is present or absent, and each case is one equation above. -/
theorem continuityTableKeepsEightIdentifiers : Obligations.ContinuityTableKeepsEightIdentifiers := by
  intro table pid c distinct bounded after present
  by_cases found : present
  · obtain ⟨e, member, same⟩ := found
    have taken : after = _ := continuityTake_of_present distinct member same c
    have only {d : ContinuityEntry} (hd : d ∈ table) (named : d.pid = pid) : d = e :=
      List.inj_on_of_nodup_map distinct hd member (named.trans same.symm)
    have fewer : (table.filter fun d => d.pid ≠ pid).length < table.length :=
      List.length_filter_lt_length_iff_exists.mpr ⟨e, member, by simp [same]⟩
    refine ⟨fun _ => by rw [taken], fun absent => absurd ⟨e, member, same⟩ absent,
      fun absent => absurd ⟨e, member, same⟩ absent, ?_, ?_, ?_⟩
    · rw [taken, List.map_append, List.nodup_append_comm]
      refine List.nodup_cons.mpr ⟨by simp, ?_⟩
      exact distinct.sublist ((List.filter_sublist).map _)
    · rw [taken, List.length_append, List.length_singleton]; omega
    · rw [taken, bne_iff_ne]
      exact ⟨fun broken => ⟨e, member, same, broken⟩, fun ⟨d, hd, named, broken⟩ => only hd named ▸ broken⟩
  · have taken : after = _ := continuityTake_of_absent found c
    have kept : (if table.length < 8 then table else table.tail).Sublist table := by
      split
      · exact List.Sublist.refl table
      · exact List.tail_sublist table
    refine ⟨fun here => absurd here found, fun _ room => by rw [taken, if_pos room],
      fun _ full => by rw [taken, if_neg (by omega), List.drop_one], ?_, ?_, ?_⟩
    · rw [taken, List.map_append, List.nodup_append_comm]
      refine List.nodup_cons.mpr ⟨fun member => ?_, distinct.sublist (kept.map _)⟩
      obtain ⟨d, hd, named⟩ := List.mem_map.mp member
      exact found ⟨d, kept.subset hd, named⟩
    · rw [taken, List.length_append, List.length_singleton]
      split
      · omega
      · rw [List.length_tail]; omega
    · rw [taken]
      exact ⟨fun h => absurd h Bool.false_ne_true, fun ⟨e, he, named, _⟩ => absurd ⟨e, he, named⟩ found⟩

/-! ### Delivery (R10, R20, R22, R25, R28, R32, R194) -/

section Delivery
variable {p : Path} {st : Status} {pkt : Packet} {q : Position} {d : Decoded} {s : State}

theorem execPacketCompleted_of_left (left : (s.path p).state ≠ .tracking) :
    execPacketCompleted p st pkt s = .next s := by
  unfold execPacketCompleted
  split
  next tracking _ _ => exact absurd tracking left
  next => rfl

theorem execPacketCompleted_of_tracking (tracking : (s.path p).state = .tracking)
    (counter : (s.path p).counter = some q) (decoded : (s.path p).decoded = some d) :
    execPacketCompleted p st pkt s =
      if ((s.path p).lastDelivered.map (newer d.n q)).getD true = true then
        .next (deliver (s.updPath p fun u => { u with counter := some (q.next d.n) }) p ⟨p, q, d.n, st, pkt⟩)
      else .next (s.updPath p fun u => { u with counter := some (q.next d.n) }) := by
  simp only [execPacketCompleted, tracking, counter, decoded]

theorem deliver_eq (r : Record) :
    deliver s p r =
      let sent := (s.updPath p fun u => u.delivered r).offerFrom (.path p) r.packet
      if 24 ≤ ((s.path p).delivered r).run then sent.updPath p PathUnit.held else sent := by
  have run_eq : (((s.updPath p fun u => u.delivered r).offerFrom (.path p) r.packet).path p).run =
      ((s.path p).delivered r).run := by
    unfold State.offerFrom
    split <;> exact congrArg PathUnit.run (State.path_updPath_self ..)
  simp only [deliver, run_eq, enterHold_eq]

/-- R28, R32: the counts of a record, field by field. -/
theorem PathCounters.count_eq (c : PathCounters) (st : Status) :
    c.count st =
      { c with
        delivered := min (c.delivered + 1) 65535
        clean := if st = .clean then min (c.clean + 1) 65535 else c.clean
        correctedPackets := if 1 ≤ st.correctedBytes then min (c.correctedPackets + 1) 65535 else c.correctedPackets
        correctedBytes :=
          if 1 ≤ st.correctedBytes then min (c.correctedBytes + st.correctedBytes) 1048575 else c.correctedBytes
        uncorrectable := if st = .uncorrectable then min (c.uncorrectable + 1) 65535 else c.uncorrectable } := by
  cases st <;> simp [PathCounters.count, Status.correctedBytes, inc16, satAdd]

theorem takesPart_iff : takesPart st pkt = true ↔ st ≠ .uncorrectable ∧ pkt.header.pid ≠ 8191#13 := by
  simp [takesPart]

theorem State.offerFrom_eq (src : MonitorSource) (pkt : Packet) :
    s.offerFrom src pkt =
      { s with monitor := if s.monitor.source = src then s.monitor.offer pkt else s.monitor } := by
  unfold State.offerFrom
  split <;> rfl

end Delivery

/-- Settles O12: the delivered path of the statement is `PathUnit.delivered`, written field by field. -/
theorem completedPacketIsDeliveredOrWithheld : Obligations.CompletedPacketIsDeliveredOrWithheld := by
  refine ⟨fun p st pkt s left => execPacketCompleted_of_left left,
    fun p st pkt q d s tracking counter decoded => ⟨fun l delivered older => ?_, fun newest => ?_⟩⟩
  · refine (execPacketCompleted_of_tracking tracking counter decoded).trans (if_neg ?_)
    simp [delivered, older]
  · intro taken after run counts recorded offered
    have first : ((s.path p).lastDelivered.map (newer d.n q)).getD true = true := by
      cases h : (s.path p).lastDelivered with
      | none => rfl
      | some l => exact newest l h
    have delivers : s.updPath p (fun u => PathUnit.delivered { u with counter := some (q.next d.n) }
        ⟨p, q, d.n, st, pkt⟩) = recorded := by
      refine State.updPath_congr s p ?_
      simp only [PathUnit.delivered, PathCounters.count_eq, takesPart_iff, Bool.and_eq_true, counts, taken, after, run]
      by_cases faulty : (st ≠ .uncorrectable ∧ pkt.header.pid ≠ 8191#13) ∧
        (continuityTake (s.path p).continuity pkt.header.pid pkt.header.continuity).2 = true
      · simp only [if_pos faulty]; rfl
      · simp only [if_neg faulty]; rfl
    have sent : (s.updPath p fun u => PathUnit.delivered { u with counter := some (q.next d.n) }
        ⟨p, q, d.n, st, pkt⟩).offerFrom (.path p) pkt = offered := by
      rw [delivers]; exact State.offerFrom_eq ..
    rw [exec, execPacketCompleted_of_tracking tracking counter decoded, if_pos first, deliver_eq,
      State.updPath_updPath, sent, State.path_updPath_self]
    rfl

end Sys2Proof.Machine
end

section
/-!
What the steps of the lane side (ports, election unit, line, responder) can do, told block by block: every law of
ports, elections, peer view and line counters is kept by each shared operation, so it is kept by each command.
-/
namespace Sys2Proof.Machine

/-! ### Answers -/

/-- A meaning answers a next state, and one that has a property. -/
def Answers (P : State → Prop) (o : Answered) : Prop := ∃ t, o = .next t ∧ P t

@[simp] theorem answers_next {P : State → Prop} {t : State} : Answers P (.next t) ↔ P t :=
  ⟨fun ⟨_, same, holds⟩ => by cases same; exact holds, fun holds => ⟨t, rfl, holds⟩⟩

theorem Answers.imp {P Q : State → Prop} {o : Answered} (answers : Answers P o) (weaker : ∀ t, P t → Q t) :
    Answers Q o :=
  let ⟨t, same, holds⟩ := answers
  ⟨t, same, weaker t holds⟩

/-! ### One port (R83, R84, R95, R99) -/

/-- The FIFO law of one port. -/
def PortUnit.fifoOk (c : Option PortConfig) (u : PortUnit) : Prop :=
  ∀ q, c = some q → (q.depth = 32 ∨ q.depth = 64 ∨ q.depth = 128) ∧ u.fifo.length ≤ q.depth ∧ u.peak ≤ q.depth / 2

/-- A port after an operation that keeps its ranges and its FIFO law and does not start to drive. -/
structure PortUnit.Keeps (c : Option PortConfig) (u v : PortUnit) : Prop where
  ranges : u.inRange → v.inRange
  fifo : u.fifoOk c → v.fifoOk c
  drivers : v.driversOn = true → u.driversOn = true

namespace PortUnit

theorem Keeps.refl (c : Option PortConfig) (u : PortUnit) : u.Keeps c u := ⟨id, id, id⟩

theorem Keeps.trans {c : Option PortConfig} {u v w : PortUnit} (first : u.Keeps c v) (second : v.Keeps c w) :
    u.Keeps c w :=
  ⟨second.ranges ∘ first.ranges, second.fifo ∘ first.fifo, first.drivers ∘ second.drivers⟩

variable {c : Option PortConfig} {u : PortUnit}

/-- R84: a fill within the depth deviates by at most half of it. -/
theorem deviation_le {d fill : Nat} (depth : d = 32 ∨ d = 64 ∨ d = 128) (within : fill ≤ d) :
    deviation d fill ≤ d / 2 := by
  unfold deviation; omega

/-- R84: the peak that a change of fill notes keeps the FIFO law. -/
theorem fifoOk_notePeak {d : Nat} (bound : ∀ q, c = some q → q.depth = d)
    (lawful : ∀ q, c = some q → (q.depth = 32 ∨ q.depth = 64 ∨ q.depth = 128) ∧ u.fifo.length ≤ q.depth ∧
      u.peak ≤ q.depth / 2) : (u.notePeak d).fifoOk c := by
  intro q hq
  obtain ⟨depth, fill, peak⟩ := lawful q hq
  obtain rfl := bound q hq
  exact ⟨depth, fill, max_le peak (deviation_le depth fill)⟩

theorem keeps_enter {q : PortConfig} (bound : c = some q) (p : Packet) : u.Keeps c (u.enter q.depth p) := by
  have same : ∀ r, c = some r → r.depth = q.depth := fun r hr => by cases bound.symm.trans hr; rfl
  unfold enter
  dsimp only
  split
  next room =>
    refine ⟨fun ⟨counters, rest⟩ => ⟨⟨inc16_le _, counters.2⟩, rest⟩, fun lawful => ?_, id⟩
    refine fifoOk_notePeak same fun r hr => ?_
    obtain ⟨depth, -, peak⟩ := lawful r hr
    obtain rfl := Option.some.inj (bound.symm.trans hr)
    exact ⟨depth, by simpa using room, peak⟩
  next full =>
    refine ⟨fun ⟨⟨_, marked, nulled, omitted, _, counters⟩, rest⟩ =>
      ⟨⟨inc16_le _, marked, nulled, omitted, inc16_le _, counters⟩, rest⟩, fun lawful r hr => ?_, id⟩
    obtain ⟨depth, fill, peak⟩ := lawful r hr
    refine ⟨depth, ?_, peak⟩
    simp only [List.length_append, List.length_tail, List.length_singleton]
    omega

theorem keeps_condition {q : PortConfig} (bound : c = some q) (mode : Conditioning) (st : Status) (p : Packet) :
    u.Keeps c (u.condition q.depth mode st p) := by
  cases st with
  | clean => exact keeps_enter bound p
  | corrected k => exact keeps_enter bound p
  | uncorrectable =>
    cases mode with
    | mark =>
      exact Keeps.trans (v := { u with counters := { u.counters with marked := inc16 u.counters.marked } })
        ⟨fun ⟨⟨entered, _, counters⟩, rest⟩ => ⟨⟨entered, inc16_le _, counters⟩, rest⟩, id, id⟩ (keeps_enter bound _)
    | null =>
      exact Keeps.trans (v := { u with counters := { u.counters with nulled := inc16 u.counters.nulled } })
        ⟨fun ⟨⟨entered, marked, _, counters⟩, rest⟩ => ⟨⟨entered, marked, inc16_le _, counters⟩, rest⟩, id, id⟩
        (keeps_enter bound _)
    | omitting =>
      exact ⟨fun ⟨⟨entered, marked, nulled, _, counters⟩, rest⟩ =>
        ⟨⟨entered, marked, nulled, inc16_le _, counters⟩, rest⟩, id, id⟩

theorem clampNat_mem {x : Int} {lo hi : Nat} (order : lo ≤ hi) : lo ≤ clampNat x lo hi ∧ clampNat x lo hi ≤ hi := by
  unfold clampNat clampInt; omega

theorem keeps_takeServiceState (v : ServiceState) : u.Keeps c (u.takeServiceState v) := by
  unfold takeServiceState
  split
  · exact .refl c u
  · split
    · refine ⟨fun ⟨counters, mismatch, est, _⟩ => ⟨counters, mismatch, est, ?_⟩, id, id⟩
      rintro r ⟨⟩
      exact clampNat_mem (by decide)
    · exact ⟨id, id, id⟩

theorem keeps_endPacket : u.Keeps c u.endPacket := by
  unfold endPacket
  split
  · exact .refl c u
  · split
    · exact ⟨id, id, fun on => absurd on Bool.false_ne_true⟩
    · exact ⟨id, id, id⟩

theorem keeps_finish : u.Keeps c u.finish := by
  unfold finish
  split
  · exact ⟨id, id, fun on => absurd on Bool.false_ne_true⟩
  · exact ⟨id, id, id⟩

/-- R90: the schedule of the next due event is no part of a law. -/
theorem keeps_due (due : Option Nat) : u.Keeps c { u with due := due } := ⟨id, id, id⟩

/-- Taking the head of a FIFO keeps its law. -/
theorem fifoOk_tail {p : Packet} {rest : List Packet} {v : PortUnit} {d : Nat} (bound : ∀ q, c = some q → q.depth = d)
    (head : u.fifo = p :: rest) (tail : v.fifo = rest) (peak : v.peak = u.peak) (lawful : u.fifoOk c) :
    (v.notePeak d).fifoOk c := by
  refine fifoOk_notePeak bound fun q hq => ?_
  obtain ⟨depth, fill, noted⟩ := lawful q hq
  rw [head, List.length_cons] at fill
  exact ⟨depth, by rw [tail]; omega, by rw [peak]; exact noted⟩

theorem keeps_sendOne {q : PortConfig} (bound : c = some q) : u.Keeps c (u.sendOne q.depth).2 := by
  have same : ∀ r, c = some r → r.depth = q.depth := fun r hr => by cases bound.symm.trans hr; rfl
  unfold sendOne
  split
  next head =>
    exact ⟨fun ⟨⟨entered, marked, nulled, omitted, overflow, _, counters⟩, rest⟩ =>
      ⟨⟨entered, marked, nulled, omitted, overflow, inc16_le _, counters⟩, rest⟩, fifoOk_tail same head rfl rfl, id⟩
  next =>
    exact ⟨fun ⟨⟨entered, marked, nulled, omitted, overflow, sent, _, counters⟩, rest⟩ =>
      ⟨⟨entered, marked, nulled, omitted, overflow, sent, inc16_le _, counters⟩, rest⟩, id, id⟩

theorem keeps_discardOne {q : PortConfig} (bound : c = some q) : u.Keeps c (u.discardOne q.depth).2 := by
  have same : ∀ r, c = some r → r.depth = q.depth := fun r hr => by cases bound.symm.trans hr; rfl
  unfold discardOne
  split
  next head =>
    exact ⟨fun ⟨⟨entered, marked, nulled, omitted, overflow, sent, stuffed, _, counters⟩, rest⟩ =>
      ⟨⟨entered, marked, nulled, omitted, overflow, sent, stuffed, inc16_le _, counters⟩, rest⟩,
      fifoOk_tail same head rfl rfl, id⟩
  next => exact .refl c u

theorem keeps_judge (l : OnLane) (agrees : Bool) : u.Keeps c (u.judge l agrees) := by
  unfold judge
  dsimp only
  split
  · exact ⟨fun ⟨counters, _, rest⟩ => ⟨counters, Nat.zero_le 1, rest⟩, id, id⟩
  · split
    next first => exact ⟨fun ⟨counters, _, rest⟩ => ⟨counters, Nat.lt_succ_iff.mp first, rest⟩, id, id⟩
    next =>
      exact ⟨fun ⟨⟨entered, marked, nulled, omitted, overflow, sent, stuffed, shadow, _⟩, _, rest⟩ =>
        ⟨⟨entered, marked, nulled, omitted, overflow, sent, stuffed, shadow, inc16_le _⟩, Nat.zero_le 1, rest⟩, id,
        fun on => absurd on Bool.false_ne_true⟩

end PortUnit

/-! ### One port's election (R95, R125, R141) -/

/-- The lane law at one port: `fit` where a port may claim and drive, `works` where it may leave DISABLED. -/
def laneOk (fit works : Prop) (u : PortUnit) (e : PortElection) : Prop :=
  (u.driversOn = true → e.lane = .driving ∨ e.lane = .holding) ∧
    ((e.lane = .claiming ∨ e.lane = .driving ∨ e.lane = .holding) → fit) ∧ (e.lane ≠ .disabled → works) ∧
    (e.mark ≠ none → e.lane = .driving ∨ e.lane = .holding)

/-- A port may claim, drive and hold (R141). -/
def State.mayDrive (s : State) : Prop := s.fitness.state = .fit ∧ s.thermal.shutdown = false

/-- A port may leave DISABLED (R80, R126, R143, R145). -/
def State.mayAct (s : State) (x : Port) : Prop :=
  (s.portConfig x).isSome = true ∧ s.loader.phase = .running ∧ s.thermal.shutdown = false

/-- The lane law at one port of a station. -/
def State.laneOkAt (s : State) (x : Port) : Prop := laneOk s.mayDrive (s.mayAct x) (s.port x) (s.elect x)

theorem State.laneLaw_iff {s : State} : s.laneLaw ↔ ∀ x, s.laneOkAt x :=
  ⟨fun ⟨drivers, fit, bound, marks⟩ x => ⟨drivers x, fit x, bound x, marks x⟩,
    fun lawful => ⟨fun x => (lawful x).1, fun x => (lawful x).2.1, fun x => (lawful x).2.2.1,
      fun x => (lawful x).2.2.2⟩⟩

section LaneOk
variable {fit works : Prop} {u v : PortUnit} {e f : PortElection}

/-- No driver that comes on, no other lane state and no new mark: the law stands. -/
theorem laneOk_of_same (lawful : laneOk fit works u e) (drivers : v.driversOn = true → u.driversOn = true)
    (lane : f.lane = e.lane) (mark : f.mark ≠ none → e.mark ≠ none) : laneOk fit works v f := by
  obtain ⟨on, drives, acts, marked⟩ := lawful
  unfold laneOk
  rw [lane]
  exact ⟨on ∘ drivers, drives, acts, marked ∘ mark⟩

/-- A move with the drivers off to DISABLED, RELEASED or BACKOFF, out of DISABLED only where the port may act. -/
theorem laneOk_moveTo_off {l : LaneState} (off : v.driversOn = false)
    (still : l = .disabled ∨ l = .released ∨ l = .backoff) (acts : l ≠ .disabled → works) :
    laneOk fit works v (e.moveTo l) :=
  ⟨fun on => absurd on (by simp [off]),
    fun drives => by obtain rfl | rfl | rfl := still <;> simp [PortElection.moveTo] at drives,
    acts, fun marked => absurd rfl marked⟩

end LaneOk

/-! ### The bundle -/

/-- What a step of the lane side changes and what it keeps: the ports, the elections, the peer view, the line, the
monitor output and the reply move, each within its law; of the loader the release wait, of the fitness monitor the
fault flags, and nothing else. -/
structure State.LaneStep (s t : State) : Prop where
  ports : ∀ x, ((s.port x).inRange → (t.port x).inRange) ∧
    ((s.port x).fifoOk (s.portConfig x) → (t.port x).fifoOk (s.portConfig x))
  elects : ∀ x, (s.elect x).inRange → (t.elect x).inRange
  lanes : ∀ x, s.laneOkAt x → t.laneOkAt x
  peers : s.peerLaw → t.peerLaw
  counters : s.lineRanges → t.lineRanges
  monitor : s.monitor.queue.length ≤ 2 → t.monitor.queue.length ≤ 2
  rest : t = { s with
    ports := t.ports, election := t.election, line := t.line, monitor := t.monitor, reply := t.reply,
    portSignals := t.portSignals, electionSignals := t.electionSignals, freeDraws := t.freeDraws,
    loader := { s.loader with
      releasing := t.loader.releasing, releaseLimit := t.loader.releaseLimit,
        releasedReport := t.loader.releasedReport }
    fitness := { s.fitness with faults := t.fitness.faults } }

namespace State.LaneStep
variable {s t u : State}

theorem refl (s : State) : s.LaneStep s := ⟨fun _ => ⟨id, id⟩, fun _ => id, fun _ => id, id, id, id, rfl⟩

theorem trans (first : s.LaneStep t) (second : t.LaneStep u) : s.LaneStep u where
  ports x := by
    have sameConfig : t.portConfig x = s.portConfig x := by rw [first.rest]; rfl
    have later := second.ports x
    rw [sameConfig] at later
    exact ⟨later.1 ∘ (first.ports x).1, later.2 ∘ (first.ports x).2⟩
  elects x := second.elects x ∘ first.elects x
  lanes x := second.lanes x ∘ first.lanes x
  peers := second.peers ∘ first.peers
  counters := second.counters ∘ first.counters
  monitor := second.monitor ∘ first.monitor
  rest := by
    have before := first.rest
    have after := second.rest
    rw [before] at after
    exact after

theorem foldl {α : Type} {f : State → α → State} {xs : List α} (steps : ∀ (s : State) x, s.LaneStep (f s x))
    (s : State) :
    s.LaneStep (xs.foldl f s) := by
  induction xs generalizing s with
  | nil => exact .refl s
  | cons x xs ih => exact (steps s x).trans (ih (f s x))

end State.LaneStep

/-! ### The primitive steps -/

section Primitive
variable {s : State} {x : Port}

theorem laneStep_updElect {f : PortElection → PortElection} (ranges : (s.elect x).inRange → (f (s.elect x)).inRange)
    (lane : s.laneOkAt x → laneOk s.mayDrive (s.mayAct x) (s.port x) (f (s.elect x))) :
    s.LaneStep (s.updElect x f) where
  ports _ := ⟨id, id⟩
  elects y := by
    by_cases same : y = x
    · subst same; rwa [State.elect_updElect_self]
    · rw [State.elect_updElect_of_ne s f same]; exact id
  lanes y lawful := by
    by_cases same : y = x
    · subst same
      unfold State.laneOkAt
      rw [State.elect_updElect_self]
      exact lane lawful
    · have kept : s.laneOkAt y ↔ (s.updElect x f).laneOkAt y := by
        unfold State.laneOkAt; rw [State.elect_updElect_of_ne s f same]; rfl
      exact kept.mp lawful
  peers := id
  counters := id
  monitor := id
  rest := rfl

/-- A change of an election that leaves its lane state, and adds no mark. -/
theorem laneStep_updElect_of_same {f : PortElection → PortElection}
    (ranges : (s.elect x).inRange → (f (s.elect x)).inRange) (lane : (f (s.elect x)).lane = (s.elect x).lane)
    (mark : (f (s.elect x)).mark ≠ none → (s.elect x).mark ≠ none) : s.LaneStep (s.updElect x f) :=
  laneStep_updElect ranges fun lawful => laneOk_of_same lawful id lane mark

theorem laneStep_updPort {f : PortUnit → PortUnit} (keeps : (s.port x).Keeps (s.portConfig x) (f (s.port x))) :
    s.LaneStep (s.updPort x f) where
  ports y := by
    by_cases same : y = x
    · subst same; rw [State.port_updPort_self]; exact ⟨keeps.ranges, keeps.fifo⟩
    · rw [State.port_updPort_of_ne s f same]; exact ⟨id, id⟩
  elects _ := id
  lanes y lawful := by
    by_cases same : y = x
    · subst same
      refine laneOk_of_same lawful ?_ rfl id
      rw [State.port_updPort_self]; exact keeps.drivers
    · refine laneOk_of_same lawful ?_ rfl id
      rw [State.port_updPort_of_ne s f same]; exact id
  peers := id
  counters := id
  monitor := id
  rest := rfl

/-- A change of the line alone that keeps the ranges of its counters. -/
theorem laneStep_line {l : LineUnit} (counters : s.lineRanges → ({ s with line := l } : State).lineRanges) :
    s.LaneStep { s with line := l } where
  ports _ := ⟨id, id⟩
  elects _ := id
  lanes _ := id
  peers := id
  counters := counters
  monitor := id
  rest := rfl

/-- A change of the line alone that leaves its counters. -/
theorem laneStep_line_of_counters {l : LineUnit} (same : l.counters = s.line.counters) :
    s.LaneStep { s with line := l } :=
  laneStep_line fun lawful => by unfold State.lineRanges at *; rwa [same]

end Primitive

/-! ### Sending on the line (R112 to R116) -/

theorem laneStep_trySend (s : State) : s.LaneStep (trySend s) := by
  obtain ⟨-, -, -, k, f, -, sent⟩ | same := trySend_cases s
  · rw [sent]; exact laneStep_line_of_counters rfl
  · rw [same]; exact .refl s

theorem laneStep_placeFrame (s : State) (k : TxSlot) (f : Frame) : s.LaneStep (s.placeFrame k f) :=
  laneStep_line_of_counters rfl

theorem laneStep_slotMark (s : State) (x : Port) (b : Bool) :
    s.LaneStep (s.updElect x fun e => { e with slotMark := b }) :=
  laneStep_updElect_of_same id rfl id

theorem laneStep_loseFlight (s : State) (f : Flight) : s.LaneStep (loseFlight s f) := by
  have lost : s.LaneStep { s with line := s.line.lose f } := by
    refine laneStep_line_of_counters ?_
    simp only [LineUnit.lose]
    split
    · rfl
    · split <;> rfl
  unfold loseFlight
  dsimp only
  split
  · exact lost.trans (laneStep_slotMark _ _ _)
  · exact lost

theorem laneStep_loseSending (s : State) (f : Flight) (sent : Bool) : s.LaneStep (loseSending s f sent) := by
  refine (laneStep_line fun lawful => ?_).trans (laneStep_loseFlight _ f)
  obtain ⟨badCheck, truncated, badLength, badField, clashes, losses, faults, stuck⟩ := lawful
  cases sent with
  | true => exact ⟨badCheck, truncated, badLength, badField, clashes, inc32_le _, faults, stuck⟩
  | false => exact ⟨badCheck, truncated, badLength, badField, clashes, losses, inc32_le _, stuck⟩

theorem laneStep_loseAtCell (s : State) (f : Flight) (cells : List Bool) (cell : Nat) (sent : Bool) :
    s.LaneStep (loseAtCell s f cells cell sent) := by
  refine State.LaneStep.trans ?_ (laneStep_loseSending _ f sent)
  exact laneStep_line_of_counters rfl

theorem laneStep_loseWhere (s : State) (cell : Nat) (sent : Bool) : s.LaneStep (loseWhere s cell sent) := by
  unfold loseWhere
  split
  · split
    · split
      · split
        · exact laneStep_loseAtCell ..
        · exact .refl s
      · split
        · exact laneStep_loseSending ..
        · exact .refl s
    · exact .refl s
  · exact .refl s

theorem laneStep_loseToStuck (s : State) : s.LaneStep (loseToStuck s) := by
  unfold loseToStuck
  split
  · exact laneStep_loseSending ..
  · exact .refl s

theorem laneStep_withdrawFrame (s : State) (x : Port) : s.LaneStep (withdrawFrame s x) := by
  simp only [withdrawFrame]
  split
  · split
    · refine State.LaneStep.trans ?_ (laneStep_slotMark _ x true)
      exact laneStep_line_of_counters rfl
    · exact laneStep_line_of_counters rfl
  · exact laneStep_line_of_counters rfl

/-! ### The moves of a port (R125, R133 to R139) -/

section Moves
variable {s : State} {x : Port}

theorem PortElection.inRange_moveTo {e : PortElection} {l : LaneState} (ranges : e.inRange) : (e.moveTo l).inRange := by
  obtain ⟨challenge, rest⟩ := ranges
  refine ⟨?_, rest⟩
  simp only [PortElection.moveTo]
  split
  · exact Nat.zero_le 3
  · exact challenge

/-- A port moves to DISABLED, RELEASED or BACKOFF only where it may act, and with its drivers off. -/
theorem laneStep_moveTo_off {l : LaneState} (still : l = .disabled ∨ l = .released ∨ l = .backoff)
    (acts : s.laneOkAt x → l ≠ .disabled → (s.elect x).lane ≠ .disabled)
    (off : s.laneOkAt x → (s.port x).driversOn = false) :
    s.LaneStep (s.updElect x fun e => e.moveTo l) :=
  laneStep_updElect PortElection.inRange_moveTo fun lawful =>
    laneOk_moveTo_off (off lawful) still fun moves => lawful.2.2.1 (acts lawful moves)

/-- A port that does not drive has its drivers off. -/
theorem State.laneOkAt.off (lawful : s.laneOkAt x) (still : (s.elect x).lane ≠ .driving ∧ (s.elect x).lane ≠ .holding) :
    (s.port x).driversOn = false := by
  rw [← Bool.not_eq_true]
  exact fun on => (lawful.1 on).elim still.1 still.2

/-- R95: a port that drove stands down, its drivers off. -/
theorem laneStep_standDown {l : LaneState} (still : l = .disabled ∨ l = .released ∨ l = .backoff)
    (acts : s.laneOkAt x → l ≠ .disabled → (s.elect x).lane ≠ .disabled) : s.LaneStep (standDown s x l) where
  ports y := by
    by_cases same : y = x
    · subst same; rw [port_standDown_self]; exact ⟨id, id⟩
    · rw [standDown, State.port_updPort_of_ne _ _ same]; exact ⟨id, id⟩
  elects y := by
    by_cases same : y = x
    · subst same; rw [elect_standDown_self]; exact PortElection.inRange_moveTo
    · rw [standDown, State.elect_updPort, State.elect_updElect_of_ne _ _ same]; exact id
  lanes y lawful := by
    by_cases same : y = x
    · subst same
      rw [State.laneOkAt, elect_standDown_self, port_standDown_self]
      exact laneOk_moveTo_off rfl still fun moves => lawful.2.2.1 (acts lawful moves)
    · rw [State.laneOkAt, standDown, State.elect_updPort, State.elect_updElect_of_ne _ _ same,
        State.port_updPort_of_ne _ _ same]
      exact lawful
  peers := id
  counters := id
  monitor := id
  rest := rfl

theorem laneStep_enterBackoff (acts : (s.elect x).lane ≠ .disabled) : s.LaneStep (enterBackoff s x) := by
  refine (laneStep_standDown (.inr (.inr rfl)) fun _ _ => acts).trans
    (laneStep_updElect_of_same (fun ⟨challenge, _, refused⟩ => ⟨challenge, ?_, refused⟩) rfl id)
  have := s.loader.stationNumber.isLt
  dsimp only
  omega

theorem laneStep_placeLane (s : State) (x : Port) (f : Station → Fin 16 → Frame) : s.LaneStep (placeLane s x f) := by
  unfold placeLane
  split
  · exact laneStep_placeFrame ..
  · exact .refl s

theorem laneStep_placeRelease (s : State) (x : Port) (r : ReleaseReason) : s.LaneStep (placeRelease s x r) :=
  laneStep_placeLane s x _

/-- A withdrawal leaves the lane states, the marks and the ports. -/
theorem withdrawFrame_lanes (s : State) (x y : Port) :
    ((withdrawFrame s x).elect y).lane = (s.elect y).lane ∧ (withdrawFrame s x).port y = s.port y := by
  have same (t : State) (b : Bool) :
      ((t.updElect x fun e => { e with slotMark := b }).elect y).lane = (t.elect y).lane := by
    by_cases here : y = x
    · subst here; rw [State.elect_updElect_self]
    · rw [State.elect_updElect_of_ne t _ here]
  simp only [withdrawFrame]
  split
  · split
    · exact ⟨same _ true, rfl⟩
    · exact ⟨rfl, rfl⟩
  · exact ⟨rfl, rfl⟩

theorem laneStep_withdrawClaim {l : LaneState} (claims : (s.elect x).lane = .claiming)
    (still : l = .disabled ∨ l = .released ∨ l = .backoff) : s.LaneStep (withdrawClaim s x l) := by
  have same := (withdrawFrame_lanes s x x).1
  refine (laneStep_withdrawFrame s x).trans (laneStep_moveTo_off still (fun _ _ => ?_) fun lawful => lawful.off ?_)
  · rw [same, claims]; decide
  · rw [same, claims]; decide

theorem laneStep_markAndFinish {m : FinishMark} (drives : (s.elect x).lane = .driving ∨ (s.elect x).lane = .holding) :
    s.LaneStep (markAndFinish s x m) :=
  (laneStep_updElect (f := fun e => { e with mark := some m, holdTimer := none }) id
    fun ⟨on, fit, acts, _⟩ => ⟨on, fit, acts, fun _ => drives⟩).trans (laneStep_updPort PortUnit.keeps_finish)

/-- R133: a claiming port may drive, so its drivers may come on. -/
theorem laneStep_admitPort (claims : (s.elect x).lane = .claiming) : s.LaneStep (admitPort s x) where
  ports y := by
    by_cases same : y = x
    · subst same
      simp only [admitPort, State.port_updPort_self, State.port_updElect]
      exact ⟨fun ⟨counters, _, rest⟩ => ⟨counters, Nat.zero_le 1, rest⟩, id⟩
    · simp only [admitPort, State.port_updPort_of_ne _ _ same, State.port_updElect]
      exact ⟨id, id⟩
  elects y := by
    by_cases same : y = x
    · subst same
      simp only [admitPort, State.elect_updPort, State.elect_updElect_self]
      exact PortElection.inRange_moveTo
    · simp only [admitPort, State.elect_updPort, State.elect_updElect_of_ne _ _ same]
      exact id
  lanes y lawful := by
    by_cases same : y = x
    · subst same
      obtain ⟨-, fit, acts, -⟩ := lawful
      simp only [State.laneOkAt, admitPort, State.elect_updPort, State.elect_updElect_self]
      exact ⟨fun _ => .inl rfl, fun _ => fit (.inl claims), fun _ => acts (by rw [claims]; decide),
        fun marked => absurd rfl marked⟩
    · simp only [State.laneOkAt, admitPort, State.elect_updPort, State.elect_updElect_of_ne _ _ same,
        State.port_updPort_of_ne _ _ same, State.port_updElect]
      exact lawful
  peers := id
  counters := id
  monitor := id
  rest := rfl

end Moves

/-! ### The peer view (R121 to R124) -/

section Peers
variable {s : State}

/-- A change of the peer view alone. -/
theorem laneStep_peers {v : Oct (Option PeerEntry)}
    (ages : s.peerLaw → ∀ i e, v.get i = some e → e.age ≤ 2) :
    s.LaneStep { s with election := { s.election with peers := v } } where
  ports _ := ⟨id, id⟩
  elects _ := id
  lanes _ := id
  peers := ages
  counters := id
  monitor := id
  rest := rfl

/-- A change of every election, each by what it holds. -/
theorem laneStep_mapElects {f : Port → PortElection → PortElection}
    (ranges : ∀ x, (s.elect x).inRange → (f x (s.elect x)).inRange)
    (lanes : ∀ x, s.laneOkAt x → laneOk s.mayDrive (s.mayAct x) (s.port x) (f x (s.elect x))) :
    s.LaneStep { s with election := { s.election with ports := s.election.ports.map f } } where
  ports _ := ⟨id, id⟩
  elects x := by
    simp only [State.elect, Quad.get_map]; exact ranges x
  lanes x lawful := by
    simp only [State.laneOkAt, State.elect, Quad.get_map]; exact lanes x lawful
  peers := id
  counters := id
  monitor := id
  rest := rfl

theorem laneStep_refreshConflicts (s : State) : s.LaneStep (refreshConflicts s) := by
  refine laneStep_mapElects (fun x => ?_) fun x lawful => laneOk_of_same lawful id ?_ ?_
  all_goals split <;> first | exact id | rfl

theorem Oct.get_set {α : Type} (q : Oct α) (i j : Fin 8) (a : α) :
    (q.set i a).get j = if j = i then a else q.get j := by
  split
  next same => rw [same, Oct.get_set_self]
  next other => rw [Oct.get_set_of_ne q a other]

/-- A new entry for one station, no older than the law lets it be. -/
theorem laneStep_setPeer {i : Station} {e : Option PeerEntry} (age : s.peerLaw → ∀ d, e = some d → d.age ≤ 2) :
    s.LaneStep { s with election := { s.election with peers := s.election.peers.set i e } } := by
  refine laneStep_peers fun lawful j d found => ?_
  rw [Oct.get_set] at found
  split at found
  · exact age lawful d found
  · exact lawful j d found

theorem laneStep_updRecord (s : State) (k : Station) (lane : Fin 16) (f : ServiceRecord → ServiceRecord) :
    s.LaneStep (s.updRecord k lane f) := by
  refine laneStep_setPeer fun lawful d found => ?_
  obtain ⟨e, present, rfl⟩ := Option.map_eq_some_iff.mp found
  exact lawful k e present

theorem laneStep_hearAnnounce (s : State) (f : Frame) : s.LaneStep (hearAnnounce s f) := by
  refine State.LaneStep.trans (laneStep_setPeer fun _ d found => ?_) (laneStep_refreshConflicts _)
  obtain rfl := Option.some.inj found
  exact Nat.zero_le 2

/-- R142: what the port of a lane does with a CLAIM. -/
theorem laneStep_portHearsClaim (s : State) (x : Port) (f : Frame) : s.LaneStep (portHearsClaim s x f) := by
  unfold portHearsClaim
  dsimp only
  split
  · exact .refl s
  · split
    · split
      · exact laneStep_updElect_of_same (fun ⟨_, rest⟩ => ⟨Nat.zero_le 3, rest⟩) rfl id
      · exact .refl s
    next claims =>
      split
      · exact laneStep_withdrawClaim claims (.inr (.inl rfl))
      · exact .refl s
    next drives =>
      split
      · exact laneStep_markAndFinish (.inl drives)
      · exact .refl s
    next holds =>
      split
      · exact laneStep_markAndFinish (.inr holds)
      · exact .refl s
    · exact .refl s

theorem laneStep_hearClaim (s : State) (f : Frame) : s.LaneStep (hearClaim s f) := by
  unfold hearClaim
  extract_lets view
  have viewed : s.LaneStep view := by
    unfold view
    split
    · exact (laneStep_updRecord ..).trans (laneStep_refreshConflicts _)
    · exact .refl s
  clear_value view
  split
  · split
    · exact viewed.trans (laneStep_portHearsClaim ..)
    · exact viewed
  · exact viewed

theorem LaneState.drives_iff {l : LaneState} : l.drives = true ↔ l = .driving ∨ l = .holding := by
  cases l <;> simp [LaneState.drives]

theorem LaneState.ne_disabled_of_drives {l : LaneState} (drives : l = .driving ∨ l = .holding) : l ≠ .disabled := by
  obtain rfl | rfl := drives <;> decide

theorem laneStep_hearContention (s : State) (f : Frame) : s.LaneStep (hearContention s f) := by
  have viewed := laneStep_updRecord s f.station f.lane fun r => { r with state := .backoff }
  unfold hearContention
  dsimp only
  split
  · split
    · exact viewed
    · split
      next drives =>
        exact viewed.trans (laneStep_enterBackoff (LaneState.ne_disabled_of_drives (LaneState.drives_iff.mp drives)))
      next =>
        split
        next claims => exact viewed.trans (laneStep_withdrawClaim claims (.inr (.inl rfl)))
        next => exact viewed
  · exact viewed

end Peers

/-! ### Evaluation, fitness, restart, stuck line (R126 to R131, R141, R142, R144) -/

section Elections
variable {s : State} {x : Port}

theorem nextChallenge_le (challenge own : Nat) (ds : List (Station × ServiceRecord)) :
    nextChallenge challenge own ds ≤ 3 := by
  unfold nextChallenge
  split
  · exact Nat.zero_le 3
  · split
    · exact Nat.min_le_left ..
    · exact Nat.zero_le 3

/-- R127, R128: only an eligible port, and so one of a FIT station, claims. -/
theorem laneStep_evaluate (s : State) (x : Port) : s.LaneStep (evaluate s x) := by
  unfold evaluate
  split
  next c m _ =>
    split
    next released =>
      dsimp only
      split
      next eligible =>
        have counted : s.LaneStep (s.updElect x fun e =>
            { e with challenge := nextChallenge e.challenge (s.publishedSF c.slot) (s.election.drivers c.lane m) }) :=
          laneStep_updElect_of_same (fun ⟨_, rest⟩ => ⟨nextChallenge_le .., rest⟩) rfl id
        split
        next =>
          refine (counted.trans (laneStep_updElect PortElection.inRange_moveTo fun lawful => ?_)).trans
            (laneStep_placeFrame ..)
          have fit : s.fitness.state = .fit := by
            simp only [State.eligible, Bool.and_eq_true, beq_iff_eq] at eligible
            exact eligible.1.1.1
          rw [State.laneOkAt, State.elect_updElect_self] at lawful
          obtain ⟨on, -, acts, -⟩ := lawful
          have working := acts (by dsimp only; rw [released]; decide)
          refine ⟨fun drives => absurd (on drives) ?_, fun _ => ⟨fit, working.2.2⟩, fun _ => working,
            fun marked => absurd rfl marked⟩
          dsimp only
          rw [released]; decide
        next => exact counted
      next => exact laneStep_updElect_of_same (fun ⟨_, rest⟩ => ⟨Nat.zero_le 3, rest⟩) rfl id
    next => exact .refl s
  next => exact .refl s

theorem laneStep_electOnPublication (s : State) : s.LaneStep (electOnPublication s) := by
  unfold electOnPublication
  split
  · exact .refl s
  · exact (State.LaneStep.foldl laneStep_evaluate s).trans (laneStep_placeFrame ..)

theorem laneStep_unfitPort (s : State) (x : Port) : s.LaneStep (unfitPort s x) := by
  have drives (_ : (s.elect x).lane = .driving ∨ (s.elect x).lane = .holding) :
      s.LaneStep (if (s.elect x).mark = some .restart then
        (placeRelease (standDown s x .disabled) x .restart).updElect x fun e => { e with releaseOut := true }
      else placeRelease (standDown s x .disabled) x .unfit) := by
    have down : s.LaneStep (standDown s x .disabled) := laneStep_standDown (.inl rfl) fun _ moves => absurd rfl moves
    split
    · exact (down.trans (laneStep_placeRelease ..)).trans (laneStep_updElect_of_same id rfl id)
    · exact down.trans (laneStep_placeRelease ..)
  unfold unfitPort
  dsimp only
  split
  next driving => exact drives (.inl driving)
  next holding => exact drives (.inr holding)
  next claims => exact laneStep_withdrawClaim claims (.inl rfl)
  next notDriving notHolding _ =>
    exact laneStep_moveTo_off (.inl rfl) (fun _ moves => absurd rfl moves) fun lawful =>
      lawful.off ⟨notDriving, notHolding⟩

theorem laneStep_restartPort (s : State) (x : Port) : s.LaneStep (restartPort s x) := by
  have drives (here : (s.elect x).lane = .driving ∨ (s.elect x).lane = .holding) :
      s.LaneStep (if (s.elect x).mark = none then markAndFinish s x .restart
        else s.updElect x fun e => { e with mark := some .restart, holdTimer := none }) := by
    split
    · exact laneStep_markAndFinish here
    · exact laneStep_updElect id fun ⟨on, fit, acts, _⟩ => ⟨on, fit, acts, fun _ => here⟩
  unfold restartPort
  dsimp only
  split
  next driving => exact drives (.inl driving)
  next holding => exact drives (.inr holding)
  next claims => exact laneStep_withdrawClaim claims (.inl rfl)
  next notDriving notHolding _ =>
    exact laneStep_moveTo_off (.inl rfl) (fun _ moves => absurd rfl moves) fun lawful =>
      lawful.off ⟨notDriving, notHolding⟩

/-- Flags of the election unit and the release wait are no part of a law. -/
theorem laneStep_flags (s : State) (stuck restarting reported releasing report : Bool) (limit : Option Nat) :
    s.LaneStep { s with
      election := { s.election with lineStuck := stuck, restarting := restarting, reported := reported }
      loader := { s.loader with releasing := releasing, releaseLimit := limit, releasedReport := report } } :=
  ⟨fun _ => ⟨id, id⟩, fun _ => id, fun _ => id, id, id, id, rfl⟩

theorem laneStep_reportReleased (s : State) : s.LaneStep (reportReleased s) := by
  unfold reportReleased
  split
  · exact laneStep_flags s _ _ _ _ _ _
  · exact .refl s

theorem laneStep_electionRestart (s : State) : s.LaneStep (electionRestart s) := by
  refine State.LaneStep.trans ?_ (laneStep_reportReleased _)
  refine State.LaneStep.trans ?_ (State.LaneStep.foldl laneStep_restartPort _)
  exact laneStep_flags s _ _ _ _ _ _

theorem laneStep_electionStuck (s : State) : s.LaneStep (electionStuck s) := by
  refine State.LaneStep.trans ?_ (State.LaneStep.foldl (fun t x => ?_) _)
  · exact laneStep_flags s _ _ _ _ _ _
  · split
    next claims => exact laneStep_withdrawClaim claims (.inr (.inl rfl))
    next => exact .refl t

theorem laneStep_sentLane (s : State) (x : Port) (f : Frame) : s.LaneStep (sentLane s x f) := by
  unfold sentLane
  dsimp only
  split
  · exact laneStep_slotMark s x false
  · split
    · split
      · exact laneStep_updElect_of_same id rfl id
      · exact .refl s
    · split
      · exact (laneStep_updElect_of_same (f := fun e => { e with releaseOut := false }) id rfl id).trans
          (laneStep_reportReleased _)
      · exact .refl s

theorem laneStep_electionFit (s : State) (fit : s.fitness.state = .fit) (runs : s.loader.phase = .running)
    (awake : s.thermal.shutdown = false) : s.LaneStep (electionFit s) := by
  unfold electionFit
  split
  · exact .refl s
  · refine laneStep_mapElects (fun x ranges => ?_) fun x lawful => ?_
    · split
      · exact PortElection.inRange_moveTo ranges
      · exact ranges
    · split
      next freed =>
        exact laneOk_moveTo_off (lawful.off (by rw [freed.2]; decide)) (.inr (.inl rfl)) fun _ => ⟨freed.1, runs, awake⟩
      next => exact lawful

theorem laneStep_electionUnfit (s : State) : s.LaneStep (electionUnfit s) :=
  State.LaneStep.foldl laneStep_unfitPort s

theorem laneStep_ageOnInterval (s : State) : s.LaneStep (ageOnInterval s) := by
  have aged : s.LaneStep { s with
      election := { s.election with peers := s.election.peers.map fun e => e.bind PeerEntry.aged } } := by
    refine laneStep_peers fun _ i d found => ?_
    rw [Oct.get_map] at found
    obtain ⟨e, -, survives⟩ := Option.bind_eq_some_iff.mp found
    obtain ⟨young, same⟩ := Option.ite_none_right_eq_some.mp survives
    obtain rfl := Option.some.inj same
    exact Nat.lt_succ_iff.mp young
  have counted := aged.trans (laneStep_mapElects (f := fun _ e => e.countBackoff)
    (fun x ⟨challenge, backoff, refused⟩ => ?_) fun x lawful => ?_)
  · unfold ageOnInterval
    dsimp only
    split
    · exact counted.trans (laneStep_refreshConflicts _)
    · exact counted
  · unfold PortElection.countBackoff
    split
    · split
      · exact PortElection.inRange_moveTo ⟨challenge, Nat.zero_le 16, refused⟩
      · exact ⟨challenge, (Nat.sub_le ..).trans backoff, refused⟩
    · exact ⟨challenge, backoff, refused⟩
  · unfold PortElection.countBackoff
    split
    next waits =>
      split
      · exact laneOk_moveTo_off (lawful.off (by rw [waits]; decide)) (.inr (.inl rfl))
          fun _ => lawful.2.2.1 (by rw [waits]; decide)
      · exact laneOk_of_same lawful id rfl id
    next => exact lawful

end Elections

/-! ### The commands of the lane side -/

section Commands
variable {s : State}

/-- A taken frame leaves what was heard, and the line's counters. -/
theorem laneStep_takeHeard {t : State} {f : Fin 16 → Bool} {fr : Frame} (taken : s.takeHeard f = some (fr, t)) :
    s.LaneStep t := by
  obtain ⟨-, -, rest, -, rfl⟩ := takeHeard_only taken
  exact laneStep_line_of_counters rfl

theorem laneStep_takePeerFrame {act : State → Frame → State} (acts : ∀ (t : State) f, t.LaneStep (act t f))
    (s : State) (kind : Fin 16) : s.LaneStep (takePeerFrame s kind act) := by
  unfold takePeerFrame
  split
  next f t taken =>
    split
    · refine (laneStep_takeHeard taken).trans (State.LaneStep.trans ?_ (laneStep_trySend _))
      refine laneStep_line fun ⟨badCheck, truncated, badLength, badField, _, rest⟩ => ?_
      exact ⟨badCheck, truncated, badLength, badField, inc32_le _, rest⟩
    · exact ((laneStep_takeHeard taken).trans (acts t f)).trans (laneStep_trySend _)
  next => exact .refl s

theorem laneStep_takeAddressed {act : State → Frame → State} (acts : ∀ (t : State) f, t.LaneStep (act t f))
    (s : State) (kind : Fin 16) : s.LaneStep (takeAddressed s kind act) := by
  unfold takeAddressed
  split
  next f t taken =>
    split
    · exact ((laneStep_takeHeard taken).trans (acts t f)).trans (laneStep_trySend _)
    · exact (laneStep_takeHeard taken).trans (laneStep_trySend _)
  next => exact .refl s

theorem laneStep_takeUnread (s : State) (kinds : Fin 16 → Bool) : s.LaneStep (takeUnread s kinds) := by
  unfold takeUnread
  split
  next f t taken => exact (laneStep_takeHeard taken).trans (laneStep_trySend _)
  next => exact .refl s

/-- The reply and the draw counter are no part of a law. -/
theorem laneStep_reply (s : State) (r : Option Reply) (n : Nat) : s.LaneStep { s with reply := r, freeDraws := n } :=
  ⟨fun _ => ⟨id, id⟩, fun _ => id, fun _ => id, id, id, id, rfl⟩

theorem laneStep_placePart (s : State) (page : Nat) (content : List Byte) (k : Nat) :
    s.LaneStep (placePart s page content k) := by
  refine State.LaneStep.trans ?_ (laneStep_placeFrame _ _ _)
  exact laneStep_reply s _ s.freeDraws

theorem laneStep_answerQuery (s : State) (asked : Nat) : s.LaneStep (answerQuery s asked) := by
  refine State.LaneStep.trans ?_ (laneStep_placePart _ _ _ _)
  exact laneStep_reply s s.reply _

theorem laneStep_sentReport (s : State) (serial : Nat) : s.LaneStep (sentReport s serial) := by
  unfold sentReport
  split
  · split
    · split
      · exact laneStep_placePart ..
      · exact laneStep_reply s none s.freeDraws
    · exact .refl s
  · exact .refl s

theorem laneStep_requestRestart (s : State) : s.LaneStep (requestRestart s) := by
  unfold requestRestart
  split
  · exact .refl s
  · refine State.LaneStep.trans ?_ (laneStep_electionRestart _)
    exact laneStep_flags s _ _ _ _ _ _

/-- A change of the monitor output that does not overfill its queue (R195). -/
theorem laneStep_monitor {m : MonitorUnit} (short : s.monitor.queue.length ≤ 2 → m.queue.length ≤ 2) :
    s.LaneStep { s with monitor := m } :=
  ⟨fun _ => ⟨id, id⟩, fun _ => id, fun _ => id, id, id, short, rfl⟩

theorem MonitorUnit.queue_offer_le {m : MonitorUnit} (q : Packet) (short : m.queue.length ≤ 2) :
    (m.offer q).queue.length ≤ 2 := by
  unfold MonitorUnit.offer
  split
  · exact short
  · split
    · rw [List.length_append, List.length_singleton]; omega
    · exact short

theorem laneStep_offerFrom (s : State) (src : MonitorSource) (q : Packet) : s.LaneStep (s.offerFrom src q) := by
  rw [State.offerFrom_eq]
  refine laneStep_monitor fun short => ?_
  split
  · exact MonitorUnit.queue_offer_le q short
  · exact short

theorem laneStep_execMonitorFrame (s : State) : Answers s.LaneStep (execMonitorFrame s) := by
  refine answers_next.mpr (laneStep_takeAddressed (fun t f => laneStep_monitor fun short => ?_) s 7)
  unfold MonitorUnit.choose
  split
  · exact short
  · exact Nat.zero_le 2

theorem laneStep_execMonitorPacketEnd (s : State) : Answers s.LaneStep (execMonitorPacketEnd s) := by
  refine answers_next.mpr (laneStep_monitor fun short => ?_)
  unfold MonitorUnit.endPacket
  split
  next queue =>
    rw [queue, List.length_cons] at short
    exact (Nat.le_succ _).trans short
  next => exact short
  next => exact short

/-- The messages on their way to ports and election unit are no part of a law. -/
theorem laneStep_signals (s : State) (a b : Quad (List ServiceState)) :
    s.LaneStep { s with portSignals := a, electionSignals := b } :=
  ⟨fun _ => ⟨id, id⟩, fun _ => id, fun _ => id, id, id, id, rfl⟩

theorem laneStep_execPortServiceStateSignal (x : Port) (s : State) :
    Answers s.LaneStep (execPortServiceStateSignal x s) := by
  unfold execPortServiceStateSignal
  split
  next v rest _ =>
    have taken := laneStep_signals s (s.portSignals.set x rest) s.electionSignals
    dsimp only
    split
    · exact answers_next.mpr taken
    · exact answers_next.mpr (taken.trans (laneStep_updPort (PortUnit.keeps_takeServiceState v)))
  next => exact answers_next.mpr (.refl s)

theorem laneStep_execPacketSeen (x : Port) (s : State) : Answers s.LaneStep (execPacketSeen x s) := by
  unfold execPacketSeen
  split
  · exact answers_next.mpr (laneStep_updPort ⟨id, id, id⟩)
  · exact answers_next.mpr (.refl s)

theorem laneStep_execActivityTimerExpiry (x : Port) (s : State) :
    Answers s.LaneStep (execActivityTimerExpiry x s) := by
  unfold execActivityTimerExpiry
  split
  · exact answers_next.mpr (laneStep_updPort ⟨id, id, id⟩)
  · exact answers_next.mpr (.refl s)

theorem laneStep_execReadbackComparison (x : Port) (read : Header) (starts : Quad Bool) (s : State) :
    Answers s.LaneStep (execReadbackComparison x read starts s) := by
  unfold execReadbackComparison
  split
  · split
    · exact answers_next.mpr (laneStep_updPort (PortUnit.keeps_judge ..))
    · exact answers_next.mpr (.refl s)
  · exact answers_next.mpr (.refl s)

theorem laneStep_execPacketEnd (x : Port) (s : State) : Answers s.LaneStep (execPacketEnd x s) :=
  answers_next.mpr (laneStep_updPort PortUnit.keeps_endPacket)

theorem PortElection.lane_of_admissible {e : PortElection} (admissible : e.admissible = true) : e.lane = .claiming := by
  simp only [PortElection.admissible, Bool.and_eq_true, beq_iff_eq] at admissible
  exact admissible.1.1

theorem laneStep_execDueEvent (x : Port) (s : State) : Answers s.LaneStep (execDueEvent x s) := by
  unfold execDueEvent
  split
  next c _ bound _ =>
    extract_lets ended placed t u
    have step : s.LaneStep t := by
      have end_ : s.LaneStep ended := laneStep_updPort PortUnit.keeps_endPacket
      refine State.LaneStep.trans (t := placed) ?_ (laneStep_updPort (PortUnit.keeps_due _))
      unfold placed
      split
      next admissible => exact end_.trans (laneStep_admitPort (PortElection.lane_of_admissible admissible))
      next => exact end_
    have same : t.portConfig x = some c := by rw [step.rest]; exact bound
    have sends : s.LaneStep (t.updPort x fun v => (v.sendOne c.depth).2) :=
      step.trans (laneStep_updPort (PortUnit.keeps_sendOne same))
    have discards : s.LaneStep u := step.trans (laneStep_updPort (PortUnit.keeps_discardOne same))
    split
    · exact answers_next.mpr (sends.trans (laneStep_offerFrom ..))
    · split
      · exact answers_next.mpr (discards.trans (laneStep_offerFrom ..))
      · exact answers_next.mpr discards
  next => exact answers_next.mpr (.refl s)

theorem laneStep_takeNotice {t : State} {x : Port} {m : PortNotice} (taken : s.takeNotice x = some (m, t)) :
    s.LaneStep t := by
  unfold State.takeNotice at taken
  split at taken
  · cases taken
    exact laneStep_updPort ⟨id, id, id⟩
  · cases taken

/-- R142: the port stands down to DISABLED and its RELEASE(X, RESTART) waits. -/
theorem laneStep_releaseForRestart (s : State) (x : Port) :
    s.LaneStep (trySend ((placeRelease (standDown s x .disabled) x .restart).updElect x
      fun e => { e with releaseOut := true })) := by
  have down : s.LaneStep (standDown s x .disabled) := laneStep_standDown (.inl rfl) fun _ moves => absurd rfl moves
  exact ((down.trans (laneStep_placeRelease ..)).trans (laneStep_updElect_of_same id rfl id)).trans
    (laneStep_trySend _)

theorem laneStep_execFinishedNotice (x : Port) (s : State) : Answers s.LaneStep (execFinishedNotice x s) := by
  unfold execFinishedNotice
  split
  next t taken =>
    have step := laneStep_takeNotice taken
    split
    · exact answers_next.mpr step
    · split
      · exact answers_next.mpr (step.trans (laneStep_releaseForRestart t x))
      next marked =>
        have down : t.LaneStep (standDown t x .released) := laneStep_standDown (.inr (.inl rfl)) fun lawful _ =>
          LaneState.ne_disabled_of_drives (lawful.2.2.2 (by simp [marked]))
        exact answers_next.mpr (((step.trans down).trans (laneStep_placeRelease ..)).trans (laneStep_trySend _))
      · exact answers_next.mpr step
  next => exact answers_next.mpr (.refl s)

theorem laneStep_execContentionNotice (x : Port) (s : State) : Answers s.LaneStep (execContentionNotice x s) := by
  unfold execContentionNotice
  split
  next t taken =>
    have step := laneStep_takeNotice taken
    split
    · exact answers_next.mpr step
    next drives =>
      split
      · exact answers_next.mpr (step.trans (laneStep_releaseForRestart t x))
      · have acts : (t.elect x).lane ≠ .disabled := by
          intro disabled
          exact drives (.inr (by rw [disabled]; rfl))
        exact answers_next.mpr (((step.trans (laneStep_enterBackoff acts)).trans (laneStep_placeLane ..)).trans
          (laneStep_trySend _))
  next => exact answers_next.mpr (.refl s)

theorem laneStep_electServiceState (s : State) (x : Port) (v : ServiceState) :
    s.LaneStep (electServiceState s x v) := by
  have ranges {l : LaneState} (h : Option Nat) (inRange : (s.elect x).inRange) :
      ({ (s.elect x).moveTo l with holdTimer := h } : PortElection).inRange := PortElection.inRange_moveTo inRange
  unfold electServiceState
  dsimp only
  split
  · exact .refl s
  · split
    case h_1 driving =>
      refine laneStep_updElect (ranges _) fun ⟨_, fit, acts, _⟩ => ?_
      exact ⟨fun _ => .inr rfl, fun _ => fit (.inr (.inl driving)), fun _ => acts (by rw [driving]; decide),
        fun marked => absurd rfl marked⟩
    case h_2 holding =>
      refine laneStep_updElect PortElection.inRange_moveTo fun ⟨_, fit, acts, _⟩ => ?_
      exact ⟨fun _ => .inl rfl, fun _ => fit (.inr (.inr holding)), fun _ => acts (by rw [holding]; decide),
        fun marked => absurd rfl marked⟩
    case h_3 claims => exact laneStep_withdrawClaim claims (.inr (.inl rfl))
    case h_4 => exact .refl s

theorem laneStep_execElectionServiceStateSignal (x : Port) (s : State) :
    Answers s.LaneStep (execElectionServiceStateSignal x s) := by
  unfold execElectionServiceStateSignal
  split
  next v rest _ =>
    have taken := laneStep_signals s s.portSignals (s.electionSignals.set x rest)
    dsimp only
    split
    · exact answers_next.mpr taken
    · exact answers_next.mpr ((taken.trans (laneStep_updElect_of_same id rfl id)).trans
        (laneStep_electServiceState _ x v))
  next => exact answers_next.mpr (.refl s)

/-- A port leaves CLAIMING for RELEASED, its refused claim counted (R135 (1)). -/
theorem laneStep_refuseClaim {x : Port} (claims : (s.elect x).lane = .claiming) : s.LaneStep (refuseClaim s x) := by
  refine laneStep_updElect (fun ⟨_, backoff, _⟩ => ⟨Nat.zero_le 3, backoff, inc32_le _⟩) fun lawful => ?_
  have moved : laneOk s.mayDrive (s.mayAct x) (s.port x) ((s.elect x).moveTo .released) :=
    laneOk_moveTo_off (lawful.off (by rw [claims]; decide)) (.inr (.inl rfl))
      fun _ => lawful.2.2.1 (by rw [claims]; decide)
  exact laneOk_of_same moved id rfl id

theorem laneStep_electActivity (s : State) (x : Port) (a : Activity) : s.LaneStep (electActivity s x a) := by
  cases a with
  | quiet =>
    simp only [electActivity]
    split
    next admitted => exact laneStep_admitPort (PortElection.lane_of_admissible admitted.1)
    next => exact .refl s
  | active =>
    simp only [electActivity]
    split
    next refused => exact laneStep_refuseClaim refused.1
    next => exact .refl s

theorem laneStep_execLaneActivitySignal (x : Port) (s : State) :
    Answers s.LaneStep (execLaneActivitySignal x s) := by
  unfold execLaneActivitySignal
  split
  next a rest _ =>
    have taken : s.LaneStep (s.updPort x fun u => { u with activitySignals := rest }) := laneStep_updPort ⟨id, id, id⟩
    dsimp only
    split
    · exact answers_next.mpr taken
    · exact answers_next.mpr ((taken.trans (laneStep_updElect_of_same id rfl id)).trans (laneStep_electActivity _ x a))
  next => exact answers_next.mpr (.refl s)

theorem laneStep_execSettleTimerExpiry (x : Port) (s : State) : Answers s.LaneStep (execSettleTimerExpiry x s) := by
  unfold execSettleTimerExpiry
  split
  next =>
    have expired : s.LaneStep (s.updElect x fun e => { e with settle := .expired }) :=
      laneStep_updElect_of_same id rfl id
    dsimp only
    split
    next admitted =>
      exact answers_next.mpr (expired.trans (laneStep_admitPort (PortElection.lane_of_admissible admitted.1)))
    next => exact answers_next.mpr expired
  next => exact answers_next.mpr (.refl s)

theorem laneStep_execYieldWaitExpiry (x : Port) (s : State) : Answers s.LaneStep (execYieldWaitExpiry x s) := by
  unfold execYieldWaitExpiry
  split
  next claims _ =>
    split
    · exact answers_next.mpr (laneStep_updElect_of_same id rfl id)
    · exact answers_next.mpr (laneStep_refuseClaim claims)
  next => exact answers_next.mpr (.refl s)

theorem laneStep_execHoldTimerExpiry (x : Port) (s : State) : Answers s.LaneStep (execHoldTimerExpiry x s) := by
  unfold execHoldTimerExpiry
  split
  next holding _ _ => exact answers_next.mpr (laneStep_markAndFinish (.inr holding))
  next => exact answers_next.mpr (.refl s)

/-- A change of what the line tells and holds, of its counters nothing out of range. -/
theorem laneStep_lineSignal {l : LineUnit} (stuck : Bool) (f : FaultSet)
    (counters : s.lineRanges → ({ s with line := l } : State).lineRanges) :
    s.LaneStep { s with
      line := l, election := { s.election with lineStuck := stuck }, fitness := { s.fitness with faults := f } } :=
  ⟨fun _ => ⟨id, id⟩, fun _ => id, fun _ => id, id, counters, id, rfl⟩

theorem lineRanges_countTest {c : LineCounters} (test : FrameTest) {l : LineUnit} (same : l.counters = c.countTest test)
    (lawful : ({ s with line := { s.line with counters := c } } : State).lineRanges) :
    ({ s with line := l } : State).lineRanges := by
  obtain ⟨badCheck, truncated, badLength, badField, rest⟩ := lawful
  simp only [State.lineRanges, same]
  cases test with
  | good f => exact ⟨badCheck, truncated, badLength, badField, rest⟩
  | truncated => exact ⟨badCheck, inc32_le _, badLength, badField, rest⟩
  | badLength => exact ⟨badCheck, truncated, inc32_le _, badField, rest⟩
  | badCheck => exact ⟨inc32_le _, truncated, badLength, badField, rest⟩
  | badField => exact ⟨badCheck, truncated, badLength, inc32_le _, rest⟩

theorem laneStep_endFrame (s : State) (read : List Bool) : s.LaneStep (endFrame s read) :=
  laneStep_line (lineRanges_countTest (testFrame (s.line.endedCells read)) rfl)

theorem laneStep_lineClears (s : State) : s.LaneStep (lineClears s) := by
  unfold lineClears
  dsimp only
  split
  · exact laneStep_lineSignal false _ id
  · exact laneStep_line_of_counters rfl

theorem laneStep_startAtIdle (s : State) : s.LaneStep (startAtIdle s) := by
  unfold startAtIdle
  dsimp only
  split
  · have drawn := laneStep_reply s s.reply (s.freeDraws + 1)
    split
    · exact drawn.trans (laneStep_trySend _)
    · exact drawn
  · exact laneStep_trySend s

theorem laneStep_execLineIdle (s : State) : Answers s.LaneStep (execLineIdle s) := by
  unfold execLineIdle
  split
  · extract_lets ended
    have step : s.LaneStep ended := by
      unfold ended
      split
      · exact laneStep_endFrame ..
      · exact .refl s
    clear_value ended
    refine answers_next.mpr ((State.LaneStep.trans ?_ (laneStep_lineClears _)).trans (laneStep_startAtIdle _))
    split
    · exact step.trans (laneStep_loseToStuck _)
    · exact step
  · exact answers_next.mpr (.refl s)

theorem laneStep_cutReception (s : State) : s.LaneStep (cutReception s) := by
  unfold cutReception
  split
  · refine laneStep_line fun ⟨badCheck, _, rest⟩ => ⟨badCheck, inc32_le _, rest⟩
  · exact laneStep_line_of_counters rfl

theorem laneStep_execLineStuck (s : State) : Answers s.LaneStep (execLineStuck s) := by
  unfold execLineStuck
  split
  · extract_lets cut
    have step : s.LaneStep cut := by
      refine State.LaneStep.trans ?_ (laneStep_cutReception _)
      split
      · exact .refl s
      · exact laneStep_loseToStuck s
    clear_value cut
    refine answers_next.mpr ((step.trans ?_).trans (laneStep_electionStuck _))
    exact laneStep_lineSignal cut.election.lineStuck _
      fun ⟨badCheck, truncated, badLength, badField, clashes, losses, faults, _⟩ =>
        ⟨badCheck, truncated, badLength, badField, clashes, losses, faults, inc32_le _⟩
  · exact answers_next.mpr (.refl s)

theorem laneStep_execFrameLeavesLine (s : State) : Answers s.LaneStep (execFrameLeavesLine s) := by
  unfold execFrameLeavesLine
  split
  next f _ =>
    split
    · have left : s.LaneStep { s with line := { s.line with flight := none } } := laneStep_line_of_counters rfl
      refine answers_next.mpr ((left.trans ?_).trans (laneStep_trySend _))
      unfold sendNotice
      split
      · exact laneStep_sentLane ..
      · exact .refl _
      · exact laneStep_sentReport ..
    · exact answers_next.mpr (.refl s)
  next => exact answers_next.mpr (.refl s)

theorem laneStep_execFallingEdge (sample : Bool) (s : State) : Answers s.LaneStep (execFallingEdge sample s) := by
  unfold execFallingEdge
  split
  · split
    · refine answers_next.mpr ?_
      unfold edgeOnIdle
      dsimp only
      split
      · exact (laneStep_trySend s).trans (laneStep_line_of_counters rfl)
      · exact laneStep_trySend s
    · refine answers_next.mpr ?_
      unfold edgeOnBusy
      split
      · split
        · split
          · exact laneStep_loseAtCell ..
          · exact laneStep_line_of_counters rfl
        · exact laneStep_line_of_counters rfl
      · exact .refl s
    · exact answers_next.mpr (.refl s)
  · exact answers_next.mpr (.refl s)

end Commands

end Sys2Proof.Machine
end

section
/-!
What the steps of the merge unit can do beside its own services: ports take conditioned packets, the checker counts,
the paths' mailboxes change, and nothing else of another block does.
-/
namespace Sys2Proof.Machine

/-! ### The bundle -/

/-- What a step of the merge unit changes outside its own state, and what it keeps there. -/
structure State.MergeMoves (s t : State) : Prop where
  ports : ∀ x, (s.port x).Keeps (s.portConfig x) (t.port x)
  checks : s.fitness.checked ≤ 65535 ∧ s.fitness.mismatches ≤ 65535 →
    t.fitness.checked ≤ 65535 ∧ t.fitness.mismatches ≤ 65535
  paths : ∀ p, t.path p = { s.path p with outbox := (t.path p).outbox, inbox := (t.path p).inbox }
  sent : ∀ p, (t.path p).outbox ⊆ (s.path p).outbox
  clock : s.now ≤ t.now
  rest : t = { s with
    now := t.now, paths := t.paths, services := t.services, mergeStays := t.mergeStays, cascading := t.cascading,
    requests := t.requests, answers := t.answers, portSignals := t.portSignals, electionSignals := t.electionSignals,
    ports := t.ports
    fitness := { s.fitness with checked := t.fitness.checked, mismatches := t.fitness.mismatches } }

/-- A step that moves no path into or out of a contributor set, and neither takes a request nor answers one. -/
structure State.MergeStep (s t : State) : Prop extends s.MergeMoves t where
  requests : t.requests = s.requests
  answers : t.answers = s.answers
  contributors : ∀ k, (t.service k).contributors = (s.service k).contributors
  unparks : ∀ p, PathOrder.unpark ∈ (t.path p).inbox → PathOrder.unpark ∈ (s.path p).inbox

namespace State

theorem MergeMoves.refl (s : State) : s.MergeMoves s := ⟨fun _ => .refl _ _, id, fun _ => rfl, fun _ =>
    List.Subset.refl _, le_refl _, rfl⟩

theorem MergeStep.refl (s : State) : s.MergeStep s := ⟨.refl s, rfl, rfl, fun _ => rfl, fun _ => id⟩

variable {s t u : State}

theorem MergeMoves.portConfig (moves : s.MergeMoves t) (x : Port) : t.portConfig x = s.portConfig x := by
  rw [moves.rest]; rfl

theorem MergeMoves.slotConfig (moves : s.MergeMoves t) (k : SlotNo) : t.slotConfig k = s.slotConfig k := by
  rw [moves.rest]; rfl

theorem MergeMoves.trans (first : s.MergeMoves t) (second : t.MergeMoves u) : s.MergeMoves u where
  ports x := (first.ports x).trans (first.portConfig x ▸ second.ports x)
  checks := second.checks ∘ first.checks
  paths p := by
    have later := second.paths p
    rw [first.paths p] at later
    exact later
  sent p := List.Subset.trans (second.sent p) (first.sent p)
  clock := first.clock.trans second.clock
  rest := by
    have before := first.rest
    have after := second.rest
    rw [before] at after
    exact after

theorem MergeStep.trans (first : s.MergeStep t) (second : t.MergeStep u) : s.MergeStep u where
  toMergeMoves := first.toMergeMoves.trans second.toMergeMoves
  requests := second.requests.trans first.requests
  answers := second.answers.trans first.answers
  contributors k := (second.contributors k).trans (first.contributors k)
  unparks p := first.unparks p ∘ second.unparks p

end State

/-! ### The primitive steps -/

section Primitive
variable {s : State}

/-- A change of a service that leaves its contributor set. -/
theorem mergeStep_updService {k : SlotNo} {f : Service → Service}
    (same : (f (s.service k)).contributors = (s.service k).contributors) : s.MergeStep (s.updService k f) := by
  refine ⟨⟨fun _ => .refl _ _, id, fun _ => rfl, fun _ => List.Subset.refl _, le_refl _, rfl⟩, rfl, rfl, fun j => ?_,
    fun _ => id⟩
  by_cases here : j = k
  · subst here; rw [State.service_updService_self, same]
  · rw [State.service_updService_of_ne s f here]

theorem mergeMoves_updService (s : State) (k : SlotNo) (f : Service → Service) : s.MergeMoves (s.updService k f) :=
  ⟨fun _ => .refl _ _, id, fun _ => rfl, fun _ => List.Subset.refl _, le_refl _, rfl⟩

/-- The merge unit's own notes are no part of another block. -/
theorem mergeStep_notes (s : State) {now : Nat} (later : s.now ≤ now) (stays : Quad Nat) (a : Option Cascade)
    (v w : Quad (List ServiceState)) :
    s.MergeStep { s with now := now, mergeStays := stays, cascading := a, portSignals := v, electionSignals := w } :=
  ⟨⟨fun _ => .refl _ _, id, fun _ => rfl, fun _ => List.Subset.refl _, later, rfl⟩, rfl, rfl, fun _ => rfl, fun _ => id⟩

/-- A change of one path's mailboxes. -/
theorem mergeMoves_mail {p : Path} {f : PathUnit → PathUnit}
    (mail : f (s.path p) = { s.path p with outbox := (f (s.path p)).outbox, inbox := (f (s.path p)).inbox })
    (sent : (f (s.path p)).outbox ⊆ (s.path p).outbox) : s.MergeMoves (s.updPath p f) := by
  refine ⟨fun _ => .refl _ _, id, fun q => ?_, fun q => ?_, le_refl _, rfl⟩
  · by_cases here : q = p
    · subst here; rw [State.path_updPath_self]; exact mail
    · rw [State.path_updPath_of_ne s f here]
  · by_cases here : q = p
    · subst here; rw [State.path_updPath_self]; exact sent
    · rw [State.path_updPath_of_ne s f here]; exact List.Subset.refl _

theorem mergeStep_mail {p : Path} {f : PathUnit → PathUnit}
    (mail : f (s.path p) = { s.path p with outbox := (f (s.path p)).outbox, inbox := (f (s.path p)).inbox })
    (sent : (f (s.path p)).outbox ⊆ (s.path p).outbox)
    (unparks : PathOrder.unpark ∈ (f (s.path p)).inbox → PathOrder.unpark ∈ (s.path p).inbox) :
    s.MergeStep (s.updPath p f) := by
  refine ⟨mergeMoves_mail mail sent, rfl, rfl, fun _ => rfl, fun q => ?_⟩
  by_cases here : q = p
  · subst here; rw [State.path_updPath_self]; exact unparks
  · rw [State.path_updPath_of_ne s f here]; exact id

theorem mergeStep_takeMessage {t : State} {p : Path} {m : PathMessage} (taken : s.takeMessage p = some (m, t)) :
    s.MergeStep t := by
  obtain ⟨rest, waits, rfl⟩ := takeMessage_only taken
  exact mergeStep_mail rfl (by rw [waits]; exact List.subset_cons_self ..) id

theorem mergeStep_sendPath (s : State) (p : Path) {o : PathOrder} (other : o ≠ .unpark) :
    s.MergeStep (s.sendPath p o) := by
  refine mergeStep_mail rfl (List.Subset.refl _) fun sent => ?_
  simpa [other.symm] using sent

/-- R53: the bound port conditions the output packet. -/
theorem mergeStep_output (s : State) (c : ServiceConfig) (copy : Copy) : s.MergeStep (s.output c copy) := by
  unfold State.output
  split
  next x _ =>
    unfold State.toPort
    split
    next q bound =>
      refine ⟨⟨fun y => ?_, id, fun _ => rfl, fun _ => List.Subset.refl _, le_refl _, rfl⟩, rfl, rfl, fun _ => rfl,
        fun _ => id⟩
      by_cases here : y = x
      · subst here
        rw [State.port_updPort_self, bound]
        exact PortUnit.keeps_condition rfl ..
      · rw [State.port_updPort_of_ne s _ here]
        exact .refl _ _
    next => exact .refl s
  next => exact .refl s

/-- R153: the checker counts. -/
theorem mergeStep_handToChecker (s : State) (k : SlotNo) (i : CheckInputs) (chosen : Path) :
    s.MergeStep (s.handToChecker k i chosen) := by
  unfold State.handToChecker
  split
  · refine ⟨⟨fun _ => .refl _ _, fun ⟨_, mismatches⟩ => ⟨inc16_le _, ?_⟩, fun _ => rfl, fun _ => List.Subset.refl _,
      le_refl _, rfl⟩, rfl, rfl, fun _ => rfl,
      fun _ => id⟩
    simp only [FitnessUnit.check]
    split
    · exact mismatches
    · exact inc16_le _
  · exact .refl s

end Primitive

/-! ### The shared operations -/

theorem mergeStep_resolveHead (s : State) (k : SlotNo) (forced : Bool) : s.MergeStep (resolveHead s k forced) := by
  unfold resolveHead
  split
  · dsimp only
    split
    · exact ((mergeStep_handToChecker ..).trans (mergeStep_output ..)).trans (mergeStep_updService rfl)
    · exact mergeStep_updService rfl
  · exact .refl s

theorem mergeStep_cascade (n : Nat) (s : State) (k : SlotNo) : s.MergeStep (cascade n s k) := by
  induction n generalizing s with
  | zero => exact .refl s
  | succ n ih =>
    unfold cascade
    split
    · split
      · exact (mergeStep_resolveHead s k false).trans (ih _)
      · exact .refl s
    · exact .refl s

theorem mergeStep_testHead (s : State) (k : SlotNo) (cut : Option Nat) (rest : AfterCascade) :
    s.MergeStep (testHead s k cut rest) := by
  unfold testHead
  dsimp only
  split
  · exact (mergeStep_cascade ..).trans (mergeStep_notes _ (le_refl _) _ _ _ _)
  · exact mergeStep_cascade ..

theorem mergeStep_review (s : State) (k : SlotNo) : s.MergeStep (review s k) := by
  unfold review
  extract_lets v t
  have reviewed : s.MergeStep t := mergeStep_updService (by split <;> rfl)
  clear_value t
  split
  · exact .refl s
  · split
    · exact reviewed.trans (mergeStep_notes _ (le_refl _) ..)
    · exact reviewed

theorem mergeStep_reviewAtEnd (s : State) (k : SlotNo) : s.MergeStep (reviewAtEnd s k) := by
  unfold reviewAtEnd
  split
  · exact .refl s
  · exact mergeStep_review s k

theorem mergeStep_lateCopy (s : State) (k : SlotNo) (p : Path) : s.MergeStep (lateCopy s k p) :=
  (mergeStep_updService rfl).trans (mergeStep_sendPath _ p (by decide))

theorem mergeStep_openEntry (s : State) (k : SlotNo) (c : ServiceConfig) (n : Nat) (r : Record) (cut : Option Nat) :
    s.MergeStep (openEntry s k c n r cut) := by
  unfold openEntry
  extract_lets v e w t
  have opened : s.MergeStep t := mergeStep_updService rfl
  clear_value t
  split
  · exact opened.trans (mergeStep_testHead ..)
  · exact opened

theorem mergeStep_openAfterForce (s : State) (k : SlotNo) (c : ServiceConfig) (n : Nat) (r : Record)
    (cut : Option Nat) :
    s.MergeStep (openAfterForce s k c n r cut) := by
  unfold openAfterForce
  split
  · exact mergeStep_lateCopy ..
  · exact mergeStep_openEntry ..

theorem mergeStep_openOrForce (s : State) (k : SlotNo) (c : ServiceConfig) (n : Nat) (r : Record) (cut : Option Nat) :
    s.MergeStep (openOrForce s k c n r cut) := by
  unfold openOrForce
  extract_lets forced t taken
  have tested : s.MergeStep t := (mergeStep_resolveHead s k true).trans (mergeStep_testHead ..)
  clear_value t
  split
  · exact mergeStep_openEntry ..
  · split
    · exact tested
    · exact tested.trans (mergeStep_openAfterForce ..)

theorem mergeStep_afterModeCheck (s : State) (k : SlotNo) (c : ServiceConfig) (n : Nat) (r : Record)
    (cut : Option Nat) : s.MergeStep (afterModeCheck s k c n r cut) := by
  unfold afterModeCheck
  extract_lets v
  split
  · exact mergeStep_lateCopy ..
  · split
    · split
      · exact mergeStep_lateCopy ..
      · split
        · exact (mergeStep_updService rfl).trans (mergeStep_testHead ..)
        · exact mergeStep_updService rfl
    · split
      · exact mergeStep_openOrForce ..
      · exact mergeStep_lateCopy ..

theorem mergeStep_arrive (s : State) (k : SlotNo) (c : ServiceConfig) (r : Record) (cut : Option Nat) :
    s.MergeStep (arrive s k c r cut) := by
  unfold arrive
  split
  · exact (mergeStep_updService rfl).trans (mergeStep_afterModeCheck ..)
  · split
    · exact mergeStep_afterModeCheck ..
    · exact (mergeStep_sendPath s _ (by decide)).trans (mergeStep_sendPath _ _ (by simp))

theorem mergeMoves_stopParked (s : State) (p : Path) : s.MergeMoves (stopParked s p) :=
  (mergeMoves_mail rfl (List.Subset.refl _)).trans ⟨fun _ => .refl _ _, id, fun _ => rfl, fun _ => List.Subset.refl _,
    le_refl _, rfl⟩

/-- Only a finished cascade with a stop behind it answers a request. -/
theorem mergeStep_finishCascade (s : State) :
    (s.MergeStep (finishCascade s) ∧ ∀ p, ¬ s.stopsAfterCascade p) ∨
      ∃ k p t, s.cascading = some ⟨k, .stops p⟩ ∧ ({ s with cascading := none } : State).MergeStep t ∧
        finishCascade s = stopParked t p := by
  have other {k : SlotNo} {rest : AfterCascade} (left : s.cascading = some ⟨k, rest⟩) (runs : ∀ p, rest ≠ .stops p)
      (p : Path) : ¬ s.stopsAfterCascade p := fun ⟨_, same⟩ =>
    runs p (Cascade.mk.inj (Option.some.inj (left.symm.trans same))).2
  unfold finishCascade
  split
  next none_ => exact .inl ⟨.refl s, fun p ⟨_, same⟩ => Option.some_ne_none _ (same.symm.trans none_)⟩
  next a left =>
    obtain ⟨k, rest⟩ := a
    extract_lets t
    have freed : ({ s with cascading := none } : State).MergeStep t := mergeStep_testHead ..
    have cut : s.MergeStep { s with cascading := none } := mergeStep_notes _ (le_refl _) ..
    clear_value t
    cases rest with
    | nothing => exact .inl ⟨cut.trans (freed.trans (mergeStep_review ..)), other left fun _ => nofun⟩
    | opens r =>
      refine .inl ⟨?_, other left fun _ => nofun⟩
      dsimp only
      split
      · cases ‹AfterCascade.opens r = .nothing›
      next same _ =>
        cases same
        exact cut.trans ((freed.trans (mergeStep_openAfterForce ..)).trans (mergeStep_review ..))
      · exact cut.trans (freed.trans (mergeStep_review ..))
      · cases ‹AfterCascade.opens r = .stops _›
    | stops p => exact .inr ⟨k, p, _, left, freed.trans (mergeStep_review ..), rfl⟩

theorem mergeMoves_finishCascade (s : State) : s.MergeMoves (finishCascade s) := by
  obtain ⟨step, -⟩ | ⟨k, p, t, -, step, same⟩ := mergeStep_finishCascade s
  · exact step.toMergeMoves
  · rw [same]
    have cut : s.MergeStep { s with cascading := none } := mergeStep_notes _ (le_refl _) ..
    exact (cut.trans step).toMergeMoves.trans (mergeMoves_stopParked t p)

theorem mergeStep_tickTo (s : State) (now : Nat) : s.MergeStep (s.tickTo now) := mergeStep_notes _ (le_max_left _ _) ..

theorem mergeMoves_mergeAt (s : State) (m : Moment) : s.MergeMoves (s.mergeAt m) :=
  (mergeMoves_finishCascade s).trans (mergeStep_tickTo ..).toMergeMoves

/-! ### The commands of the merge unit, once it has finished what it left off -/

section Commands
variable {s : State}

/-- A command of the merge unit that takes no request: from the state in which it has finished. -/
theorem mergeStep_execCopyArrival (p : Path) (m : Moment) (s : State) :
    Answers (s.mergeAt m).MergeStep (execCopyArrival p m s) := by
  unfold execCopyArrival
  dsimp only
  split
  next r t taken =>
    have step := mergeStep_takeMessage taken
    split
    · split
      · exact answers_next.mpr ((step.trans (mergeStep_arrive ..)).trans (mergeStep_reviewAtEnd ..))
      · exact answers_next.mpr step
    · exact answers_next.mpr step
  next => exact answers_next.mpr (.refl _)

theorem mergeStep_execEntryExpiry (k : SlotNo) (m : Moment) (s : State) :
    Answers (s.mergeAt m).MergeStep (execEntryExpiry k m s) := by
  unfold execEntryExpiry
  dsimp only
  split
  · split
    · exact answers_next.mpr ((mergeStep_testHead ..).trans (mergeStep_reviewAtEnd ..))
    · exact answers_next.mpr (.refl _)
  · exact answers_next.mpr (.refl _)

theorem mergeStep_execTrackingNotice (p : Path) (s : State) :
    Answers (finishCascade s).MergeStep (execTrackingNotice p s) := by
  unfold execTrackingNotice
  dsimp only
  split
  next stay t taken =>
    have step := mergeStep_takeMessage taken
    split
    · refine answers_next.mpr ((step.trans ?_).trans (mergeStep_review ..))
      exact (mergeStep_notes _ (le_refl _) _ _ _ _).trans (mergeStep_updService rfl)
    · exact answers_next.mpr step
  next => exact answers_next.mpr (.refl _)

theorem mergeStep_execLeavingNotice (p : Path) (m : Moment) (s : State) :
    Answers (s.mergeAt m).MergeStep (execLeavingNotice p m s) := by
  unfold execLeavingNotice
  dsimp only
  split
  next t taken =>
    have step := mergeStep_takeMessage taken
    split
    · split
      · exact answers_next.mpr (((step.trans (mergeStep_updService rfl)).trans (mergeStep_testHead ..)).trans
          (mergeStep_reviewAtEnd ..))
      · exact answers_next.mpr step
    · exact answers_next.mpr step
  next => exact answers_next.mpr (.refl _)

/-- Requests and answers on their way are no part of another block. -/
theorem mergeMoves_exchange (s : State) (q : List Request) (a : List Answer) :
    s.MergeMoves { s with requests := q, answers := a } := ⟨fun _ => .refl _ _, id, fun _ => rfl, fun _ =>
      List.Subset.refl _, le_refl _, rfl⟩

theorem mergeMoves_execParkRequest (m : Moment) (s : State) : Answers s.MergeMoves (execParkRequest m s) := by
  have finished := mergeMoves_mergeAt s m
  unfold execParkRequest
  extract_lets t
  change s.MergeMoves t at finished
  clear_value t
  split
  next p rest _ =>
    split
    · exact answers_next.mpr finished
    · extract_lets u
      have taken : s.MergeMoves u := finished.trans (mergeMoves_exchange t rest t.answers)
      clear_value u
      split
      · split
        · extract_lets left settled
          have parted : s.MergeMoves settled := (taken.trans (mergeMoves_updService u _ _)).trans
            ((mergeStep_testHead ..).trans (mergeStep_reviewAtEnd ..)).toMergeMoves
          clear_value settled
          split
          · exact answers_next.mpr parted
          · exact answers_next.mpr (parted.trans (mergeMoves_stopParked ..))
        · exact answers_next.mpr (taken.trans (mergeMoves_exchange u u.requests _))
      · exact answers_next.mpr (taken.trans (mergeMoves_exchange u u.requests _))
  next => exact answers_next.mpr finished

theorem mergeMoves_execUnparkRequest (s : State) : Answers s.MergeMoves (execUnparkRequest s) := by
  have finished := mergeMoves_finishCascade s
  unfold execUnparkRequest
  extract_lets t
  change s.MergeMoves t at finished
  clear_value t
  split
  next p rest _ =>
    split
    · exact answers_next.mpr finished
    · extract_lets u
      have taken : s.MergeMoves u := finished.trans (mergeMoves_exchange t rest t.answers)
      clear_value u
      split
      · split
        · exact answers_next.mpr (taken.trans (mergeMoves_exchange u u.requests _))
        · extract_lets joined
          have widened : s.MergeMoves joined := taken.trans (mergeMoves_updService ..)
          clear_value joined
          have cleared : joined.MergeMoves (joined.disregardSent p) := mergeMoves_mail rfl (List.nil_subset _)
          have ordered : (joined.disregardSent p).MergeMoves ((joined.disregardSent p).sendPath p .unpark) :=
            mergeMoves_mail rfl (List.Subset.refl _)
          exact answers_next.mpr (((widened.trans cleared).trans ordered).trans (mergeMoves_exchange _ _ _))
      · exact answers_next.mpr (taken.trans (mergeMoves_exchange u u.requests _))
  next => exact answers_next.mpr finished

end Commands

end Sys2Proof.Machine
end

section
/-!
What a path's own events can do to it (R2 to R31): its counts and positions stay in range, and a parked path leaves
PARKED by an unpark order alone, outside SHUTDOWN.
-/
namespace Sys2Proof.Machine

/-! ### One path -/

/-- A path's candidate index is on its list, or 0 (Table 1-1). -/
def PathUnit.indexOk (list : List Candidate) (u : PathUnit) : Prop :=
  u.candidateIndex = 0 ∨ u.candidateIndex < list.length

/-- A path after an event of its own; `shut`: in SHUTDOWN. -/
structure PathUnit.Keeps (list : List Candidate) (shut : Bool) (u v : PathUnit) : Prop where
  ranges : u.inRange → v.inRange
  index : u.indexOk list → v.indexOk list
  positions : u.positionsInRange → v.positionsInRange
  parked : u.state = .parked → shut = true ∨ PathOrder.unpark ∉ u.inbox → v.state = .parked
  unparks : PathOrder.unpark ∈ v.inbox → PathOrder.unpark ∈ u.inbox

namespace PathUnit
variable {list : List Candidate} {shut : Bool} {u v : PathUnit}

theorem Keeps.refl (list : List Candidate) (shut : Bool) (u : PathUnit) : u.Keeps list shut u :=
  ⟨id, id, id, fun parked _ => parked, id⟩

/-- Behind the taking of an order the path's own event comes; the order taken is no unpark. -/
theorem Keeps.trans {w : PathUnit} (first : u.Keeps list shut v) (second : v.Keeps list shut w) :
    u.Keeps list shut w where
  ranges := second.ranges ∘ first.ranges
  index := second.index ∘ first.index
  positions := second.positions ∘ first.positions
  parked parked stays := second.parked (first.parked parked stays) (stays.imp_right (mt first.unparks))
  unparks := first.unparks ∘ second.unparks

/-- A record on its way is in range wherever the messages on their way are those from before. -/
theorem records_append {m : PathMessage} (records : ∀ r, .record r ∈ u.outbox → r.inRange)
    (fresh : ∀ r, m = .record r → r.inRange) : ∀ r, .record r ∈ u.outbox ++ [m] → r.inRange := by
  intro r sent
  obtain old | new := List.mem_append.mp sent
  · exact records r old
  · exact fresh r (List.mem_singleton.mp new).symm

theorem records_leaving {tracking : Prop} [Decidable tracking] (records : ∀ r, .record r ∈ u.outbox → r.inRange) :
    ∀ r, .record r ∈ (if tracking then u.outbox ++ [.leaving] else u.outbox) → r.inRange := by
  split
  · exact records_append records (nofun)
  · exact records

/-- R5 to R7: the work of the next state begins. -/
theorem keeps_work {st : PathState} {limit : Nat} {d : Option Detected} (working : u.state ≠ .parked)
    (other : st ≠ .tracking) : u.Keeps list shut { u.startWork st limit with detected := d } where
  ranges := fun ⟨attempts, run, _, rest⟩ => ⟨attempts, run, fun tracking => absurd tracking other, rest⟩
  index := id
  positions := id
  parked parked := absurd parked working
  unparks := id

/-- R13: a failure. -/
theorem keeps_failed (working : u.state ≠ .parked) (reason : Failure) : u.Keeps list shut (u.failed list reason) where
  ranges := fun ⟨_, _, _, _, continuity, rest⟩ => by
    refine ⟨?_, Nat.zero_le 24, nofun, nofun, continuity, rest⟩
    simp only [failed]; split <;> decide
  index := fun index => by
    unfold indexOk at *
    simp only [failed]
    split
    · exact index
    · split
      next room => exact .inr room
      next => exact .inl rfl
  positions := fun ⟨_, records⟩ => ⟨nofun, records_leaving records⟩
  parked parked := absurd parked working
  unparks := id

/-- R12: the entry to HOLD. -/
theorem keeps_held (working : u.state ≠ .parked) : u.Keeps list shut u.held where
  ranges := fun ⟨attempts, run, _, rest⟩ => ⟨attempts, run, nofun, rest⟩
  index := id
  positions := fun ⟨decoded, records⟩ => by
    refine ⟨fun d hd => ?_, records_append records (nofun)⟩
    obtain ⟨size, counter, delivered⟩ := decoded d hd
    refine ⟨size, fun q hq => ?_, delivered⟩
    simp only [held] at hq
    split at hq
    · exact counter q hq
    · exact delivered q hq
  parked parked := absurd parked working
  unparks := id

theorem clamped_inRange (m : Measured) : m.clamped.inRange := by
  simp only [Measurement.inRange, Measured.clamped, clampNat, clampInt]
  omega

/-- R9: the entry to TRACKING. -/
theorem keeps_tracking (working : u.state ≠ .parked) {g : Signalling} (size : 64 ≤ g.n ∧ g.n ≤ 8192) (m : Measured) :
    u.Keeps list shut
      { u with
        state := .tracking
        timer := none
        run := 0
        detected := some ⟨g.symbolMode, g.guard, g.codeRate⟩
        decoded := some ⟨g.symbolMode, g.guard, g.codeRate, g.n, g.muxId⟩
        measurements := some m.clamped
        counter := some ⟨g.superframe, g.frame, 0⟩
        lastDelivered := none
        continuity := []
        stay := u.stay + 1
        outbox := u.outbox ++ [.tracking (u.stay + 1)] } where
  ranges := fun ⟨attempts, _, _, _, _, rest⟩ => ⟨attempts, Nat.zero_le 24, fun _ => Nat.zero_le 23,
    fun n same => by cases same; exact clamped_inRange m, Nat.zero_le 8, rest⟩
  index := id
  positions := fun ⟨_, records⟩ => by
    refine ⟨fun d hd => ?_, records_append records (nofun)⟩
    cases hd
    exact ⟨size, fun q hq => by cases hq; exact (by decide : 0 < 64).trans_le size.1, fun q hq => by cases hq⟩
  parked parked := absurd parked working
  unparks := id

/-- R11, R24: a frame start that keeps the structure. -/
theorem keeps_adopting {g : Signalling} {d : Decoded} (working : u.state ≠ .parked) (decoded : u.decoded = some d) :
    u.Keeps list shut ((u.adopting g d).checkPosition g) := by
  have adopts : u.Keeps list shut (u.adopting g d) :=
    { ranges := id
      index := id
      positions := fun ⟨positions, records⟩ => by
        refine ⟨fun e he => ?_, records⟩
        cases he
        exact positions d decoded
      parked := fun parked => absurd parked working
      unparks := id }
  refine adopts.trans ?_
  unfold checkPosition
  split
  · exact .refl ..
  · exact
      { ranges := fun ⟨attempts, run, tracking, measured, continuity,
            ⟨delivered, clean, corrected, bytes, uncorrectable, refused, _, faults⟩, rest⟩ =>
          ⟨attempts, run, tracking, measured, continuity,
            ⟨delivered, clean, corrected, bytes, uncorrectable, refused, inc16_le _, faults⟩, rest⟩
        index := id
        positions := fun ⟨positions, records⟩ => by
          refine ⟨fun e he => ?_, records⟩
          obtain ⟨size, -, delivered⟩ := positions e he
          exact ⟨size, fun q hq => by cases hq; exact (by decide : 0 < 64).trans_le size.1, delivered⟩
        parked := fun parked _ => parked
        unparks := id }

/-- R16: a frame end. -/
theorem keeps_measured (m : Measured) : u.Keeps list shut { u with measurements := some m.clamped } where
  ranges := fun ⟨attempts, run, tracking, _, rest⟩ =>
    ⟨attempts, run, tracking, fun n same => by cases same; exact clamped_inRange m, rest⟩
  index := id
  positions := id
  parked parked _ := parked
  unparks := id

/-- R3, R15: a stop. -/
theorem keeps_stopped : u.Keeps list shut u.stopped := by
  by_cases parked : u.state = .parked
  · rw [stopped_of_parked parked]; exact .refl ..
  · rw [stopped_of_not_parked parked]
    exact
      { ranges := fun ⟨attempts, run, _, _, rest⟩ =>
          ⟨attempts, run, nofun, nofun, rest⟩
        index := id
        positions := fun ⟨_, records⟩ => ⟨nofun, records_leaving records⟩
        parked := fun _ _ => rfl
        unparks := id }

/-- The taking of an order. -/
theorem keeps_inbox {inbox : List PathOrder} (fewer : inbox ⊆ u.inbox) :
    u.Keeps list shut { u with inbox := inbox } where
  ranges := id
  index := id
  positions := id
  parked parked _ := parked
  unparks sent := fewer sent

/-- R30: the continuity table keeps its bound. -/
theorem length_continuityTake_le {table : List ContinuityEntry} (bounded : table.length ≤ 8) (pid : BitVec 13)
    (c : BitVec 4) : (continuityTake table pid c).1.length ≤ 8 := by
  unfold continuityTake
  split
  next taken =>
    have := takeFirst_length taken
    rw [List.length_append, List.length_singleton]; omega
  next =>
    rw [List.length_append, List.length_singleton]
    split
    · omega
    · rw [List.length_tail]; omega

theorem inRange_count {c : PathCounters} (ranges : c.inRange) (st : Status) : (c.count st).inRange := by
  obtain ⟨_, clean, corrected, bytes, uncorrectable, rest⟩ := ranges
  cases st with
  | clean => exact ⟨inc16_le _, inc16_le _, corrected, bytes, uncorrectable, rest⟩
  | corrected k => exact ⟨inc16_le _, clean, inc16_le _, satAdd_le .., uncorrectable, rest⟩
  | uncorrectable => exact ⟨inc16_le _, clean, corrected, bytes, inc16_le _, rest⟩

/-- R22: the counter advances within the frame. -/
theorem keeps_advanced {q : Position} {d : Decoded} (decoded : u.decoded = some d) :
    u.Keeps list shut { u with counter := some (q.next d.n) } where
  ranges := id
  index := id
  positions := fun ⟨positions, records⟩ => by
    refine ⟨fun e he => ?_, records⟩
    obtain rfl : d = e := Option.some.inj (decoded.symm.trans he)
    obtain ⟨size, -, delivered⟩ := positions d he
    refine ⟨size, fun r hr => ?_, delivered⟩
    cases hr
    exact next_packet_lt ((by decide : 0 < 64).trans_le size.1) q
  parked parked _ := parked
  unparks := id

section Delivered
variable {q : Position} {d : Decoded} {p : Path} {st : Status} {pkt : Packet}

/-- The path once a record of the position that the counter shows has been delivered (R10, R22, R25). -/
abbrev afterDelivery (u : PathUnit) (p : Path) (q : Position) (d : Decoded) (st : Status) (pkt : Packet) : PathUnit :=
  PathUnit.delivered { u with counter := some (q.next d.n) } ⟨p, q, d.n, st, pkt⟩

theorem positions_afterDelivery (counter : u.counter = some q) (decoded : u.decoded = some d)
    (positions : u.positionsInRange) : (u.afterDelivery p q d st pkt).positionsInRange := by
  obtain ⟨size, count, -⟩ := positions.1 d decoded
  have low := count q counter
  refine ⟨fun e he => ?_, records_append positions.2 fun r same => by cases same; exact ⟨size, low⟩⟩
  obtain rfl : d = e := Option.some.inj (decoded.symm.trans he)
  exact ⟨size, fun r hr => by cases hr; exact next_packet_lt ((by decide : 0 < 64).trans_le size.1) q,
    fun r hr => by cases hr; exact low⟩

theorem ranges_afterDelivery (tracking : u.state = .tracking) (ranges : u.inRange) :
    let v := u.afterDelivery p q d st pkt
    v.attempts ≤ 1 ∧ v.run ≤ 24 ∧ (∀ m, v.measurements = some m → m.inRange) ∧
      v.continuity.length ≤ 8 ∧ v.counters.inRange ∧ v.cumulativeUncorrectable ≤ 4294967295 := by
  obtain ⟨attempts, -, run, measured, continuity, counters, cumulative⟩ := ranges
  have run := run tracking
  refine ⟨attempts, ?_, measured, ?_, ?_, ?_⟩ <;> simp only [PathUnit.delivered]
  · split <;> omega
  · split
    · exact length_continuityTake_le continuity ..
    · exact continuity
  · obtain ⟨delivered, clean, corrected, bytes, uncorrectable, refused, slips, faults⟩ := inRange_count counters st
    split
    · exact ⟨delivered, clean, corrected, bytes, uncorrectable, refused, slips, inc16_le _⟩
    · exact ⟨delivered, clean, corrected, bytes, uncorrectable, refused, slips, faults⟩
  · split
    · exact inc32_le _
    · exact cumulative

/-- A delivery that does not end a run of 24. -/
theorem keeps_afterDelivery (tracking : u.state = .tracking) (counter : u.counter = some q)
    (decoded : u.decoded = some d) (few : ¬ 24 ≤ (u.afterDelivery p q d st pkt).run) :
    u.Keeps list shut (u.afterDelivery p q d st pkt) where
  ranges ranges := by
    obtain ⟨attempts, run, rest⟩ := ranges_afterDelivery tracking ranges
    exact ⟨attempts, run, fun _ => Nat.lt_succ_iff.mp (not_le.mp few), rest⟩
  index := id
  positions := positions_afterDelivery counter decoded
  parked parked := by cases tracking.symm.trans parked
  unparks := id

/-- A delivery and the departure that a run of 24 brings (R10). -/
theorem keeps_held_afterDelivery (tracking : u.state = .tracking) (counter : u.counter = some q)
    (decoded : u.decoded = some d) : u.Keeps list shut (u.afterDelivery p q d st pkt).held where
  ranges ranges := by
    obtain ⟨attempts, run, rest⟩ := ranges_afterDelivery tracking ranges
    exact ⟨attempts, run, nofun, rest⟩
  index := id
  positions positions := (keeps_held (list := list) (shut := shut)
    (u := u.afterDelivery p q d st pkt) (by change u.state ≠ _; rw [tracking]; decide)).positions
    (positions_afterDelivery counter decoded positions)
  parked parked := by cases tracking.symm.trans parked
  unparks := id

end Delivered

end PathUnit

/-! ### A path's event at the station -/

/-- What an event of a path changes: that path, and the monitor output that it feeds. -/
structure State.PathStep (s t : State) : Prop where
  paths : ∀ p, (s.path p).Keeps (s.config.candidates.get p) s.thermal.shutdown (t.path p)
  monitor : s.monitor.queue.length ≤ 2 → t.monitor.queue.length ≤ 2
  rest : t = { s with paths := t.paths, monitor := t.monitor }

section Events
variable {s : State}

theorem State.PathStep.refl (s : State) : s.PathStep s := ⟨fun _ => .refl .., id, rfl⟩

theorem pathStep_updPath {p : Path} {f : PathUnit → PathUnit}
    (keeps : (s.path p).Keeps (s.config.candidates.get p) s.thermal.shutdown (f (s.path p))) :
    s.PathStep (s.updPath p f) := by
  refine ⟨fun q => ?_, id, rfl⟩
  by_cases here : q = p
  · subst here; rw [State.path_updPath_self]; exact keeps
  · rw [State.path_updPath_of_ne s f here]; exact .refl ..

theorem State.PathStep.trans {t u : State} (first : s.PathStep t) (second : t.PathStep u) : s.PathStep u where
  paths p := by
    have later := second.paths p
    have before := first.rest
    rw [before] at later
    exact (first.paths p).trans later
  monitor := second.monitor ∘ first.monitor
  rest := by
    have before := first.rest
    have after := second.rest
    rw [before] at after
    exact after

theorem State.ne_parked_of_worksAt {a : PathWork} {st : PathState} (works : s.worksAt a st = true)
    (other : st ≠ .parked) : (s.path a.path).state ≠ .parked := by
  rw [(State.worksAt_iff.mp works).1]; exact other

theorem pathStep_execGainSettled (a : PathWork) (level : Int) (s : State) :
    Answers s.PathStep (execGainSettled a level s) := by
  unfold execGainSettled
  split
  next works =>
    exact answers_next.mpr (pathStep_updPath
      (PathUnit.keeps_work (State.ne_parked_of_worksAt works.1 (by decide)) (by decide)))
  next => exact answers_next.mpr (.refl s)

theorem pathStep_execModeDetected (a : PathWork) (m : SymbolMode) (g : Guard) (r : CodeRate) (s : State) :
    Answers s.PathStep (execModeDetected a m g r s) := by
  unfold execModeDetected
  split
  next works =>
    exact answers_next.mpr (pathStep_updPath
      (PathUnit.keeps_work (State.ne_parked_of_worksAt works (by decide)) (by decide)))
  next => exact answers_next.mpr (.refl s)

theorem pathStep_execTimingSettled (a : PathWork) (s : State) : Answers s.PathStep (execTimingSettled a s) := by
  unfold execTimingSettled
  split
  next works =>
    exact answers_next.mpr (pathStep_updPath
      (PathUnit.keeps_work (State.ne_parked_of_worksAt works (by decide)) (by decide)))
  next => exact answers_next.mpr (.refl s)

theorem pathStep_acceptSignalling {p : Path} (working : (s.path p).state ≠ .parked) {g : Signalling}
    (size : 64 ≤ g.n ∧ g.n ≤ 8192) (m : Measured) : s.PathStep (acceptSignalling s p g m) := by
  unfold acceptSignalling
  split
  · rw [takeFailure_eq]
    exact pathStep_updPath (PathUnit.keeps_failed working .wrongMux)
  · exact pathStep_updPath (PathUnit.keeps_tracking working size m)

theorem pathStep_execLocked (a : PathWork) (read : FrameStartRead) (s : State) :
    Answers s.PathStep (execLocked a read s) := by
  unfold execLocked
  split
  next g complete =>
    split
    next works =>
      exact answers_next.mpr (pathStep_acceptSignalling (State.ne_parked_of_worksAt works.1 (by decide))
        (completeSignalling_eq_some_iff.mp complete).2 _)
    next => exact answers_next.mpr (.refl s)
  next => exact answers_next.mpr (.refl s)

theorem pathStep_execRegained (a : PathWork) (read : FrameStartRead) (s : State) :
    Answers s.PathStep (execRegained a read s) := by
  unfold execRegained
  split
  next g complete =>
    split
    next works =>
      exact answers_next.mpr (pathStep_acceptSignalling (State.ne_parked_of_worksAt works.1 (by decide))
        (completeSignalling_eq_some_iff.mp complete).2 _)
    next => exact answers_next.mpr (.refl s)
  next => exact answers_next.mpr (.refl s)

theorem pathStep_execAcquisitionTimerExpiry (a : PathWork) (s : State) :
    Answers s.PathStep (execAcquisitionTimerExpiry a s) := by
  unfold execAcquisitionTimerExpiry
  split
  next reason _ fails =>
    split
    · rw [takeFailure_eq]
      refine answers_next.mpr (pathStep_updPath (PathUnit.keeps_failed (fun parked => ?_) reason))
      rw [parked] at fails
      cases fails
    · exact answers_next.mpr (.refl s)
  next => exact answers_next.mpr (.refl s)

theorem pathStep_offerFrom (s : State) (src : MonitorSource) (pkt : Packet) : s.PathStep (s.offerFrom src pkt) := by
  rw [State.offerFrom_eq]
  refine ⟨fun _ => .refl .., fun short => ?_, rfl⟩
  dsimp only
  split
  · exact MonitorUnit.queue_offer_le pkt short
  · exact short

theorem State.updPath_offerFrom (s : State) (src : MonitorSource) (pkt : Packet) (p : Path) (f : PathUnit → PathUnit) :
    (s.offerFrom src pkt).updPath p f = (s.updPath p f).offerFrom src pkt := by
  simp only [State.offerFrom_eq]
  rfl

theorem pathStep_deliver {p : Path} {q : Position} {d : Decoded} {st : Status} {pkt : Packet}
    (tracking : (s.path p).state = .tracking) (counter : (s.path p).counter = some q)
    (decoded : (s.path p).decoded = some d) :
    s.PathStep
      (deliver (s.updPath p fun u => { u with counter := some (q.next d.n) }) p ⟨p, q, d.n, st, pkt⟩) := by
  rw [deliver_eq, State.updPath_updPath, State.path_updPath_self]
  dsimp only
  split
  next =>
    rw [State.updPath_offerFrom, State.updPath_updPath]
    exact (pathStep_updPath (PathUnit.keeps_held_afterDelivery tracking counter decoded)).trans
      (pathStep_offerFrom _ _ _)
  next few =>
    exact (pathStep_updPath (PathUnit.keeps_afterDelivery tracking counter decoded few)).trans
      (pathStep_offerFrom _ _ _)

theorem pathStep_execPacketCompleted (p : Path) (st : Status) (pkt : Packet) (s : State) :
    Answers s.PathStep (execPacketCompleted p st pkt s) := by
  unfold execPacketCompleted
  split
  next q d tracking counter decoded =>
    dsimp only
    split
    · exact answers_next.mpr (pathStep_deliver tracking counter decoded)
    · exact answers_next.mpr (pathStep_updPath (PathUnit.keeps_advanced decoded))
  next => exact answers_next.mpr (.refl s)

theorem pathStep_execFrameStart (p : Path) (g : Signalling) (s : State) :
    Answers s.PathStep (execFrameStart p g s) := by
  by_cases tracking : (s.path p).state = .tracking
  case neg => rw [execFrameStart_of_left tracking]; exact answers_next.mpr (.refl s)
  have working : (s.path p).state ≠ .parked := by rw [tracking]; decide
  cases decoded : (s.path p).decoded with
  | none => unfold execFrameStart; simp only [tracking, decoded]; exact answers_next.mpr (.refl s)
  | some d =>
    by_cases other : g.symbolMode ≠ d.symbolMode ∨ g.guard ≠ d.guard ∨ g.n ≠ d.n
    · rw [execFrameStart_of_structure tracking decoded other]
      exact answers_next.mpr (pathStep_updPath (PathUnit.keeps_held working))
    · rw [execFrameStart_of_same tracking decoded other]
      split
      · exact answers_next.mpr (pathStep_updPath (PathUnit.keeps_failed working .wrongMux))
      · exact answers_next.mpr (pathStep_updPath (PathUnit.keeps_adopting working decoded))

theorem pathStep_execLossOfFrameSync (p : Path) (s : State) : Answers s.PathStep (execLossOfFrameSync p s) := by
  unfold execLossOfFrameSync
  split
  next tracking =>
    rw [enterHold_eq]
    exact answers_next.mpr (pathStep_updPath (PathUnit.keeps_held (by rw [tracking]; decide)))
  next => exact answers_next.mpr (.refl s)

theorem pathStep_execPathFrameEnd (p : Path) (m : Measured) (s : State) :
    Answers s.PathStep (execPathFrameEnd p m s) := by
  unfold execPathFrameEnd
  split
  · exact answers_next.mpr (pathStep_updPath (PathUnit.keeps_measured m))
  · exact answers_next.mpr (.refl s)

/-- What is left of an inbox was in it. -/
theorem takeFirst_subset {α β : Type} {f : α → Option β} {l rest : List α} {b : β}
    (taken : takeFirst f l = some (b, rest)) : rest ⊆ l := by
  obtain ⟨x, before, after, rfl, rfl, -, -⟩ := takeFirst_some taken
  exact ((List.sublist_cons_self x after).append_left before).subset

theorem pathStep_takeOrder {β : Type} {t : State} {p : Path} {f : PathOrder → Option β} {b : β}
    (taken : s.takeOrder p f = some (b, t)) : s.PathStep t := by
  obtain ⟨rest, found, rfl⟩ := takeOrder_only taken
  exact pathStep_updPath (PathUnit.keeps_inbox (takeFirst_subset found))

theorem pathStep_execStopOrder (p : Path) (s : State) : Answers s.PathStep (execStopOrder p s) := by
  unfold execStopOrder
  split
  next t taken => exact answers_next.mpr ((pathStep_takeOrder taken).trans (pathStep_updPath PathUnit.keeps_stopped))
  next => exact answers_next.mpr (.refl s)

/-- An unpark that is taken was in the inbox, so the path was not one that stays PARKED. -/
theorem pathStep_execUnparkOrder (p : Path) (s : State) : Answers s.PathStep (execUnparkOrder p s) := by
  unfold execUnparkOrder
  split
  next t taken =>
    have step := pathStep_takeOrder taken
    split
    next moves =>
      obtain ⟨rest, found, rfl⟩ := takeOrder_only taken
      obtain ⟨-, -, awake⟩ := moves
      have waits : PathOrder.unpark ∈ (s.path p).inbox := by
        obtain ⟨o, before, after, same, -, parks, -⟩ := takeFirst_some found
        cases o with
        | unpark => rw [same]; simp
        | _ => simp [PathOrder.parks] at parks
      refine answers_next.mpr ?_
      rw [enterGain, State.updPath_updPath, State.updPath_updPath]
      refine pathStep_updPath
        { ranges := fun ⟨_, _, _, _, continuity, rest⟩ => ⟨Nat.zero_le 1, Nat.zero_le 24,
            nofun, nofun, continuity, rest⟩
          index := id
          positions := fun ⟨_, records⟩ => ⟨nofun, records⟩
          parked := fun _ stays => ?_
          unparks := fun sent => takeFirst_subset found sent }
      obtain shut | absent := stays
      · exact absurd (awake.symm.trans shut) Bool.false_ne_true
      · exact absurd waits absent
    next => exact answers_next.mpr step
  next => exact answers_next.mpr (.refl s)

theorem pathStep_execModeMismatchOrder (p : Path) (s : State) : Answers s.PathStep (execModeMismatchOrder p s) := by
  unfold execModeMismatchOrder
  split
  next stay t taken =>
    have step := pathStep_takeOrder taken
    split
    next fails =>
      rw [takeFailure_eq]
      exact answers_next.mpr (step.trans (pathStep_updPath
        (PathUnit.keeps_failed (by rw [fails.1]; decide) .modeMismatch)))
    next => exact answers_next.mpr step
  next => exact answers_next.mpr (.refl s)

theorem pathStep_execRefusalNotice (p : Path) (s : State) : Answers s.PathStep (execRefusalNotice p s) := by
  unfold execRefusalNotice
  split
  next t taken =>
    refine answers_next.mpr ((pathStep_takeOrder taken).trans (pathStep_updPath
      { ranges := fun ⟨attempts, run, tracking, measured, continuity,
            ⟨delivered, clean, corrected, bytes, uncorrectable, _, counters⟩, rest⟩ =>
          ⟨attempts, run, tracking, measured, continuity,
            ⟨delivered, clean, corrected, bytes, uncorrectable, inc16_le _, counters⟩, rest⟩
        index := id
        positions := id
        parked := fun parked _ => parked
        unparks := id }))
  next => exact answers_next.mpr (.refl s)

end Events

end Sys2Proof.Machine
end

section
/-!
Validation (R178 to R180): the candidate list of a path as its blocks' entries each but once, the settling of the four
slots one after another, and the obligation on the working configuration (O6).
-/
namespace Sys2Proof.Machine

/-! ### One path's candidates (R178) -/

/-- The entry that one candidate block gives, when it is present and in range (R178 (2)). -/
def entryOf (b : Option CandidateFields) : Option Candidate :=
  b.bind fun f =>
    if f.present = true ∧ 174000 ≤ f.frequency.toNat ∧ f.frequency.toNat ≤ 862000 then
      f.bandwidth.map fun w => ⟨f.input, f.frequency.toNat, w, f.expected⟩
    else none

/-- Whether a candidate block is present. -/
def isPresent (b : Option CandidateFields) : Bool := b.any fun f => f.present

theorem entryOf_eq_some_iff {b : Option CandidateFields} {c : Candidate} :
    entryOf b = some c ↔ ∃ f w, b = some f ∧ f.present = true ∧ 174000 ≤ f.frequency.toNat ∧
      f.frequency.toNat ≤ 862000 ∧ f.bandwidth = some w ∧ (⟨f.input, f.frequency.toNat, w, f.expected⟩ : Candidate)
        = c := by
  simp only [entryOf, Option.bind_eq_some_iff, Option.ite_none_right_eq_some, Option.map_eq_some_iff]
  exact ⟨fun ⟨f, hf, ⟨present, low, high⟩, w, hw, same⟩ => ⟨f, w, hf, present, low, high, hw, same⟩,
    fun ⟨f, w, hf, present, low, high, hw, same⟩ => ⟨f, hf, ⟨present, low, high⟩, w, hw, same⟩⟩

theorem addCandidate_of_entry {acc : List Candidate × Nat} {b : Option CandidateFields} {c : Candidate}
    (entry : entryOf b = some c) :
    isPresent b = true ∧ addCandidate acc b = if c ∈ acc.1 then (acc.1, acc.2 + 1) else (acc.1 ++ [c], acc.2) := by
  obtain ⟨f, w, rfl, present, low, high, bandwidth, rfl⟩ := entryOf_eq_some_iff.mp entry
  simp [addCandidate, isPresent, present, bandwidth, not_lt.mpr low, not_lt.mpr high]

theorem addCandidate_of_none {acc : List Candidate × Nat} {b : Option CandidateFields} (none_ : entryOf b = none) :
    addCandidate acc b = (acc.1, acc.2 + (isPresent b).toNat) := by
  cases b with
  | none => rfl
  | some f =>
    cases present : f.present with
    | false => simp [addCandidate, isPresent, present]
    | true =>
      cases bandwidth : f.bandwidth with
      | none => simp [addCandidate, isPresent, present, bandwidth]
      | some w =>
        have outside : f.frequency.toNat < 174000 ∨ 862000 < f.frequency.toNat := by
          by_contra! inside
          simp [entryOf, present, bandwidth, inside] at none_
        rcases outside with low | high
        · simp [addCandidate, isPresent, present, bandwidth, low]
        · simp [addCandidate, isPresent, present, bandwidth, high]

/-- R178 (2), (3): a block's entry is listed unless an earlier block has given it; a present block that is not listed
costs a note. -/
theorem addCandidate_eq (acc : List Candidate × Nat) (b : Option CandidateFields) :
    (addCandidate acc b).1 = acc.1 ++ ((entryOf b).filter fun c => decide (c ∉ acc.1)).toList ∧
      (addCandidate acc b).2 + (addCandidate acc b).1.length = acc.2 + acc.1.length + (isPresent b).toNat := by
  cases entry : entryOf b with
  | none => rw [addCandidate_of_none entry]; simp; omega
  | some c =>
    obtain ⟨present, added⟩ := addCandidate_of_entry (acc := acc) entry
    rw [added, present]
    by_cases old : c ∈ acc.1
    · simp [old]; omega
    · simp [old, Option.filter]; omega

theorem mem_addCandidate {acc : List Candidate × Nat} {b : Option CandidateFields} {c : Candidate} :
    c ∈ (addCandidate acc b).1 ↔ c ∈ acc.1 ∨ entryOf b = some c := by
  rw [(addCandidate_eq acc b).1]
  by_cases old : c ∈ acc.1 <;> simp [old]

theorem nodup_addCandidate {acc : List Candidate × Nat} (b : Option CandidateFields) (distinct : acc.1.Nodup) :
    (addCandidate acc b).1.Nodup := by
  rw [(addCandidate_eq acc b).1]
  refine distinct.append ?_ fun c old new => ?_
  · cases (entryOf b).filter fun c => decide (c ∉ acc.1) <;> simp
  · obtain ⟨-, new⟩ := Option.filter_eq_some_iff.mp (Option.mem_toList.mp new)
    exact of_decide_eq_true new old

section Candidates
variable {q : Quad (Option CandidateFields)}

theorem candidateList_eq : candidateList q =
    addCandidate (addCandidate (addCandidate (addCandidate ([], 0) q.a0) q.a1) q.a2) q.a3 := rfl

theorem candidateList_nodup : (candidateList q).1.Nodup := by
  rw [candidateList_eq]
  exact nodup_addCandidate _ (nodup_addCandidate _ (nodup_addCandidate _ (nodup_addCandidate _ List.nodup_nil)))

/-- R178 (2), (3): every entry listed is that of a block. -/
theorem mem_candidateList {c : Candidate} (listed : c ∈ (candidateList q).1) : ∃ j, entryOf (q.get j) = some c := by
  simp only [candidateList_eq, mem_addCandidate, List.not_mem_nil, false_or] at listed
  obtain ((h | h) | h) | h := listed
  · exact ⟨0, h⟩
  · exact ⟨1, h⟩
  · exact ⟨2, h⟩
  · exact ⟨3, h⟩

/-- R178 (2), (3): each present block costs a note or gives an entry. -/
theorem notes_candidateList :
    (candidateList q).2 + (candidateList q).1.length =
      (([0, 1, 2, 3] : List (Fin 4)).filter fun j => isPresent (q.get j)).length := by
  simp only [candidateList_eq, (addCandidate_eq _ _).2, List.length_nil]
  simp only [Quad.get, List.filter_cons, List.filter_nil]
  cases isPresent q.a0 <;> cases isPresent q.a1 <;> cases isPresent q.a2 <;> cases isPresent q.a3 <;> rfl

end Candidates

theorem entry_eq (r : RawConfig) (p : Path) (j : Fin 4) : r.entry p j = entryOf ((r.candidates.get p).get j) := rfl

theorem filterMap_four {β : Type} (f : Fin 4 → Option β) :
    ([0, 1, 2, 3] : List (Fin 4)).filterMap f = (f 0).toList ++ (f 1).toList ++ (f 2).toList ++ (f 3).toList := by
  cases f0 : f 0 <;> cases f1 : f 1 <;> cases f2 : f 2 <;> cases f3 : f 3 <;> simp [f0, f1, f2, f3]

/-- R178 (2) to (4): the list of a path is the entries of its blocks in order, each but once. -/
theorem candidateList_eq_listed (r : RawConfig) (p : Path) : (candidateList (r.candidates.get p)).1 = r.listed p := by
  have given {acc : List Candidate} {j : Fin 4} (earlier : ∀ c, c ∈ acc ↔ ∃ h < j, r.entry p h = some c) :
      ((r.entry p j).filter fun c => decide (c ∉ acc)) = (r.entry p j).filter fun e =>
        ([0, 1, 2, 3] : List (Fin 4)).all fun h => !(decide (h < j) && r.entry p h == some e) := by
    congr 1
    funext c
    rw [Bool.eq_iff_iff]
    have listed (h : Fin 4) : h ∈ ([0, 1, 2, 3] : List (Fin 4)) := mem_four h
    simp only [earlier, listed, List.all_eq_true, decide_eq_true_eq, Bool.not_eq_true', Bool.and_eq_false_iff,
      decide_eq_false_iff_not, beq_eq_false_iff_ne, not_exists, not_and, true_imp_iff, ne_eq]
    exact forall_congr' fun h => imp_iff_not_or
  rw [RawConfig.listed, filterMap_four, candidateList_eq]
  rw [← given (acc := []) (by simp), ← given (acc := (addCandidate ([], 0) (r.candidates.get p).a0).1) ?one,
    ← given (acc := (addCandidate (addCandidate ([], 0) (r.candidates.get p).a0) (r.candidates.get p).a1).1) ?two,
    ← given (acc := (addCandidate (addCandidate (addCandidate ([], 0) (r.candidates.get p).a0)
      (r.candidates.get p).a1) (r.candidates.get p).a2).1) ?three]
  · refine (addCandidate_eq _ _).1.trans (congrArg (· ++ _) ?_)
    refine (addCandidate_eq _ _).1.trans (congrArg (· ++ _) ?_)
    exact (addCandidate_eq _ _).1.trans (congrArg (· ++ _) (addCandidate_eq _ _).1)
  all_goals
    intro c
    simp only [mem_addCandidate, List.not_mem_nil, false_or, entry_eq]
    simp [Fin.exists_fin_succ, Quad.get, Fin.lt_def, or_assoc]

/-! ### One slot (R179, R180) -/

theorem Quad.crowded_get (q : Quad Bool) (p : Path) :
    (if q.count == 4 then { q with a3 := false } else q).get p =
      (q.get p && !(p == 3 && q.get 0 && q.get 1 && q.get 2)) := by
  obtain ⟨c0, c1, c2, c3⟩ := q
  revert p
  cases c0 <;> cases c1 <;> cases c2 <;> cases c3 <;> decide

/-- R179 (5): beside the three others P3 is left out. -/
theorem contributors_draftSlot (f : ServiceFields) (p : Path) :
    (draftSlot f).1.contributors.get p =
      (f.contributor.get p && !(p == 3 && f.contributor.get 0 && f.contributor.get 1 && f.contributor.get 2)) :=
  Quad.crowded_get f.contributor p

theorem RawConfig.admitted_eq {r : RawConfig} {i : IdentityFields} (identity : r.identity = some i) (k : SlotNo) :
    r.admitted k = if i.mask.get k then r.services.get k else none := by
  simp [RawConfig.admitted, identity]

/-- The port a slot binds once it is configured: none where it names none, or where its lane is taken (R180 (4)). -/
def Settling.binds (g : Settling) (d : SlotDraft) : Option Port := if d.lane ∈ g.lanes then none else d.port

/-- A slot is left unconfigured: no contributor with a candidate is left to it, or its port is taken (R180 (2), (3)). -/
def Settling.loses (g : Settling) (candidates : Quad (List Candidate)) (d : SlotDraft) : Prop :=
  (∀ p, d.contributors.get p = true → g.taken.get p = false → candidates.get p = []) ∨
    ∃ x, d.port = some x ∧ g.portsTaken.get x = true

/-- The contributors left to a slot (R180 (1)). -/
def Settling.leaves (g : Settling) (d : SlotDraft) : Quad Bool := d.contributors.map fun p b => b && !g.taken.get p

/-- The notes of one slot's tests (R180): the paths removed, and one where it is unconfigured or unbound. -/
def Settling.costs (g : Settling) (d : SlotDraft) (lost : Bool) : Nat :=
  d.contributors.count - (g.leaves d).count + if lost || (d.port.isSome && decide (d.lane ∈ g.lanes)) then 1 else 0

section Settle
variable {g : Settling} {candidates : Quad (List Candidate)} {k : SlotNo} {d : SlotDraft}

theorem Settling.pathless_iff :
    (four.all fun p => !((g.leaves d).get p && candidates.get p != [])) = true ↔
      ∀ p, d.contributors.get p = true → g.taken.get p = false → candidates.get p = [] := by
  simp only [Settling.leaves, List.all_eq_true, mem_four, true_imp_iff, Quad.get_map]
  exact forall_congr' fun p => by cases d.contributors.get p <;> cases g.taken.get p <;> simp

theorem Settling.settle_of_loses (lost : g.loses candidates d) :
    g.settle candidates k d = { g with notes := g.notes + g.costs d true } := by
  have noted : ({ g with notes := g.notes + (d.contributors.count - (g.leaves d).count) + 1 } : Settling) =
      { g with notes := g.notes + g.costs d true } := by simp [Settling.costs, Nat.add_assoc]
  rw [← noted]
  unfold Settling.settle
  dsimp only
  split
  · rfl
  next kept =>
    obtain pathless | ⟨x, names, busy⟩ := lost
    · exact absurd (Settling.pathless_iff.mpr pathless) kept
    · simp only [names, busy, if_true]
      rfl

theorem Settling.settle_of_keeps (kept : ¬ g.loses candidates d) :
    g.settle candidates k d =
      { g.configure k d (g.leaves d) (g.binds d) with notes := g.notes + g.costs d false } := by
  obtain ⟨hasPath, free⟩ := not_or.mp kept
  unfold Settling.settle
  dsimp only
  have hasPath : ¬ (four.all fun p => !((d.contributors.map fun p b => b && !g.taken.get p).get p &&
      candidates.get p != [])) = true := mt Settling.pathless_iff.mp hasPath
  rw [if_neg hasPath]
  cases names : d.port with
  | none => simp [Settling.binds, Settling.costs, names, Settling.configure, Settling.leaves]
  | some x =>
    have idle : g.portsTaken.get x = false := by simpa [names] using free
    by_cases shared : d.lane ∈ g.lanes
    · simp [Settling.binds, Settling.costs, names, shared, idle, Settling.configure, Settling.leaves, Nat.add_assoc]
    · simp [Settling.binds, Settling.costs, names, shared, idle, Settling.configure, Settling.leaves]

end Settle

/-! ### The four slots in turn (R180) -/

/-- Where slot `k` stands in the configuration that the slots before it leave (R179, R180). -/
def RawConfig.standing (r : RawConfig) (c : Config) (k : SlotNo) : Option ServiceConfig :=
  (r.admitted k).bind fun f =>
    if r.pathless c k || r.portTaken c k then none
    else some
      { muxId := f.muxId
        contributors := Quad.tabulate fun p => r.names k p && !c.takenBefore k p
        priority := f.priority
        tieMode := f.tieMode
        w := max 2 (min f.w.toNat 64)
        port := if r.laneTaken c k then none else f.port }

/-- Two configurations that slot `k` cannot tell apart: its tests read the candidates and the slots before it. -/
structure Config.SameBefore (c d : Config) (k : SlotNo) : Prop where
  candidates : d.candidates = c.candidates
  services : ∀ j < k, d.services.get j = c.services.get j
  ports : ∀ x q, q.slot < k → (d.ports.get x = some q ↔ c.ports.get x = some q)

section SameBefore
variable {r : RawConfig} {c d : Config} {k : SlotNo}

theorem Config.SameBefore.before (same : c.SameBefore d k) : d.before k = c.before k := by
  refine List.filter_congr fun j _ => ?_
  by_cases earlier : j < k
  · rw [same.services j earlier]
  · simp [earlier]

theorem Config.SameBefore.takenBefore (same : c.SameBefore d k) (p : Path) :
    d.takenBefore k p = c.takenBefore k p := by
  rw [Config.takenBefore, Config.takenBefore, same.before]
  rw [Bool.eq_iff_iff, List.any_eq_true, List.any_eq_true]
  refine exists_congr fun j => and_congr_right fun member => ?_
  have earlier : j < k := of_decide_eq_true (Bool.and_eq_true_iff.mp (List.mem_filter.mp member).2).1
  rw [same.services j earlier]

theorem Config.SameBefore.laneTaken (same : c.SameBefore d k) : r.laneTaken d k = r.laneTaken c k := by
  have lane (x : Port) (f : ServiceFields) :
      ((d.ports.get x).any fun q => decide (q.slot < k) && q.lane == f.lane) =
        (c.ports.get x).any fun q => decide (q.slot < k) && q.lane == f.lane := by
    rw [Bool.eq_iff_iff]
    simp only [Option.any_eq_true, Bool.and_eq_true, decide_eq_true_eq]
    exact exists_congr fun q => and_congr_left fun ⟨earlier, _⟩ => same.ports x q earlier
  simp only [RawConfig.laneTaken, lane]

theorem Config.SameBefore.pathless (same : c.SameBefore d k) : r.pathless d k = r.pathless c k := by
  simp only [RawConfig.pathless, same.candidates, same.takenBefore]

theorem Config.SameBefore.portTaken (same : c.SameBefore d k) : r.portTaken d k = r.portTaken c k := by
  simp only [RawConfig.portTaken, same.before]

theorem Config.SameBefore.standing (same : c.SameBefore d k) : r.standing d k = r.standing c k := by
  simp only [RawConfig.standing, same.pathless, same.portTaken, same.laneTaken, same.takenBefore]

theorem Config.SameBefore.slotNotes (same : c.SameBefore d k) : r.slotNotes d k = r.slotNotes c k := by
  simp only [RawConfig.slotNotes, same.pathless, same.portTaken, same.laneTaken, same.takenBefore]

end SameBefore

/-- The configuration that the settling stands at. -/
def Settling.config (tw : Nat) (candidates : Quad (List Candidate)) (g : Settling) : Config :=
  ⟨tw, candidates, g.services, g.ports⟩

/-- The first `n` slots have been settled: each stands as R179 and R180 say by those before it, and what is taken is
what the configured ones take. -/
structure Settling.Settled (r : RawConfig) (c : Config) (n : Nat) (g : Settling) : Prop where
  config : c.services = g.services ∧ c.ports = g.ports
  later : ∀ k : SlotNo, n ≤ k.val → g.services.get k = none
  stands : ∀ k : SlotNo, k.val < n → g.services.get k = r.standing c k
  notes : g.notes = ((four.take n).map fun k => r.slotNotes c k).sum
  taken : ∀ p, g.taken.get p = true ↔ ∃ k v, g.services.get k = some v ∧ v.contributors.get p = true
  portsTaken : ∀ x, g.portsTaken.get x = true ↔
    ∃ k f, (g.services.get k).isSome = true ∧ r.admitted k = some f ∧ f.port = some x
  lanes : ∀ l, l ∈ g.lanes ↔ ∃ x q, g.ports.get x = some q ∧ q.lane = l
  ports : ∀ x q, g.ports.get x = some q → ∃ f v, r.admitted q.slot = some f ∧ g.services.get q.slot = some v ∧
    v.port = some x ∧ f.port = some x ∧
    q = ⟨q.slot, f.lane, (draftSlot f).1.depth, (draftSlot f).1.conditioning, (draftSlot f).1.hold⟩
  bound : ∀ k v x, g.services.get k = some v → v.port = some x → ∃ q, g.ports.get x = some q ∧ q.slot = k
  apart : ∀ x q y z, g.ports.get x = some q → g.ports.get y = some z → y ≠ x → z.lane ≠ q.lane

section Settled
variable {r : RawConfig} {c : Config} {k : SlotNo} {g : Settling} {f : ServiceFields}

theorem Settling.Settled.mem_before (settled : g.Settled r c k.val) {j : SlotNo} :
    j ∈ c.before k ↔ (g.services.get j).isSome = true := by
  rw [Config.before, List.mem_filter, settled.config.1]
  refine ⟨fun ⟨_, h⟩ => (Bool.and_eq_true_iff.mp h).2, fun h => ⟨mem_four j, Bool.and_eq_true_iff.mpr ⟨?_, h⟩⟩⟩
  rw [decide_eq_true_eq]
  by_contra! later
  simp [settled.later j later] at h

theorem Settling.Settled.takenBefore (settled : g.Settled r c k.val) (p : Path) :
    c.takenBefore k p = g.taken.get p := by
  rw [Bool.eq_iff_iff, settled.taken, Config.takenBefore]
  simp only [List.any_eq_true, settled.mem_before, Option.any_eq_true, settled.config.1]
  exact ⟨fun ⟨j, _, v, stands, has⟩ => ⟨j, v, stands, has⟩, fun ⟨j, v, stands, has⟩ =>
    ⟨j, by simp [stands], v, stands, has⟩⟩

theorem Settling.Settled.contributors (settled : g.Settled r c k.val) (admitted : r.admitted k = some f) :
    (Quad.tabulate fun p => r.names k p && !c.takenBefore k p) = g.leaves (draftSlot f).1 := by
  refine Quad.ext_get fun p => ?_
  simp [Settling.leaves, contributors_draftSlot, RawConfig.names, admitted, settled.takenBefore]

theorem Settling.Settled.portTaken_iff (settled : g.Settled r c k.val) (admitted : r.admitted k = some f) :
    r.portTaken c k = true ↔ ∃ x, f.port = some x ∧ g.portsTaken.get x = true := by
  simp only [RawConfig.portTaken, admitted, Option.any_some, Bool.and_eq_true, Option.isSome_iff_exists,
    List.any_eq_true,
    Option.any_eq_true, settled.mem_before, beq_iff_eq, settled.portsTaken]
  constructor
  · rintro ⟨⟨x, names⟩, j, configured, e, he, same⟩
    exact ⟨x, names, j, e, configured, he, same.trans names⟩
  · rintro ⟨x, names, j, e, configured, he, same⟩
    exact ⟨⟨x, names⟩, j, configured, e, he, same.trans names.symm⟩

theorem Settling.Settled.laneTaken_iff (settled : g.Settled r c k.val) (admitted : r.admitted k = some f) :
    r.laneTaken c k = true ↔ f.port.isSome = true ∧ f.lane ∈ g.lanes := by
  simp only [RawConfig.laneTaken, admitted, Option.any_some, Bool.and_eq_true, List.any_eq_true, Option.any_eq_true,
    settled.lanes, settled.config.2, decide_eq_true_eq, beq_iff_eq]
  refine and_congr_right fun _ => ⟨fun ⟨x, _, q, at_, _, same⟩ => ⟨x, q, at_, same⟩, fun ⟨x, q, at_, same⟩ =>
    ⟨x, mem_four x, q, at_, ?_, same⟩⟩
  obtain ⟨e, v, -, stands, -⟩ := settled.ports x q at_
  by_contra! later
  simp [settled.later q.slot later] at stands

theorem Settling.Settled.loses_iff (settled : g.Settled r c k.val) (admitted : r.admitted k = some f) :
    g.loses c.candidates (draftSlot f).1 ↔ (r.pathless c k || r.portTaken c k) = true := by
  rw [Bool.or_eq_true, settled.portTaken_iff admitted, Settling.loses]
  refine or_congr (Settling.pathless_iff.symm.trans ?_) Iff.rfl
  rw [← settled.contributors admitted]
  simp [RawConfig.pathless, four]

theorem Quad.count_sub_count_left {q t : Quad Bool} :
    q.count - (q.map fun p b => b && !t.get p).count =
      (([0, 1, 2, 3] : List (Fin 4)).filter fun p => q.get p && t.get p).length := by
  obtain ⟨q0, q1, q2, q3⟩ := q
  obtain ⟨t0, t1, t2, t3⟩ := t
  revert q0 q1 q2 q3 t0 t1 t2 t3
  decide

theorem Quad.count_eq_four_iff {q : Quad Bool} : q.count = 4 ↔ ∀ p, q.get p = true := by
  obtain ⟨q0, q1, q2, q3⟩ := q
  revert q0 q1 q2 q3
  decide

theorem clampNat_natCast (n lo hi : Nat) : clampNat n lo hi = max lo (min n hi) := by
  unfold clampNat clampInt; omega

theorem noteIf_eq {b : Bool} {p : Prop} [Decidable p] (h : b = true ↔ p) : noteIf b = if p then 1 else 0 := by
  simp only [noteIf, h]

/-- The notes of a slot are those of its single fields and of its tests (R179, R180). -/
theorem Settling.Settled.slotNotes (settled : g.Settled r c k.val) (admitted : r.admitted k = some f) :
    r.slotNotes c k = (draftSlot f).2 + g.costs (draftSlot f).1 (r.pathless c k || r.portTaken c k) := by
  have fields : (draftSlot f).2 =
      (if f.w.toNat < 2 ∨ 64 < f.w.toNat then 1 else 0) + (if 200 < f.holdSteps.toNat then 1 else 0) +
        (if f.depth = none then 1 else 0) + (if f.conditioning = none then 1 else 0) +
        (if ∀ p, f.contributor.get p = true then 1 else 0) := by
    refine congrArg₂ _ (congrArg₂ _ (congrArg₂ _ (congrArg₂ _ (noteIf_eq ?_) (noteIf_eq ?_)) (noteIf_eq ?_))
      (noteIf_eq ?_)) (noteIf_eq ?_)
    · rw [clampNat_natCast, bne_iff_ne]; omega
    · simp only [bne_iff_ne]; omega
    · exact Option.isNone_iff_eq_none
    · exact Option.isNone_iff_eq_none
    · rw [beq_iff_eq, Quad.count_eq_four_iff]
  have removed : (draftSlot f).1.contributors.count - (g.leaves (draftSlot f).1).count =
      (([0, 1, 2, 3] : List Path).filter fun p => r.names k p && c.takenBefore k p).length := by
    rw [Settling.leaves, Quad.count_sub_count_left]
    simp only [contributors_draftSlot, RawConfig.names, admitted, Option.any_some, settled.takenBefore]
  have shared : r.laneTaken c k = (f.port.isSome && decide (f.lane ∈ g.lanes)) := by
    rw [Bool.eq_iff_iff, settled.laneTaken_iff admitted, Bool.and_eq_true, decide_eq_true_eq]
  rw [RawConfig.slotNotes, admitted, fields, Settling.costs, removed, shared]
  simp only [Nat.add_assoc]
  rfl

theorem Settling.Settled.binds (settled : g.Settled r c k.val) (admitted : r.admitted k = some f) :
    g.binds (draftSlot f).1 = if r.laneTaken c k then none else f.port := by
  have named : (draftSlot f).1.port = f.port ∧ (draftSlot f).1.lane = f.lane := ⟨rfl, rfl⟩
  rw [Settling.binds, named.1, named.2]
  cases names : f.port with
  | none => simp
  | some x =>
    have shared := settled.laneTaken_iff admitted
    rw [names, Option.isSome_some] at shared
    simp [shared]

theorem four_take_succ : ∀ k : SlotNo, four.take (k.val + 1) = four.take k.val ++ [k] := by decide

end Settled

section Step
variable {r : RawConfig} {c : Config} {k : SlotNo} {g h : Settling} {f : ServiceFields}

/-- A slot that stays unconfigured leaves everything but the notes. -/
theorem Settling.Settled.skip (settled : g.Settled r c k.val) (stays : r.standing c k = none)
    (same : h = { g with notes := g.notes + r.slotNotes c k }) : h.Settled r c (k.val + 1) := by
  subst same
  refine { settled with later := fun j later => settled.later j (by omega), stands := fun j earlier => ?_, notes := ?_ }
  · rcases Nat.lt_succ_iff_lt_or_eq.mp earlier with before | same
    · exact settled.stands j before
    · obtain rfl := Fin.ext same
      rw [stays]
      exact settled.later j le_rfl
  · rw [four_take_succ, List.map_append, List.sum_append, ← settled.notes]
    simp

/-- A port that no configured slot names is bound to none. -/
theorem Settling.Settled.unbound {n : Nat} (settled : g.Settled r c n) {x : Port} (free : g.portsTaken.get x = false) :
    g.ports.get x = none := by
  refine Option.eq_none_iff_forall_ne_some.mpr fun q at_ => Bool.false_ne_true (free.symm.trans ?_)
  obtain ⟨f, v, admitted, stands, -, names, -⟩ := settled.ports x q at_
  exact (settled.portsTaken x).mpr ⟨q.slot, f, by rw [stands]; rfl, admitted, names⟩

/-- The slot that a draft becomes. -/
def Settling.slotOf (g : Settling) (d : SlotDraft) : ServiceConfig :=
  ⟨d.muxId, g.leaves d, d.priority, d.tieMode, d.w, g.binds d⟩

/-- The settling after a slot that is configured. -/
def Settling.added (g : Settling) (k : SlotNo) (d : SlotDraft) (notes : Nat) : Settling :=
  { g.configure k d (g.leaves d) (g.binds d) with notes := notes }

section Added
variable {d : SlotDraft} {n : Nat}

theorem Settling.added_eq : g.added k d n =
    { taken := g.taken.map fun p b => b || (g.leaves d).get p
      services := g.services.set k (some (g.slotOf d))
      portsTaken := match d.port with | some x => g.portsTaken.set x true | none => g.portsTaken
      lanes := match g.binds d with | some _ => d.lane :: g.lanes | none => g.lanes
      ports := match g.binds d with
        | some x => g.ports.set x (some ⟨k, d.lane, d.depth, d.conditioning, d.hold⟩)
        | none => g.ports
      notes := n } := by
  cases binds : g.binds d <;> simp only [Settling.added, Settling.configure, Settling.slotOf, binds] <;> rfl

theorem Settling.services_added : (g.added k d n).services = g.services.set k (some (g.slotOf d)) := by
  rw [Settling.added_eq]

theorem Settling.taken_added {p : Path} :
    (g.added k d n).taken.get p = true ↔ g.taken.get p = true ∨ (g.leaves d).get p = true := by
  rw [Settling.added_eq]
  simp

theorem Settling.portsTaken_added {x : Port} :
    (g.added k d n).portsTaken.get x = true ↔ g.portsTaken.get x = true ∨ d.port = some x := by
  rw [Settling.added_eq]
  cases names : d.port with
  | none => simp
  | some y => by_cases at_ : y = x <;> simp [Quad.get_set, at_, @eq_comm _ x y]

theorem Settling.lanes_added {l : Fin 16} :
    l ∈ (g.added k d n).lanes ↔ l ∈ g.lanes ∨ (g.binds d).isSome = true ∧ d.lane = l := by
  rw [Settling.added_eq]
  cases g.binds d <;> simp [or_comm, @eq_comm _ l]

theorem Settling.ports_added {x : Port} : (g.added k d n).ports.get x =
    if g.binds d = some x then some ⟨k, d.lane, d.depth, d.conditioning, d.hold⟩ else g.ports.get x := by
  rw [Settling.added_eq]
  cases binds : g.binds d with
  | none => simp
  | some y => by_cases at_ : y = x <;> simp [Quad.get_set, at_, @eq_comm _ x y]

theorem Settling.binds_eq_some_iff {x : Port} : g.binds d = some x ↔ d.lane ∉ g.lanes ∧ d.port = some x := by
  simp [Settling.binds]

end Added

/-- What a configured slot adds. -/
theorem Settling.Settled.add (settled : g.Settled r c k.val) (admitted : r.admitted k = some f)
    (kept : ¬ g.loses c.candidates (draftSlot f).1)
    (same : h = g.added k (draftSlot f).1 (g.notes + r.slotNotes c k)) :
    h.Settled r { c with services := h.services, ports := h.ports } (k.val + 1) := by
  have free (x : Port) (names : f.port = some x) : g.portsTaken.get x = false := by
    rw [Bool.eq_false_iff]
    exact fun busy => kept (Or.inr ⟨x, names, busy⟩)
  have fresh : g.services.get k = none := settled.later k le_rfl
  have old {j : SlotNo} (other : j ≠ k) : h.services.get j = g.services.get j := by
    rw [same, Settling.services_added, Quad.get_set_of_ne _ _ other]
  have new : h.services.get k = some (g.slotOf (draftSlot f).1) := by
    rw [same, Settling.services_added, Quad.get_set_self]
  have inUse {j : SlotNo} {v : ServiceConfig} (at_ : g.services.get j = some v) : j ≠ k := by
    rintro rfl
    simp [fresh] at at_
  have ports (x : Port) : h.ports.get x = if g.binds (draftSlot f).1 = some x
      then some ⟨k, f.lane, (draftSlot f).1.depth, (draftSlot f).1.conditioning, (draftSlot f).1.hold⟩
      else g.ports.get x := by
    rw [same, Settling.ports_added]; rfl
  have oldPort {x : Port} {q : PortConfig} (at_ : g.ports.get x = some q) : h.ports.get x = some q := by
    rw [ports, if_neg, at_]
    intro binds
    rw [settled.unbound (free x (Settling.binds_eq_some_iff.mp binds).2)] at at_
    exact nomatch at_
  have sameBefore {j : SlotNo} (upTo : j ≤ k) :
      c.SameBefore { c with services := h.services, ports := h.ports } j := by
    refine ⟨rfl, fun i before => ?_, fun x q before => ⟨fun at_ => ?_, fun at_ => ?_⟩⟩
    · rw [settled.config.1]
      exact old (before.trans_le upTo).ne
    · rw [settled.config.2]
      rw [ports x] at at_
      split at at_
      · obtain rfl := Option.some.inj at_
        exact absurd upTo (not_le.mpr before)
      · exact at_
    · exact oldPort (settled.config.2 ▸ at_)
  have stands : r.standing c k = some (g.slotOf (draftSlot f).1) := by
    rw [RawConfig.standing, admitted, Option.bind_some, if_neg (mt (settled.loses_iff admitted).mpr kept),
      settled.contributors admitted, ← settled.binds admitted]
    simp only [Settling.slotOf, draftSlot, clampNat_natCast]
  constructor
  case config => exact ⟨rfl, rfl⟩
  case later => exact fun j later => (old (Fin.ne_of_gt (Nat.lt_of_succ_le later))).trans (settled.later j (by omega))
  case stands =>
    intro j earlier
    rw [(sameBefore (Nat.le_of_lt_succ earlier)).standing]
    by_cases at_ : j = k
    · rw [at_, new, stands]
    · rw [old at_, settled.stands j ((Nat.le_of_lt_succ earlier).lt_of_ne (mt Fin.ext at_))]
  case notes =>
    have counted : h.notes = g.notes + r.slotNotes c k := by rw [same]; rfl
    rw [counted, four_take_succ, List.map_append, List.sum_append, settled.notes]
    refine congrArg₂ _ (congrArg _ (List.map_congr_left fun j member => ?_)) ?_
    · have earlier : ∀ k : SlotNo, ∀ j ∈ four.take k.val, j ≤ k := by decide
      exact (sameBefore (earlier k j member)).slotNotes.symm
    · simp [(sameBefore le_rfl).slotNotes]
  case taken =>
    intro p
    rw [same, Settling.taken_added, ← same, settled.taken]
    constructor
    · rintro (⟨j, v, at_, has⟩ | has)
      · exact ⟨j, v, (old (inUse at_)).trans at_, has⟩
      · exact ⟨k, _, new, has⟩
    · rintro ⟨j, v, at_, has⟩
      by_cases hj : j = k
      · rw [hj, new] at at_
        obtain rfl := Option.some.inj at_
        exact Or.inr has
      · exact Or.inl ⟨j, v, (old hj).symm.trans at_, has⟩
  case portsTaken =>
    intro x
    rw [same, Settling.portsTaken_added, ← same, settled.portsTaken]
    constructor
    · rintro (⟨j, e, configured, he, names⟩ | names)
      · obtain ⟨v, at_⟩ := Option.isSome_iff_exists.mp configured
        exact ⟨j, e, by rw [old (inUse at_), at_]; rfl, he, names⟩
      · exact ⟨k, f, by rw [new]; rfl, admitted, names⟩
    · rintro ⟨j, e, configured, he, names⟩
      by_cases hj : j = k
      · rw [hj, admitted] at he
        exact Or.inr (Option.some.inj he ▸ names)
      · exact Or.inl ⟨j, e, by rw [← old hj]; exact configured, he, names⟩
  case lanes =>
    intro l
    rw [same, Settling.lanes_added, ← same, settled.lanes]
    constructor
    · rintro (⟨x, q, at_, lane⟩ | ⟨binds, lane⟩)
      · exact ⟨x, q, oldPort at_, lane⟩
      · obtain ⟨x, binds⟩ := Option.isSome_iff_exists.mp binds
        exact ⟨x, _, (ports x).trans (if_pos binds), lane⟩
    · rintro ⟨x, q, at_, lane⟩
      rw [ports x] at at_
      split at at_
      next binds =>
        obtain rfl := Option.some.inj at_
        exact Or.inr ⟨by rw [binds]; rfl, lane⟩
      · exact Or.inl ⟨x, q, at_, lane⟩
  case ports =>
    intro x q at_
    rw [ports x] at at_
    split at at_
    next binds =>
      obtain rfl := Option.some.inj at_
      exact ⟨f, _, admitted, new, binds, (Settling.binds_eq_some_iff.mp binds).2, rfl⟩
    · obtain ⟨e, v, he, stood, rest⟩ := settled.ports x q at_
      exact ⟨e, v, he, (old (inUse stood)).trans stood, rest⟩
  case bound =>
    intro j v x at_ names
    by_cases hj : j = k
    · rw [hj, new] at at_
      obtain rfl := Option.some.inj at_
      exact ⟨_, (ports x).trans (if_pos names), hj.symm⟩
    · obtain ⟨q, bound, slot⟩ := settled.bound j v x ((old hj).symm.trans at_) names
      exact ⟨q, oldPort bound, slot⟩
  case apart =>
    have elsewhere {x y : Port} {q : PortConfig} (binds : g.binds (draftSlot f).1 = some x)
        (at_ : h.ports.get y = some q) (other : y ≠ x) : q.lane ≠ f.lane := by
      rw [ports y, if_neg fun both => other (Option.some.inj (both.symm.trans binds))] at at_
      exact fun shared => (Settling.binds_eq_some_iff.mp binds).1 ((settled.lanes _).mpr ⟨y, q, at_, shared⟩)
    intro x q y z hx hy other
    by_cases bx : g.binds (draftSlot f).1 = some x
    · have at_ := (ports x).symm.trans hx
      rw [if_pos bx] at at_
      obtain rfl := Option.some.inj at_
      exact elsewhere bx hy other
    · by_cases bY : g.binds (draftSlot f).1 = some y
      · have at_ := (ports y).symm.trans hy
        rw [if_pos bY] at at_
        obtain rfl := Option.some.inj at_
        exact (elsewhere bY hx other.symm).symm
      · exact settled.apart x q y z (by rw [← hx, ports, if_neg bx]) (by rw [← hy, ports, if_neg bY]) other

/-- One slot of the image (R179, R180). -/
theorem Settling.Settled.step {i : IdentityFields} {tw : Nat} {candidates : Quad (List Candidate)}
    (identity : r.identity = some i) (settled : g.Settled r (g.config tw candidates) k.val)
    (same : h = settleSlot i.mask r.services candidates g k) : h.Settled r (h.config tw candidates) (k.val + 1) := by
  have skips (stays : r.standing (g.config tw candidates) k = none)
      (kept : h = { g with notes := g.notes + r.slotNotes (g.config tw candidates) k }) :
      h.Settled r (h.config tw candidates) (k.val + 1) := by
    rw [show h.config tw candidates = g.config tw candidates by rw [kept]; rfl]
    exact settled.skip stays kept
  have admits := RawConfig.admitted_eq identity k
  cases admitted : r.admitted k with
  | none =>
    have stays : h = { g with notes := g.notes + r.slotNotes (g.config tw candidates) k } := by
      have nothing : r.slotNotes (g.config tw candidates) k = 0 := by rw [RawConfig.slotNotes, admitted]
      rw [nothing, same, settleSlot]
      rw [admitted] at admits
      split
      next masked => rw [← admits.trans (if_pos masked)]; rfl
      · rfl
    exact skips (by rw [RawConfig.standing, admitted]; rfl) stays
  | some f =>
    have settles : h = ({ g with notes := g.notes + (draftSlot f).2 } : Settling).settle candidates k
      (draftSlot f).1 := by
      rw [admitted, eq_comm, Option.ite_none_right_eq_some] at admits
      rw [same, settleSlot, if_pos admits.1, admits.2]
    have counted : r.slotNotes (g.config tw candidates) k = _ := settled.slotNotes admitted
    by_cases lost : g.loses candidates (draftSlot f).1
    · have loses := (settled.loses_iff admitted).mp lost
      refine skips (by rw [RawConfig.standing, admitted, Option.bind_some, if_pos loses]) ?_
      rw [settles, Settling.settle_of_loses (g := { g with notes := g.notes + (draftSlot f).2 }) lost, counted, loses,
        ← Nat.add_assoc]
      rfl
    · have keeps := Bool.eq_false_iff.mpr (mt (settled.loses_iff admitted).mpr lost)
      refine settled.add admitted lost ?_
      rw [settles, Settling.settle_of_keeps (g := { g with notes := g.notes + (draftSlot f).2 }) lost, counted, keeps,
        ← Nat.add_assoc,
        Settling.added_eq]
      exact Settling.added_eq

end Step

theorem Settling.settled_start (r : RawConfig) (tw : Nat) (candidates : Quad (List Candidate)) :
    Settling.start.Settled r (Settling.start.config tw candidates) 0 := by
  have none_ {α : Type} (k : Fin 4) : (Quad.fill (none : Option α)).get k = none := Quad.get_fill _ k
  constructor <;> simp [Settling.start, Settling.config, four, none_]

/-- The settling of all four slots. -/
def RawConfig.settling (r : RawConfig) (i : IdentityFields) : Settling :=
  four.foldl (settleSlot i.mask r.services (r.candidates.map fun _ q => (candidateList q).1)) Settling.start

section Validate
variable {r : RawConfig} {i : IdentityFields}

theorem RawConfig.settled (identity : r.identity = some i) (tw : Nat) :
    (r.settling i).Settled r ((r.settling i).config tw (r.candidates.map fun _ q => (candidateList q).1)) 4 :=
  Settling.Settled.step (k := 3) identity (Settling.Settled.step (k := 2) identity
    (Settling.Settled.step (k := 1) identity
    (Settling.Settled.step (k := 0) identity (Settling.settled_start r tw _) rfl) rfl) rfl) rfl

theorem RawConfig.validate_of_none (identity : r.identity = none) :
    r.validate = ({ Config.reset with tw := r.threshold.1 }, r.threshold.2) := by
  rw [RawConfig.validate, identity]

theorem RawConfig.validate_of_some (identity : r.identity = some i) :
    r.validate.1 = (r.settling i).config r.threshold.1 (r.candidates.map fun _ q => (candidateList q).1) ∧
      r.validate.2 = r.threshold.2 + ([0, 1, 2, 3].map fun p => (candidateList (r.candidates.get p)).2).sum +
        (r.settling i).notes := by
  constructor <;> rw [RawConfig.validate, identity]
  · rfl
  · simp only [RawConfig.settling, Quad.map, Quad.toList, List.map_cons, List.map_nil]
    rfl

theorem RawConfig.tw_validate : r.validate.1.tw = r.threshold.1 := by
  cases identity : r.identity with
  | none => rw [RawConfig.validate_of_none identity]
  | some i => rw [(RawConfig.validate_of_some identity).1]; rfl

theorem RawConfig.threshold_eq : r.threshold.1 = (r.station.map fun f => max 85 (min f.tw.toNat 120)).getD 105 ∧
    r.threshold.2 = if r.station.all fun f => decide (85 ≤ f.tw.toNat ∧ f.tw.toNat ≤ 120) then 0 else 1 := by
  unfold RawConfig.threshold
  cases r.station with
  | none => exact ⟨rfl, rfl⟩
  | some f =>
    refine ⟨clampNat_natCast _ _ _, ?_⟩
    refine (noteIf_eq (p := ¬(85 ≤ f.tw.toNat ∧ f.tw.toNat ≤ 120)) ?_).trans ?_
    · rw [bne_iff_ne, clampNat_natCast]; omega
    · simp only [Option.all_some, decide_eq_true_eq, ite_not]

/-- R178 (2) to (4): a list of up to four candidates, all different and in range. -/
theorem RawConfig.listed_inRange (p : Path) : (r.listed p).Nodup ∧ (r.listed p).length ≤ 4 ∧
    ∀ e ∈ r.listed p, 174000 ≤ e.frequency ∧ e.frequency ≤ 862000 := by
  rw [← candidateList_eq_listed]
  refine ⟨candidateList_nodup, ?_, fun e listed => ?_⟩
  · have counted := notes_candidateList (q := r.candidates.get p)
    have four := List.length_filter_le (fun j => isPresent ((r.candidates.get p).get j)) [0, 1, 2, 3]
    rw [List.length_cons, List.length_cons, List.length_cons, List.length_cons, List.length_nil] at four
    omega
  · obtain ⟨j, entry⟩ := mem_candidateList listed
    obtain ⟨f, w, -, -, low, high, -, rfl⟩ := entryOf_eq_some_iff.mp entry
    exact ⟨low, high⟩

/-- R178 (2), (3): the notes of the lists. -/
theorem RawConfig.notes_listed (p : Path) :
    (candidateList (r.candidates.get p)).2 = r.presentCount p - (r.listed p).length := by
  rw [← candidateList_eq_listed]
  exact Nat.eq_sub_of_add_eq notes_candidateList

theorem RawConfig.candidates_validate (identity : r.identity = some i) (p : Path) :
    r.validate.1.candidates.get p = r.listed p := by
  rw [(RawConfig.validate_of_some identity).1, ← candidateList_eq_listed]
  exact Quad.get_map _ _ _

theorem RawConfig.exists_settled (identity : r.identity = some i) : ∃ g : Settling, g.Settled r r.validate.1 4 ∧
    r.validate.2 = r.threshold.2 + ([0, 1, 2, 3].map fun p => (candidateList (r.candidates.get p)).2).sum
      + g.notes := by
  refine ⟨r.settling i, ?_, (RawConfig.validate_of_some identity).2⟩
  rw [(RawConfig.validate_of_some identity).1]
  exact RawConfig.settled identity _

end Validate

section Final
variable {r : RawConfig} {c : Config} {g : Settling}

theorem Settling.Settled.services_eq (settled : g.Settled r c 4) (k : SlotNo) :
    c.services.get k = r.standing c k := by
  rw [settled.config.1]
  exact settled.stands k k.isLt

/-- A configured slot: its block, and what its tests left it. -/
theorem Settling.Settled.exists_admitted (settled : g.Settled r c 4) {k : SlotNo} {v : ServiceConfig}
    (at_ : c.services.get k = some v) : ∃ f, r.admitted k = some f ∧ r.pathless c k = false ∧
      v.w = max 2 (min f.w.toNat 64) ∧
      ∀ p, v.contributors.get p = (r.names k p && !c.takenBefore k p) := by
  rw [settled.services_eq, RawConfig.standing, Option.bind_eq_some_iff] at at_
  obtain ⟨f, admitted, stands⟩ := at_
  split at stands
  · exact nomatch stands
  next kept =>
    obtain rfl := Option.some.inj stands
    exact ⟨f, admitted, (Bool.or_eq_false_iff.mp (Bool.eq_false_iff.mpr kept)).1, rfl, fun p => Quad.get_tabulate _ p⟩

/-- R180 (1): no path is in two services. -/
theorem Settling.Settled.disjoint (settled : g.Settled r c 4) {j k : SlotNo} {u v : ServiceConfig} (other : j ≠ k)
    (hu : c.services.get j = some u) (hv : c.services.get k = some v) (p : Path) :
    ¬(u.contributors.get p = true ∧ v.contributors.get p = true) := by
  have apart {j k : SlotNo} {u v : ServiceConfig} (earlier : j < k) (hu : c.services.get j = some u)
      (hv : c.services.get k = some v) (inU : u.contributors.get p = true) : ¬ v.contributors.get p = true := by
    obtain ⟨f, -, -, -, has⟩ := settled.exists_admitted hv
    have taken : c.takenBefore k p = true := by
      refine List.any_eq_true.mpr ⟨j, List.mem_filter.mpr ⟨mem_four j, ?_⟩, ?_⟩
      · simp [earlier, hu]
      · simp [hu, inU]
    simp [has, taken]
  rcases lt_or_gt_of_ne other with before | after
  · exact fun ⟨inU, inV⟩ => apart before hu hv inU inV
  · exact fun ⟨inU, inV⟩ => apart after hv hu inV inU

theorem Quad.one_le_count {q : Quad Bool} {p : Fin 4} (has : q.get p = true) : 1 ≤ q.count := by
  obtain ⟨q0, q1, q2, q3⟩ := q
  revert q0 q1 q2 q3 p
  decide

theorem Quad.count_le_three {q : Quad Bool} {p : Fin 4} (lacks : q.get p = false) : q.count ≤ 3 := by
  obtain ⟨q0, q1, q2, q3⟩ := q
  revert q0 q1 q2 q3 p
  decide

/-- R179 (5), R180 (2): a configured slot keeps one to three contributors, one of them with candidates. -/
theorem Settling.Settled.contributors_of_some (settled : g.Settled r c 4) {k : SlotNo} {v : ServiceConfig}
    (at_ : c.services.get k = some v) : (1 ≤ v.contributors.count ∧ v.contributors.count ≤ 3) ∧
      ∃ p, v.contributors.get p = true ∧ c.candidates.get p ≠ [] := by
  obtain ⟨f, admitted, hasPath, -, has⟩ := settled.exists_admitted at_
  have served : ∃ p, v.contributors.get p = true ∧ c.candidates.get p ≠ [] := by
    by_contra! none_
    refine Bool.false_ne_true (hasPath.symm.trans (List.all_eq_true.mpr fun p _ => ?_))
    rw [← has]
    cases stays : v.contributors.get p <;> simp_all
  have lacks : ∃ p, v.contributors.get p = false := by
    by_contra! all
    simp only [ne_eq, Bool.not_eq_false, has, Bool.and_eq_true, RawConfig.names, admitted, Option.any_some] at all
    simpa [(all 0).1.1, (all 1).1.1, (all 2).1.1] using (all 3).1.2
  obtain ⟨q, lacking⟩ := lacks
  obtain ⟨p, stays, listed⟩ := served
  exact ⟨⟨Quad.one_le_count stays, Quad.count_le_three lacking⟩, p, stays, listed⟩

theorem SlotDraft.depth_eq (f : ServiceFields) :
    (draftSlot f).1.depth = match f.depth with | some .d32 => 32 | some .d128 => 128 | _ => 64 := by
  simp only [draftSlot]
  rcases f.depth with _ | d
  · rfl
  · cases d <;> rfl

theorem SlotDraft.depth_mem (f : ServiceFields) :
    (draftSlot f).1.depth = 32 ∨ (draftSlot f).1.depth = 64 ∨ (draftSlot f).1.depth = 128 := by
  rw [SlotDraft.depth_eq]
  split <;> simp

theorem SlotDraft.hold_eq (f : ServiceFields) : (draftSlot f).1.hold = min (10 * f.holdSteps.toNat) 2000 := by
  rw [Nat.mul_comm]; rfl

end Final

/-- Settles O6: each slot of the image stands as its tests and the slots before it leave it, and the rest is read from
that. -/
theorem validationLeavesConfigurationInRange : Obligations.ValidationLeavesConfigurationInRange := by
  intro r c
  have tw : c.tw = _ := RawConfig.tw_validate.trans RawConfig.threshold_eq.1
  have range : 85 ≤ c.tw ∧ c.tw ≤ 120 := by
    rw [tw]
    cases r.station with
    | none => decide
    | some f => simp only [Option.map_some, Option.getD_some]; omega
  cases identity : r.identity with
  | none =>
    have empty : c = { Config.reset with tw := c.tw } := by
      show r.validate.1 = { Config.reset with tw := r.validate.1.tw }
      rw [RawConfig.validate_of_none identity]
    have noSlot (k : SlotNo) : c.services.get k = none := by rw [empty]; exact Quad.get_fill _ k
    have noPort (x : Port) : c.ports.get x = none := by rw [empty]; exact Quad.get_fill _ x
    have noPath (p : Path) : c.candidates.get p = [] := by rw [empty]; exact Quad.get_fill _ p
    refine ⟨tw, fun _ => empty, fun some_ => absurd rfl some_, ?_, range, fun p => ?_, fun k v at_ => ?_, fun x q at_ =>
      ?_⟩
    · rw [RawConfig.validate_of_none identity, RawConfig.threshold_eq.2]; rfl
    · rw [noPath]; simp
    · rw [noSlot] at at_; exact nomatch at_
    · rw [noPort] at at_; exact nomatch at_
  | some i =>
    obtain ⟨g, settled, notes⟩ := RawConfig.exists_settled identity
    have settled : g.Settled r c 4 := settled
    have listed (p : Path) : c.candidates.get p = r.listed p := RawConfig.candidates_validate identity p
    refine ⟨tw, nofun, fun _ => ⟨listed, fun k none_ => ?_, fun k f admitted => ?_, fun x => ?_,
      fun k f v x admitted at_ names => ?_⟩, ?_, range, fun p => ?_, fun k v at_ => ?_, fun x q at_ => ?_⟩
    · rw [settled.services_eq, RawConfig.standing, none_]; rfl
    · rw [settled.services_eq, RawConfig.standing, admitted]; rfl
    · rw [settled.config.1, settled.config.2]
      constructor
      · intro none_ k v at_ names
        obtain ⟨q, bound, -⟩ := settled.bound k v x at_ names
        rw [none_] at bound
        exact nomatch bound
      · intro nameless
        refine Option.eq_none_iff_forall_ne_some.mpr fun q at_ => ?_
        obtain ⟨f, v, -, stands, names, -⟩ := settled.ports x q at_
        exact nameless q.slot v stands names
    · rw [settled.config.1] at at_
      obtain ⟨q, bound, rfl⟩ := settled.bound k v x at_ names
      obtain ⟨e, -, he, -, -, -, whole⟩ := settled.ports x q bound
      obtain rfl := Option.some.inj (he.symm.trans admitted)
      rw [settled.config.2, bound, whole, SlotDraft.depth_eq, SlotDraft.hold_eq]
      rfl
    · rw [notes, settled.notes, RawConfig.threshold_eq.2, if_neg (Option.some_ne_none i), Nat.add_assoc]
      simp only [RawConfig.notes_listed]
      rfl
    · rw [listed]; exact RawConfig.listed_inRange p
    · have ⟨count, served⟩ := settled.contributors_of_some at_
      obtain ⟨f, -, -, w, -⟩ := settled.exists_admitted at_
      refine ⟨by omega, count, served, fun j u other hu => settled.disjoint other hu at_, fun x names => ?_⟩
      rw [settled.config.1] at at_
      rw [settled.config.2]
      exact settled.bound k v x at_ names
    · rw [settled.config.2] at at_
      obtain ⟨f, v, -, stands, names, -, whole⟩ := settled.ports x q at_
      have depth : q.depth = (draftSlot f).1.depth := congrArg PortConfig.depth whole
      have hold : q.hold = (draftSlot f).1.hold := congrArg PortConfig.hold whole
      rw [depth, hold, SlotDraft.hold_eq, settled.config.1, settled.config.2]
      exact ⟨SlotDraft.depth_mem f, min_le_right _ _, by omega, ⟨v, stands, names⟩,
        fun y z other hz => settled.apart x q y z at_ hz other⟩

end Sys2Proof.Machine
end

section
namespace Sys2Proof.Machine

theorem placeRelease_withFitness (t : State) (f : FitnessUnit) (x : Port) (r : ReleaseReason) :
    placeRelease { t with fitness := f } x r = { placeRelease t x r with fitness := f } := by
  cases bound : t.portConfig x with
  | none => simp [placeRelease, placeLane, State.portConfig] at bound ⊢; rw [bound]
  | some c => simp [placeRelease, placeLane, State.portConfig] at bound ⊢; rw [bound]; rfl

theorem withdrawClaim_withFitness (t : State) (f : FitnessUnit) (x : Port) (l : LaneState) :
    withdrawClaim { t with fitness := f } x l = { withdrawClaim t x l with fitness := f } := by
  simp only [withdrawClaim, withdrawFrame]
  split
  · split <;> rfl
  · rfl

theorem unfitPort_withFitness (s : State) (f : FitnessUnit) (x : Port) :
    unfitPort { s with fitness := f } x = { unfitPort s x with fitness := f } := by
  have released (r : ReleaseReason) :
      placeRelease (standDown { s with fitness := f } x .disabled) x r =
        { placeRelease (standDown s x .disabled) x r with fitness := f } := placeRelease_withFitness
          (standDown s x .disabled) f x r
  have same : ({ s with fitness := f } : State).elect x = s.elect x := rfl
  simp only [unfitPort, released, withdrawClaim_withFitness, same]
  split <;> try split
  all_goals rfl

theorem electionUnfit_withFitness (s : State) (f : FitnessUnit) :
    electionUnfit { s with fitness := f } = { electionUnfit s with fitness := f } := by
  have each (xs : List Port) : ∀ t : State,
      xs.foldl unfitPort { t with fitness := f } = { xs.foldl unfitPort t with fitness := f } := by
    induction xs with
    | nil => exact fun t => rfl
    | cons x xs ih => exact fun t => by rw [List.foldl_cons, unfitPort_withFitness, ih, List.foldl_cons]
  exact each four s

theorem State.elect_updElect (s : State) (x y : Port) (f : PortElection → PortElection) :
    (s.updElect x f).elect y = if y = x then f (s.elect x) else s.elect y := by
  split
  next here => rw [here, State.elect_updElect_self]
  next other => exact State.elect_updElect_of_ne s f other

theorem elect_placeRelease (s : State) (x y : Port) (r : ReleaseReason) :
    (placeRelease s x r).elect y = s.elect y := by
  obtain ⟨l, same⟩ := placeRelease_only s x r
  rw [same]; rfl

theorem lane_unfitPort (s : State) (x y : Port) :
    ((unfitPort s x).elect y).lane = if y = x then .disabled else (s.elect y).lane := by
  have moved (t : State) (f : PortElection → PortElection) (lane : ∀ e, (f e).lane = .disabled)
      (same : (t.elect y).lane = (s.elect y).lane) :
      ((t.updElect x f).elect y).lane = if y = x then .disabled else (s.elect y).lane := by
    rw [State.elect_updElect]
    split
    · exact lane _
    · exact same
  have drives : ((if (s.elect x).mark = some .restart then
        (placeRelease (standDown s x .disabled) x .restart).updElect x fun e => { e with releaseOut := true }
      else placeRelease (standDown s x .disabled) x .unfit).elect y).lane =
      if y = x then .disabled else (s.elect y).lane := by
    have down : ((standDown s x .disabled).elect y).lane = if y = x then .disabled else (s.elect y).lane :=
      moved s _ (fun _ => rfl) rfl
    split
    · by_cases here : y = x
      · subst here
        rw [State.elect_updElect_self, elect_placeRelease]
        exact down
      · rw [State.elect_updElect_of_ne _ _ here, elect_placeRelease]
        exact down
    · rw [elect_placeRelease]
      exact down
  unfold unfitPort
  dsimp only
  split
  · exact drives
  · exact drives
  · exact moved _ _ (fun _ => rfl) (withdrawFrame_lanes s x y).1
  · exact moved s _ (fun _ => rfl) rfl

/-- UNFIT disables every port (R141). -/
theorem lane_electionUnfit (s : State) (x : Port) : ((electionUnfit s).elect x).lane = .disabled := by
  simp only [electionUnfit, four, List.foldl_cons, List.foldl_nil, lane_unfitPort]
  have listed : x = 3 ∨ x = 2 ∨ x = 1 ∨ x = 0 := by revert x; decide
  obtain rfl | rfl | rfl | rfl := listed <;> rfl

end Sys2Proof.Machine
end

section
/-!
The lane side in SHUTDOWN (R118, R143): with no frame pending or in flight, nothing received and every port DISABLED,
no command of ports, election unit or line brings any of it back.
-/
namespace Sys2Proof.Machine

/-- What SHUTDOWN leaves on the lane side: the line's and the election unit's part of `quietInShutdown`. -/
def State.quietLine (s : State) : Prop :=
  s.thermal.shutdown = true ∧ s.line.slots = .empty ∧ s.line.flight = none ∧ s.line.reception = .off ∧
    ∀ x, (s.elect x).lane = .disabled

/-- A step of the lane side, which keeps it quiet in SHUTDOWN. -/
def State.StaysQuiet (s t : State) : Prop := s.quietLine → t.quietLine

section Quiet
variable {s t : State}

theorem State.StaysQuiet.refl (s : State) : s.StaysQuiet s := id

/-- What leaves the thermal controller, the line and the election unit alone. -/
theorem State.StaysQuiet.of_same (thermal : t.thermal = s.thermal) (line : t.line = s.line)
    (election : t.election = s.election) : s.StaysQuiet t := by
  have lane (x : Port) : t.elect x = s.elect x := congrArg (fun v : ElectionUnit => v.ports.get x) election
  intro quiet
  unfold State.quietLine
  simp only [thermal, line, lane]
  exact quiet

theorem State.StaysQuiet.of_working (works : s.working = true) : s.StaysQuiet t := by
  intro quiet
  obtain ⟨shut, -⟩ := quiet
  simp [State.working, shut] at works

theorem State.quietLine.working (quiet : s.quietLine) : s.working = false := by
  obtain ⟨shut, -⟩ := quiet
  simp [State.working, shut]

theorem State.quietLine.tracksLine (quiet : s.quietLine) : s.tracksLine = false := by
  obtain ⟨shut, -⟩ := quiet
  simp [State.tracksLine, shut]

theorem trySend_of_not_working (idle : s.working = false) : trySend s = s := by
  unfold trySend
  rw [if_neg (by rw [idle]; exact fun both => Bool.false_ne_true both.1)]

theorem staysQuiet_trySend (s : State) : s.StaysQuiet (trySend s) := fun quiet => by
  rw [trySend_of_not_working quiet.working]; exact quiet

theorem takeHeard_of_not_working (idle : s.working = false) (f : Fin 16 → Bool) : s.takeHeard f = none := by
  unfold State.takeHeard
  rw [if_neg (by rw [idle]; exact Bool.false_ne_true)]

/-! ### Ports and election unit -/

/-- A command that takes the front of a queue of the port, and nothing more in SHUTDOWN. -/
theorem staysQuiet_execFinishedNotice (x : Port) (s : State) : Answers s.StaysQuiet (execFinishedNotice x s) := by
  unfold execFinishedNotice
  split
  next t taken =>
    have same : s.StaysQuiet t := by
      unfold State.takeNotice at taken
      split at taken
      · cases taken; exact .of_same rfl rfl rfl
      · cases taken
    split
    · exact answers_next.mpr same
    next awake =>
      have never {u : State} : s.StaysQuiet u := fun quiet => absurd (same quiet).1 awake
      split
      · exact answers_next.mpr never
      · exact answers_next.mpr never
      · exact answers_next.mpr never
  · exact answers_next.mpr (.refl s)

theorem staysQuiet_execContentionNotice (x : Port) (s : State) : Answers s.StaysQuiet (execContentionNotice x s) := by
  unfold execContentionNotice
  split
  next t taken =>
    have same : s.StaysQuiet t := by
      unfold State.takeNotice at taken
      split at taken
      · cases taken; exact .of_same rfl rfl rfl
      · cases taken
    split
    · exact answers_next.mpr same
    next awake =>
      have never {u : State} : s.StaysQuiet u := fun quiet => absurd (.inl (same quiet).1) awake
      split
      · exact answers_next.mpr never
      · exact answers_next.mpr never
  · exact answers_next.mpr (.refl s)

theorem staysQuiet_execElectionServiceStateSignal (x : Port) (s : State) :
    Answers s.StaysQuiet (execElectionServiceStateSignal x s) := by
  unfold execElectionServiceStateSignal
  split
  · extract_lets t
    split
    · exact answers_next.mpr (.of_same rfl rfl rfl)
    next awake => exact answers_next.mpr fun quiet => absurd quiet.1 awake
  · exact answers_next.mpr (.refl s)

theorem staysQuiet_execLaneActivitySignal (x : Port) (s : State) :
    Answers s.StaysQuiet (execLaneActivitySignal x s) := by
  unfold execLaneActivitySignal
  split
  · extract_lets t
    split
    · exact answers_next.mpr (.of_same rfl rfl rfl)
    next awake => exact answers_next.mpr fun quiet => absurd quiet.1 awake
  · exact answers_next.mpr (.refl s)

/-- A command that acts on a port which is not DISABLED. -/
theorem staysQuiet_of_lane {x : Port} {l : LaneState} (lane : (s.elect x).lane = l) (other : l ≠ .disabled) :
    s.StaysQuiet t := fun ⟨_, _, _, _, disabled⟩ => absurd (lane.symm.trans (disabled x)) other

theorem staysQuiet_execSettleTimerExpiry (x : Port) (s : State) : Answers s.StaysQuiet (execSettleTimerExpiry x s) := by
  unfold execSettleTimerExpiry
  split
  next claims _ =>
    extract_lets t
    split
    · exact answers_next.mpr (staysQuiet_of_lane claims nofun)
    · exact answers_next.mpr (staysQuiet_of_lane claims nofun)
  · exact answers_next.mpr (.refl s)

theorem staysQuiet_execYieldWaitExpiry (x : Port) (s : State) : Answers s.StaysQuiet (execYieldWaitExpiry x s) := by
  unfold execYieldWaitExpiry
  split
  next claims _ =>
    split
    · exact answers_next.mpr (staysQuiet_of_lane claims nofun)
    · exact answers_next.mpr (staysQuiet_of_lane claims nofun)
  · exact answers_next.mpr (.refl s)

theorem staysQuiet_execHoldTimerExpiry (x : Port) (s : State) : Answers s.StaysQuiet (execHoldTimerExpiry x s) := by
  unfold execHoldTimerExpiry
  split
  next holds _ _ => exact answers_next.mpr (staysQuiet_of_lane holds nofun)
  · exact answers_next.mpr (.refl s)

theorem staysQuiet_execDueEvent (x : Port) (s : State) : Answers s.StaysQuiet (execDueEvent x s) := by
  unfold execDueEvent
  split
  · extract_lets ended placed t u
    have placedQuiet : s.StaysQuiet placed := by
      refine iteInduction (motive := s.StaysQuiet) (fun admits => ?_) fun _ => .of_same rfl rfl rfl
      refine staysQuiet_of_lane (x := x) (l := .claiming) ?_ nofun
      change (s.elect x).admissible = true at admits
      unfold PortElection.admissible at admits
      simp only [Bool.and_eq_true, beq_iff_eq] at admits
      exact admits.1.1
    have offered (a : State) (same : a.thermal = placed.thermal ∧ a.line = placed.line ∧ a.election = placed.election) :
        s.StaysQuiet a := fun quiet => State.StaysQuiet.of_same same.1 same.2.1 same.2.2 (placedQuiet quiet)
    have monitor (a : State) (src : MonitorSource) (q : Packet) :
        (a.offerFrom src q).thermal = a.thermal ∧ (a.offerFrom src q).line = a.line ∧
          (a.offerFrom src q).election = a.election := by
      unfold State.offerFrom
      split <;> exact ⟨rfl, rfl, rfl⟩
    clear_value placed
    split
    · exact answers_next.mpr (offered _ (monitor ..))
    · split
      · exact answers_next.mpr (offered _ (monitor ..))
      · exact answers_next.mpr (offered _ ⟨rfl, rfl, rfl⟩)
  · exact answers_next.mpr (.refl s)

/-- The ports' own commands leave line and election unit alone. -/
theorem staysQuiet_execPortServiceStateSignal (x : Port) (s : State) :
    Answers s.StaysQuiet (execPortServiceStateSignal x s) := by
  unfold execPortServiceStateSignal
  split
  · extract_lets t
    split
    · exact answers_next.mpr (.of_same rfl rfl rfl)
    · exact answers_next.mpr (.of_same rfl rfl rfl)
  · exact answers_next.mpr (.refl s)

theorem staysQuiet_execPacketSeen (x : Port) (s : State) : Answers s.StaysQuiet (execPacketSeen x s) := by
  unfold execPacketSeen
  split
  · exact answers_next.mpr (.of_same rfl rfl rfl)
  · exact answers_next.mpr (.refl s)

theorem staysQuiet_execActivityTimerExpiry (x : Port) (s : State) :
    Answers s.StaysQuiet (execActivityTimerExpiry x s) := by
  unfold execActivityTimerExpiry
  split
  · exact answers_next.mpr (.of_same rfl rfl rfl)
  · exact answers_next.mpr (.refl s)

theorem staysQuiet_execReadbackComparison (x : Port) (read : Header) (starts : Quad Bool) (s : State) :
    Answers s.StaysQuiet (execReadbackComparison x read starts s) := by
  unfold execReadbackComparison
  split
  · split
    · exact answers_next.mpr (.of_same rfl rfl rfl)
    · exact answers_next.mpr (.refl s)
  · exact answers_next.mpr (.refl s)

theorem staysQuiet_execPacketEnd (x : Port) (s : State) : Answers s.StaysQuiet (execPacketEnd x s) :=
  answers_next.mpr (.of_same rfl rfl rfl)

theorem staysQuiet_execMonitorPacketEnd (s : State) : Answers s.StaysQuiet (execMonitorPacketEnd s) :=
  answers_next.mpr (.of_same rfl rfl rfl)

/-- Back-off alone moves a port at an interval end (R140), and a DISABLED port has none. -/
theorem staysQuiet_ageOnInterval (s : State) : s.StaysQuiet (ageOnInterval s) := by
  rintro ⟨shut, slots, flight, reception, lanes⟩
  unfold ageOnInterval
  extract_lets _ aged
  have agedLane (x : Port) : (aged.elect x).lane = .disabled := by
    have counted : aged.elect x = (s.elect x).countBackoff := Quad.get_map ..
    rw [counted]
    unfold PortElection.countBackoff
    rw [if_neg (by rw [lanes x]; decide)]
    exact lanes x
  have quiet : aged.quietLine := ⟨shut, slots, flight, reception, agedLane⟩
  clear_value aged
  split
  · obtain ⟨shut, slots, flight, reception, lanes⟩ := quiet
    exact ⟨shut, slots, flight, reception, fun x => (lane_refreshConflicts _ x).trans (lanes x)⟩
  · exact quiet

/-! ### Line -/

theorem staysQuiet_execFallingEdge (sample : Bool) (s : State) : Answers s.StaysQuiet (execFallingEdge sample s) := by
  unfold execFallingEdge
  split
  next tracks =>
    have never {t : State} : s.StaysQuiet t := fun quiet => absurd tracks (Bool.eq_false_iff.mp quiet.tracksLine)
    split <;> exact answers_next.mpr never
  · exact answers_next.mpr (.refl s)

theorem staysQuiet_execLineIdle (s : State) : Answers s.StaysQuiet (execLineIdle s) := by
  unfold execLineIdle
  split
  next tracks => exact answers_next.mpr fun quiet => absurd tracks.1 (Bool.eq_false_iff.mp quiet.tracksLine)
  · exact answers_next.mpr (.refl s)

theorem staysQuiet_execLineStuck (s : State) : Answers s.StaysQuiet (execLineStuck s) := by
  unfold execLineStuck
  split
  next tracks => exact answers_next.mpr fun quiet => absurd tracks.1 (Bool.eq_false_iff.mp quiet.tracksLine)
  · exact answers_next.mpr (.refl s)

theorem staysQuiet_loseWhere (s : State) (cell : Nat) (sent : Bool) : s.StaysQuiet (loseWhere s cell sent) := by
  intro quiet
  have idle : s.line.sending = none := by
    obtain ⟨-, -, flight, -⟩ := quiet
    rw [LineUnit.sending, flight]
  unfold loseWhere
  rw [idle]
  exact quiet

theorem staysQuiet_execFrameLeavesLine (s : State) : Answers s.StaysQuiet (execFrameLeavesLine s) := by
  unfold execFrameLeavesLine
  split
  next f sends =>
    have never {t : State} : s.StaysQuiet t := fun ⟨_, _, flight, _⟩ =>
      (Option.some_ne_none _ (sends.symm.trans flight)).elim
    split
    · exact answers_next.mpr never
    · exact answers_next.mpr (.refl s)
  · exact answers_next.mpr (.refl s)

/-! ### Frames heard -/

theorem staysQuiet_takePeerFrame (s : State) (kind : Fin 16) (act : State → Frame → State) :
    s.StaysQuiet (takePeerFrame s kind act) := fun quiet => by
  unfold takePeerFrame
  rw [takeHeard_of_not_working quiet.working]
  exact quiet

theorem staysQuiet_takeAddressed (s : State) (kind : Fin 16) (act : State → Frame → State) :
    s.StaysQuiet (takeAddressed s kind act) := fun quiet => by
  unfold takeAddressed
  rw [takeHeard_of_not_working quiet.working]
  exact quiet

theorem staysQuiet_takeUnread (s : State) (kinds : Fin 16 → Bool) : s.StaysQuiet (takeUnread s kinds) := fun quiet => by
  unfold takeUnread
  rw [takeHeard_of_not_working quiet.working]
  exact quiet

end Quiet

end Sys2Proof.Machine
end

section
/-!
What every step keeps (chapter-wide laws, O57 to O60): a predicate is kept by every command once it is kept by the path
events, by the lane side, by the merge unit's commands and by the parts of an interval end and of a start.
-/
namespace Sys2Proof.Machine

/-! ### The thermal controller's exchange (R163 to R168) -/

/-- What the thermal controller changes outside its shutdown, and what it keeps. -/
structure State.ThermalStep (s t : State) : Prop where
  ranges : s.thermal.spacing ≤ 4 ∧ s.thermal.cool ≤ 7 ∧ s.thermal.recovery ≤ 19 ∧
      (-40 ≤ s.thermal.reading ∧ s.thermal.reading ≤ 150) →
    t.thermal.spacing ≤ 4 ∧ t.thermal.cool ≤ 7 ∧ t.thermal.recovery ≤ 19 ∧
      (-40 ≤ t.thermal.reading ∧ t.thermal.reading ≤ 150)
  stack : s.contributorLaw → s.timerWhenStarted → s.stackLaw → t.stackLaw
  rest : t = { s with
    requests := t.requests, answers := t.answers
    thermal := { t.thermal with shutdown := s.thermal.shutdown }
    fitness := { s.fitness with faults := t.fitness.faults } }

section Thermal
variable {s : State}

theorem State.ThermalStep.refl (s : State) : s.ThermalStep s := ⟨id, fun _ _ => id, rfl⟩

/-- An answer is taken that settles nothing: in SHUTDOWN there is no exchange. -/
theorem thermalStep_answers {l : List Answer} (stack : s.stackLaw → ({ s with answers := l } : State).stackLaw) :
    s.ThermalStep { s with answers := l } := ⟨id, fun _ _ => stack, rfl⟩

theorem stackLaw_of_shutdown {l : List Answer} (shut : s.thermal.shutdown = true) (law : s.stackLaw) :
    ({ s with answers := l } : State).stackLaw := by
  obtain ⟨short, distinct, parked, stopped, -⟩ := law
  exact ⟨short, distinct, parked, stopped, fun awake => absurd (shut.symm.trans awake) (by decide)⟩

/-- The exchange of a working controller that has no request outstanding. -/
theorem State.stackLaw.exchange (law : s.stackLaw) (awake : s.thermal.shutdown = false) : s.exchangeLaw :=
  law.2.2.2.2 awake

theorem State.exchangeLaw_of_none (law : s.exchangeLaw) (free : s.thermal.outstanding = none) :
    s.requests = [] ∧ s.answers = [] ∧ ∀ p, ¬ s.stopsAfterCascade p := by
  rw [State.exchangeLaw, free] at law
  exact law

/-- The answer that waits at a working controller is one to its outstanding request (R165, R168). -/
theorem State.exchangeLaw_of_answer {a : Answer} {l : List Answer} (law : s.exchangeLaw) (waits : s.answers = a :: l) :
    (∃ p, s.thermal.outstanding = some (.park p) ∧ p ∉ s.thermal.stack ∧ s.requests = [] ∧ l = [] ∧
      (∀ q, ¬ s.stopsAfterCascade q) ∧ (a = .parked p ∧ s.parkedOut p ∨ a = .parkRefused p)) ∨
    ∃ p, s.thermal.outstanding = some (.unpark p) ∧ p ∉ s.thermal.stack ∧ s.requests = [] ∧ l = [] ∧
      (∀ q, ¬ s.stopsAfterCascade q) ∧ (a = .unparked p ∨ a = .unparkRefused p) := by
  unfold State.exchangeLaw at law
  split at law
  · obtain ⟨-, none_, -⟩ := law
    exact absurd (none_.symm.trans waits) (List.cons_ne_nil _ _).symm
  next p out =>
    obtain ⟨off, ⟨-, none_, -⟩ | ⟨-, none_, -⟩ | ⟨idle, one, outside, still⟩ | ⟨idle, one, still⟩⟩ := law
    · exact absurd (none_.symm.trans waits) (List.cons_ne_nil _ _).symm
    · exact absurd (none_.symm.trans waits) (List.cons_ne_nil _ _).symm
    · obtain ⟨rfl, rfl⟩ := List.cons.inj (waits.symm.trans one)
      exact .inl ⟨p, out, off, idle, rfl, still, .inl ⟨rfl, outside⟩⟩
    · obtain ⟨rfl, rfl⟩ := List.cons.inj (waits.symm.trans one)
      exact .inl ⟨p, out, off, idle, rfl, still, .inr rfl⟩
  next p out =>
    obtain ⟨off, still, ⟨-, none_⟩ | ⟨idle, one | one⟩⟩ := law
    · exact absurd (none_.symm.trans waits) (List.cons_ne_nil _ _).symm
    · obtain ⟨rfl, rfl⟩ := List.cons.inj (waits.symm.trans one)
      exact .inr ⟨p, out, off, idle, rfl, still, .inl rfl⟩
    · obtain ⟨rfl, rfl⟩ := List.cons.inj (waits.symm.trans one)
      exact .inr ⟨p, out, off, idle, rfl, still, .inr rfl⟩

/-- The outstanding request is settled by an answer that pushes nothing. -/
theorem stackLaw_settled (law : s.stackLaw) (awake : s.thermal.shutdown = false) {a : Answer} {l : List Answer}
    (waits : s.answers = a :: l) :
    ({ s with answers := l, thermal := { s.thermal with outstanding := none } } : State).stackLaw := by
  have settled : s.requests = [] ∧ l = [] ∧ ∀ q, ¬ s.stopsAfterCascade q := by
    obtain ⟨p, -, -, idle, rest, still, -⟩ | ⟨p, -, -, idle, rest, still, -⟩ :=
      State.exchangeLaw_of_answer (law.exchange awake) waits
    · exact ⟨idle, rest, still⟩
    · exact ⟨idle, rest, still⟩
  obtain ⟨short, distinct, parked, stopped, -⟩ := law
  exact ⟨short, distinct, parked, fun idle => ⟨(stopped idle).1, rfl⟩, fun _ => settled⟩

/-- With every path out of its service no configured service would have a contributor (R56): a further path fits on
the stack. -/
theorem length_stack_le_of_parkedOut {p : Path} (contributors : s.contributorLaw) (law : s.stackLaw)
    (outside : s.parkedOut p) (off : p ∉ s.thermal.stack) : s.thermal.stack.length ≤ 2 := by
  by_contra! full
  obtain ⟨-, distinct, parked, -⟩ := law
  have whole : (p :: s.thermal.stack).Nodup := List.nodup_cons.mpr ⟨off, distinct⟩
  have all (q : Path) : q ∈ p :: s.thermal.stack := by
    have card : (p :: s.thermal.stack).toFinset = Finset.univ := by
      refine Finset.eq_univ_of_card _ (le_antisymm (Finset.card_le_univ _) ?_)
      rw [List.toFinset_card_of_nodup whole, List.length_cons, Fintype.card_fin]
      omega
    exact List.mem_toFinset.mp (card ▸ Finset.mem_univ q)
  obtain ⟨k, c, configured, -⟩ := outside.2
  obtain ⟨⟨q, contributes⟩, -⟩ := contributors k c configured
  have out : s.parkedOut q := by
    rcases List.mem_cons.mp (all q) with rfl | stacked
    · exact outside
    · exact (parked q stacked).2.1
  exact Bool.false_ne_true ((out.1 k (by rw [configured]; rfl)).symm.trans contributes)

theorem PathUnit.stopAwaited_eq_false {u : PathUnit} (taken : u.stopAwaited = false) :
    u.state = .parked ∧ PathOrder.unpark ∉ u.inbox := by
  obtain ⟨parked, none_⟩ := Bool.or_eq_false_iff.mp taken
  refine ⟨by simpa using parked, fun waits => ?_⟩
  exact absurd (List.any_eq_false.mp none_ _ waits) (by decide)

theorem thermalStep_execParkAcknowledgement (s : State) : Answers s.ThermalStep (execParkAcknowledgement s) := by
  unfold execParkAcknowledgement
  split
  next p l waits =>
    split
    next shut => exact answers_next.mpr (thermalStep_answers (stackLaw_of_shutdown shut))
    next awake =>
      have awake := Bool.eq_false_iff.mpr awake
      split
      · exact answers_next.mpr (.refl s)
      next taken =>
        have taken := PathUnit.stopAwaited_eq_false (Bool.eq_false_iff.mpr taken)
        split
        next out =>
          refine answers_next.mpr ⟨fun ⟨spacing, _, rest⟩ => ⟨spacing, Nat.zero_le 7, rest⟩, fun contributors _ law =>
            ?_, ?_⟩
          · obtain ⟨q, same, off, idle, rfl, still, named⟩ | ⟨q, other, -⟩ :=
              State.exchangeLaw_of_answer (law.exchange awake) waits
            · obtain rfl := Request.park.inj (Option.some.inj (out.symm.trans same))
              have outside : s.parkedOut p := by
                obtain ⟨-, outside⟩ | named := named
                · exact outside
                · exact nomatch named
              have room := length_stack_le_of_parkedOut contributors law outside off
              obtain ⟨-, distinct, parked, stopped, -⟩ := law
              refine ⟨Nat.succ_le_succ room, List.nodup_cons.mpr ⟨off, distinct⟩, fun r stacked => ?_, fun rests => ?_,
                fun _ => ⟨idle, rfl, still⟩⟩
              · rcases List.mem_cons.mp stacked with rfl | below
                · exact ⟨taken.1, outside, taken.2⟩
                · exact parked r below
              · exact absurd (out.symm.trans (stopped rests).2) (Option.some_ne_none _)
            · exact nomatch out.symm.trans other
          · simp only [pushParked]
            split <;> rfl
        next other =>
          refine answers_next.mpr (thermalStep_answers fun law => ?_)
          obtain ⟨q, same, -, -, -, -, ⟨named, -⟩ | named⟩ | ⟨q, -, -, -, -, -, named | named⟩ :=
            State.exchangeLaw_of_answer (law.exchange awake) waits
          · cases named
            exact absurd same other
          all_goals exact nomatch named
  · exact answers_next.mpr (.refl s)

theorem thermalStep_execParkRefusal (s : State) : Answers s.ThermalStep (execParkRefusal s) := by
  unfold execParkRefusal
  split
  next p l waits =>
    dsimp only
    split
    next settles => exact answers_next.mpr ⟨id, fun _ _ law => stackLaw_settled law settles.1 waits, rfl⟩
    next stays =>
      refine answers_next.mpr (thermalStep_answers fun law => ?_)
      cases awake : s.thermal.shutdown with
      | true => exact stackLaw_of_shutdown awake law
      | false =>
        obtain ⟨q, same, -, -, -, -, ⟨named, -⟩ | named⟩ | ⟨q, -, -, -, -, -, named | named⟩ :=
          State.exchangeLaw_of_answer (law.exchange awake) waits
        case false.inl.inr =>
          cases named
          exact absurd ⟨awake, same⟩ stays
        all_goals exact nomatch named
  · exact answers_next.mpr (.refl s)

theorem thermalStep_execUnparkAcknowledgement (s : State) : Answers s.ThermalStep (execUnparkAcknowledgement s) := by
  unfold execUnparkAcknowledgement
  split
  next a l waits =>
    split
    next p names =>
      dsimp only
      split
      next settles => exact answers_next.mpr ⟨id, fun _ _ law => stackLaw_settled law settles.1 waits, rfl⟩
      next stays =>
        refine answers_next.mpr (thermalStep_answers fun law => ?_)
        cases awake : s.thermal.shutdown with
        | true => exact stackLaw_of_shutdown awake law
        | false =>
          obtain ⟨q, -, -, -, -, -, ⟨rfl, -⟩ | rfl⟩ | ⟨q, same, -, -, -, -, rfl | rfl⟩ :=
            State.exchangeLaw_of_answer (law.exchange awake) waits
          case false.inl.inl => exact nomatch names
          case false.inl.inr => exact nomatch names
          all_goals
            cases names
            exact absurd ⟨awake, same⟩ stays
    · exact answers_next.mpr (.refl s)
  · exact answers_next.mpr (.refl s)

theorem State.ThermalStep.trans {t u : State} (first : s.ThermalStep t) (second : t.ThermalStep u) :
    s.ThermalStep u where
  ranges := second.ranges ∘ first.ranges
  stack contributors timer law := by
    refine second.stack ?_ ?_ (first.stack contributors timer law)
    · rw [first.rest]; exact contributors
    · rw [first.rest]; exact timer
  rest := by
    have step := second.rest
    rw [first.rest] at step
    exact step

/-- A count or a reading of the thermal controller. -/
theorem thermalStep_counts {spacing cool recovery : Nat} {reading : Int}
    (ranges : s.thermal.spacing ≤ 4 ∧ s.thermal.cool ≤ 7 ∧ s.thermal.recovery ≤ 19 ∧
        (-40 ≤ s.thermal.reading ∧ s.thermal.reading ≤ 150) →
      spacing ≤ 4 ∧ cool ≤ 7 ∧ recovery ≤ 19 ∧ (-40 ≤ reading ∧ reading ≤ 150)) :
    s.ThermalStep { s with
      thermal := { s.thermal with spacing := spacing, cool := cool, recovery := recovery, reading := reading } } :=
  ⟨ranges, fun _ _ => id, rfl⟩

theorem thermalStep_unparkTop {p : Path} {rest : List Path} (stacked : s.thermal.stack = p :: rest)
    (free : s.thermal.outstanding = none) (awake : s.thermal.shutdown = false) :
      s.ThermalStep (unparkTop s p rest) := by
  refine ⟨fun ⟨spacing, _, others⟩ => ⟨spacing, Nat.zero_le 7, others⟩, fun _ _ law => ?_, ?_⟩
  · obtain ⟨idle, unanswered, still⟩ := State.exchangeLaw_of_none (law.exchange awake) free
    obtain ⟨short, distinct, parked, stopped, -⟩ := law
    rw [stacked] at short distinct
    obtain ⟨off, distinct⟩ := List.nodup_cons.mp distinct
    refine ⟨Nat.le_of_succ_le short, distinct, fun q below => parked q (stacked ▸ List.mem_cons_of_mem _ below),
      fun rests => ?_, fun _ => ⟨off, still, .inl ⟨?_, unanswered⟩⟩⟩
    · exact absurd (stacked.symm.trans (stopped rests).1) (List.cons_ne_nil _ _)
    · simp only [unparkTop, idle, List.nil_append]
  · simp only [unparkTop]
    split <;> rfl

theorem thermalStep_coolTest (free : s.thermal.outstanding = none) (awake : s.thermal.shutdown = false) :
    s.ThermalStep (coolTest s) := by
  have cleared : s.ThermalStep { s with thermal := { s.thermal with cool := 0 } } :=
    thermalStep_counts fun ⟨spacing, _, others⟩ => ⟨spacing, Nat.zero_le 7, others⟩
  unfold coolTest
  split
  · exact cleared
  next p rest stacked =>
    split
    · split
      · exact thermalStep_unparkTop stacked free awake
      next few => exact thermalStep_counts fun ⟨spacing, _, others⟩ => ⟨spacing, by omega, others⟩
    · exact cleared

/-- R164: the path to park is a contributor of a configured service. -/
theorem State.exists_of_pathToPark {p : Path} (found : s.pathToPark = some p) :
    ∃ k, (s.slotConfig k).isSome = true ∧ (s.service k).contributors.get p = true := by
  obtain ⟨k, -, named⟩ := Option.bind_eq_some_iff.mp found
  obtain ⟨c, configured, lowest⟩ := Option.bind_eq_some_iff.mp named
  exact ⟨k, by rw [configured]; rfl, (lowestPriority_spec lowest).1⟩

theorem thermalStep_tests (running : s.interval.running = true) (free : s.thermal.outstanding = none)
    (awake : s.thermal.shutdown = false) : s.ThermalStep (coolTest (shedTest s)) := by
  by_cases fails : s.shedTestFails s.thermal.reading
  · have shed : s.ThermalStep (shedTest s) := by
      rw [shedTest_of_fails fails]
      exact thermalStep_counts fun ⟨_, others⟩ => ⟨min_le_left .., others⟩
    rw [shedTest_of_fails fails] at shed ⊢
    exact shed.trans (thermalStep_coolTest free awake)
  · obtain ⟨hot, spaced, found⟩ : ¬ s.thermal.reading < s.config.tw ∧ s.thermal.spacing = 4 ∧ s.pathToPark ≠ none := by
      simpa only [State.shedTestFails, not_or, not_not] using fails
    obtain ⟨p, found⟩ := Option.ne_none_iff_exists'.mp found
    rw [shedTest_of_pathToPark (not_lt.mp hot) spaced found, coolTest_of_warm (.inr (by dsimp only; omega))]
    refine ⟨fun ⟨_, _, others⟩ => ⟨Nat.zero_le 4, Nat.zero_le 7, others⟩, fun _ timer law => ?_, rfl⟩
    obtain ⟨idle, unanswered, still⟩ := State.exchangeLaw_of_none (law.exchange awake) free
    obtain ⟨short, distinct, parked, stopped, -⟩ := law
    refine ⟨short, distinct, parked, fun rests => absurd (timer running) rests, fun _ =>
      ⟨fun stacked => ?_, .inl ⟨?_, unanswered, still⟩⟩⟩
    · obtain ⟨k, configured, contributes⟩ := State.exists_of_pathToPark found
      exact Bool.false_ne_true (((parked p stacked).2.1.1 k configured).symm.trans contributes)
    · dsimp only
      rw [idle, List.nil_append]

end Thermal

/-- A predicate kept by everything but the merge unit's commands. -/
structure State.Kept (P : State → Prop) : Prop where
  path : ∀ {s t : State}, s.PathStep t → P s → P t
  lane : ∀ {s t : State}, s.LaneStep t → s.StaysQuiet t → P s → P t
  thermal : ∀ {s t : State}, s.ThermalStep t → P s → P t
  latch : ∀ {s}, P s → P (latch s)
  figures : ∀ {s}, P s → P (computeFigures s)
  publish : ∀ {s}, P s → P (publish s)
  rates : ∀ {s} x, P s → P (rateUpdatePort s x)
  fitness : ∀ {s : State}, s.working = true → P s → P (fitnessOnInterval s)
  shutDown : ∀ {s : State}, s.interval.running = true → s.thermal.shutdown = false → P s → P (shutDown s)
  reset : ∀ (s : State) cause {count}, count ≤ 65535 → P s → P (resetBlocks s cause count)
  load : ∀ {s : State} boot, s.loader.phase = .held → P s → P (beginLoading s boot)
  start : ∀ {s : State}, s.loader.phase = .loading → P s → P (startStation s)

/-- A predicate kept by the merge unit's commands from a state. -/
structure State.MergeKept (P : State → Prop) (s : State) : Prop where
  copyArrival : ∀ p m, Answers P (execCopyArrival p m s)
  entryExpiry : ∀ k m, Answers P (execEntryExpiry k m s)
  trackingNotice : ∀ p, Answers P (execTrackingNotice p s)
  leavingNotice : ∀ p m, Answers P (execLeavingNotice p m s)
  parkRequest : ∀ m, Answers P (execParkRequest m s)
  unparkRequest : Answers P (execUnparkRequest s)

section Kept
variable {P : State → Prop} {s : State}

theorem State.MergeKept.of_moves (kept : ∀ t, s.MergeMoves t → P t) : s.MergeKept P where
  copyArrival p m := (mergeStep_execCopyArrival p m s).imp fun t step =>
    kept t ((mergeMoves_mergeAt s m).trans step.toMergeMoves)
  entryExpiry k m := (mergeStep_execEntryExpiry k m s).imp fun t step =>
    kept t ((mergeMoves_mergeAt s m).trans step.toMergeMoves)
  trackingNotice p := (mergeStep_execTrackingNotice p s).imp fun t step =>
    kept t ((mergeMoves_finishCascade s).trans step.toMergeMoves)
  leavingNotice p m := (mergeStep_execLeavingNotice p m s).imp fun t step =>
    kept t ((mergeMoves_mergeAt s m).trans step.toMergeMoves)
  parkRequest m := (mergeMoves_execParkRequest m s).imp kept
  unparkRequest := (mergeMoves_execUnparkRequest s).imp kept

theorem State.Kept.restart (kept : State.Kept P) (h : P s) (cause : Cause) (boot : BootInputs) :
    P (restart s cause boot) := kept.load boot rfl (kept.reset s cause (inc16_le _) h)

theorem State.Kept.recoveryTest (kept : State.Kept P) (boot : BootInputs) (h : P s) : P (recoveryTest s boot) := by
  unfold Machine.recoveryTest
  split
  · split
    · exact kept.restart h .thermal boot
    next few =>
      exact kept.thermal (thermalStep_counts fun ⟨spacing, cool, _, read⟩ => ⟨spacing, cool, by omega, read⟩) h
  · exact kept.thermal (thermalStep_counts fun ⟨spacing, cool, _, read⟩ => ⟨spacing, cool, Nat.zero_le 19, read⟩) h

theorem clampInt_reading (r : Int) : -40 ≤ clampInt r (-40) 150 ∧ clampInt r (-40) 150 ≤ 150 := by
  unfold clampInt; omega

theorem State.Kept.takeReading (kept : State.Kept P) (sensor : Int) (boot : BootInputs)
    (running : s.interval.running = true) (h : P s) : P (takeReading s sensor boot) := by
  have read : P { s with thermal := { s.thermal with reading := clampInt sensor (-40) 150 } } :=
    kept.thermal (thermalStep_counts fun ⟨spacing, cool, recovery, _⟩ =>
      ⟨spacing, cool, recovery, clampInt_reading sensor⟩) h
  unfold Machine.takeReading
  extract_lets t
  split
  · exact kept.recoveryTest boot read
  next awake =>
    have awake := Bool.eq_false_iff.mpr awake
    split
    · exact kept.shutDown running awake read
    · split
      · exact read
      next free => exact kept.thermal (thermalStep_tests running (not_not.mp free) awake) read

theorem State.Kept.takeEnd (kept : State.Kept P) (sensor : Int) (boot : BootInputs) (h : P s) {taker : Taker}
    (running : taker = .thermal → s.interval.running = true) : P (takeEnd sensor boot s taker) := by
  cases taker with
  | thermal => exact kept.takeReading sensor boot (running rfl) h
  | latch => exact iteInduction (fun _ => kept.latch h) fun _ => h
  | figures => exact iteInduction (fun _ => kept.figures h) fun _ => h
  | ageing => exact iteInduction (fun _ => kept.lane (laneStep_ageOnInterval s) (staysQuiet_ageOnInterval s) h) fun _ =>
                h
  | fitness => exact iteInduction (fun works => kept.fitness works h) fun _ => h

/-! ### The interval timer runs on at every taker but the reading -/

theorem State.LaneStep.interval {t : State} (step : s.LaneStep t) : t.interval = s.interval := by rw [step.rest]

theorem running_computeFigures (s : State) : (computeFigures s).interval.running = s.interval.running := by
  unfold computeFigures
  split
  · split <;> rfl
  · rfl

theorem running_publish (s : State) : (publish s).interval.running = s.interval.running := by
  unfold publish
  split <;> rfl

theorem interval_fitnessOnInterval (s : State) : (fitnessOnInterval s).interval = s.interval := by
  unfold fitnessOnInterval electionFit
  dsimp only
  split
  · split <;> rfl
  · exact (laneStep_electionUnfit _).interval
  · rfl

theorem running_takeEnd (sensor : Int) (boot : BootInputs) (s : State) {taker : Taker} (other : taker ≠ .thermal) :
    (takeEnd sensor boot s taker).interval.running = s.interval.running := by
  cases taker with
  | thermal => exact absurd rfl other
  | latch =>
    exact iteInduction (motive := fun t : State => t.interval.running = s.interval.running) (fun _ => rfl) fun _ => rfl
  | figures =>
    exact iteInduction (motive := fun t : State => t.interval.running = s.interval.running)
      (fun _ => running_computeFigures s) fun _ => rfl
  | ageing =>
    exact iteInduction (motive := fun t : State => t.interval.running = s.interval.running)
      (fun _ => congrArg _ (laneStep_ageOnInterval s).interval) fun _ => rfl
  | fitness =>
    exact iteInduction (motive := fun t : State => t.interval.running = s.interval.running)
      (fun _ => congrArg _ (interval_fitnessOnInterval s)) fun _ => rfl

theorem running_publishLatched (s : State) : (publishLatched s).interval.running = s.interval.running := by
  unfold Machine.publishLatched
  split
  · rw [(laneStep_electOnPublication _).interval]
    obtain ⟨p, rates⟩ := rateUpdates_only four (publish (computeFigures s))
    rw [rates]
    exact (running_publish _).trans (running_computeFigures s)
  · rfl

/-- Some takers, the reading at most once among them: what is kept, and that the timer runs on before the reading. -/
theorem State.Kept.takeEnds (kept : State.Kept P) {takers : List Taker} (once : takers.Nodup) (sensor : Int)
    (boot : BootInputs) : ∀ s, P s → (.thermal ∈ takers → s.interval.running = true) →
      P (takers.foldl (Machine.takeEnd sensor boot) s) ∧
        (.thermal ∉ takers → (takers.foldl (Machine.takeEnd sensor boot) s).interval.running = s.interval.running) := by
  induction takers with
  | nil => exact fun _ h _ => ⟨h, fun _ => rfl⟩
  | cons taker takers ih =>
    obtain ⟨apart, once⟩ := List.nodup_cons.mp once
    intro s h running
    have first := kept.takeEnd sensor boot h fun same => running (same ▸ List.mem_cons_self)
    obtain ⟨rest, goes⟩ := ih once _ first fun later => by
      have other : taker ≠ .thermal := fun same => apart (same ▸ later)
      rw [running_takeEnd sensor boot s other]
      exact running (List.mem_cons_of_mem _ later)
    refine ⟨rest, fun none_ => ?_⟩
    obtain ⟨other, none_⟩ := List.ne_and_not_mem_of_not_mem_cons none_
    exact (goes none_).trans (running_takeEnd sensor boot s other.symm)

theorem State.Kept.publishLatched (kept : State.Kept P) (h : P s) : P (publishLatched s) := by
  unfold Machine.publishLatched
  split
  next awaits =>
    have works : s.working = true := (Bool.and_eq_true_iff.mp (Bool.and_eq_true_iff.mp awaits).1).1
    refine kept.lane (laneStep_electOnPublication _) (.of_working ?_) ?_
    · obtain ⟨i, filled⟩ := computeFigures_only s
      obtain ⟨j, done⟩ := Machine.publish_only (computeFigures s)
      obtain ⟨p, rated⟩ := rateUpdates_only four (Machine.publish (computeFigures s))
      rw [rated, done, filled]
      exact works
    have filled := kept.publish (kept.figures h)
    exact List.foldlRecOn four rateUpdatePort filled fun t kept_t x _ => kept.rates x kept_t
  · exact h

theorem State.Kept.trySend (kept : State.Kept P) (h : P s) : P (trySend s) :=
  kept.lane (laneStep_trySend s) (staysQuiet_trySend s) h

theorem State.Kept.execIntervalEnd (kept : State.Kept P) (order : EndOrder) (sensor : Int) (boot : BootInputs)
    (h : P s) :
    Answers P (execIntervalEnd order sensor boot s) := by
  unfold Machine.execIntervalEnd
  split
  next open_ =>
    extract_lets takers behind before published
    have once : takers.Nodup := nodup_takersInOrder order.takers
    have first : P before ∧ (.thermal ∈ behind → before.interval.running = true) := by
      obtain ⟨first, goes⟩ := kept.takeEnds (once.filter _) sensor boot s h fun _ => open_.1
      refine ⟨first, fun later => (goes fun sooner => ?_).trans open_.1⟩
      have kept_back := (List.mem_filter.mp later).2
      simp [kept_back] at sooner
    clear_value before
    split
    · exact answers_next.mpr (kept.trySend first.1)
    · have told : P published ∧ (.thermal ∈ behind → published.interval.running = true) :=
        ⟨kept.publishLatched first.1, fun later => (running_publishLatched before).trans (first.2 later)⟩
      clear_value published
      refine answers_next.mpr (kept.trySend (kept.takeEnds (once.filter _) sensor boot _ ?_ ?_).1)
      · exact iteInduction (fun _ => kept.trySend told.1) fun _ => told.1
      · intro later
        refine iteInduction (motive := fun t : State => t.interval.running = true) (fun _ => ?_) fun _ => told.2 later
        rw [(laneStep_trySend published).interval]
        exact told.2 later
  · exact answers_next.mpr h

theorem State.Kept.execPublication (kept : State.Kept P) (h : P s) : Answers P (execPublication s) := by
  unfold Machine.execPublication
  split
  · exact answers_next.mpr (kept.trySend (kept.publishLatched h))
  · exact answers_next.mpr h

theorem State.Kept.of_path (kept : State.Kept P) (h : P s) {o : Answered} (event : Answers s.PathStep o) :
    Answers P o :=
  event.imp fun _ step => kept.path step h

theorem Answers.both {P Q : State → Prop} {o : Answered} (first : Answers P o) (second : Answers Q o) :
    Answers (fun t => P t ∧ Q t) o := by
  obtain ⟨t, same, holds⟩ := first
  obtain ⟨u, again, also⟩ := second
  cases same.symm.trans again
  exact ⟨t, same, holds, also⟩

theorem State.Kept.of_lane (kept : State.Kept P) (h : P s) {o : Answered} (event : Answers s.LaneStep o)
    (quiet : Answers s.StaysQuiet o) : Answers P o :=
  (event.both quiet).imp fun _ ⟨step, still⟩ => kept.lane step still h

theorem State.Kept.of_thermal (kept : State.Kept P) (h : P s) {o : Answered} (event : Answers s.ThermalStep o) :
    Answers P o := event.imp fun _ step => kept.thermal step h

theorem State.Kept.execPowerOnReset (kept : State.Kept P) (pin : Bool) (boot : BootInputs) (h : P s) :
    Answers P (execPowerOnReset pin boot s) := by
  have fresh : P (resetBlocks s .powerOn 0) := kept.reset s .powerOn (Nat.zero_le _) h
  cases pin with
  | true => exact answers_next.mpr fresh
  | false => exact answers_next.mpr (kept.load boot rfl fresh)

theorem State.Kept.execResetPinRelease (kept : State.Kept P) (boot : BootInputs) (h : P s) :
    Answers P (execResetPinRelease boot s) := by
  unfold Machine.execResetPinRelease
  split
  next held => exact answers_next.mpr (kept.load boot held h)
  · exact answers_next.mpr h

theorem State.Kept.execEndOfLoading (kept : State.Kept P) (h : P s) : Answers P (execEndOfLoading s) := by
  unfold Machine.execEndOfLoading
  split
  next loading => exact answers_next.mpr (kept.start loading h)
  · exact answers_next.mpr h

theorem State.Kept.execReleasedReport (kept : State.Kept P) (boot : BootInputs) (h : P s) :
    Answers P (execReleasedReport boot s) := by
  unfold Machine.execReleasedReport
  split
  · split
    · exact answers_next.mpr (kept.restart h .lineRestart boot)
    · exact answers_next.mpr (kept.lane ((State.LaneStep.refl s).trans (laneStep_flags s ..)) (.of_same rfl rfl rfl) h)
  · exact answers_next.mpr h

theorem State.Kept.execReleaseLimitExpiry (kept : State.Kept P) (boot : BootInputs) (h : P s) :
    Answers P (execReleaseLimitExpiry boot s) := by
  unfold Machine.execReleaseLimitExpiry
  split
  · exact answers_next.mpr (kept.restart h .lineRestart boot)
  · exact answers_next.mpr h

/-- Every command keeps what its parts keep. -/
theorem State.Kept.exec (kept : State.Kept P) (merge : s.MergeKept P) (h : P s) (i : Instr) : Answers P (exec i s) := by
  cases i
  case powerOnReset pin boot => exact kept.execPowerOnReset pin boot h
  case endOfLoading => exact kept.execEndOfLoading h
  case resetPinRelease boot => exact kept.execResetPinRelease boot h
  case releasedReport boot => exact kept.execReleasedReport boot h
  case releaseLimitExpiry boot => exact kept.execReleaseLimitExpiry boot h
  case gainSettled a level => exact kept.of_path h (pathStep_execGainSettled a level s)
  case modeDetected a m g r => exact kept.of_path h (pathStep_execModeDetected a m g r s)
  case timingSettled a => exact kept.of_path h (pathStep_execTimingSettled a s)
  case locked a read => exact kept.of_path h (pathStep_execLocked a read s)
  case acquisitionTimerExpiry a => exact kept.of_path h (pathStep_execAcquisitionTimerExpiry a s)
  case packetCompleted p st pkt => exact kept.of_path h (pathStep_execPacketCompleted p st pkt s)
  case frameStart p g => exact kept.of_path h (pathStep_execFrameStart p g s)
  case lossOfFrameSync p => exact kept.of_path h (pathStep_execLossOfFrameSync p s)
  case regained a read => exact kept.of_path h (pathStep_execRegained a read s)
  case pathFrameEnd p m => exact kept.of_path h (pathStep_execPathFrameEnd p m s)
  case stopOrder p => exact kept.of_path h (pathStep_execStopOrder p s)
  case unparkOrder p => exact kept.of_path h (pathStep_execUnparkOrder p s)
  case modeMismatchOrder p => exact kept.of_path h (pathStep_execModeMismatchOrder p s)
  case refusalNotice p => exact kept.of_path h (pathStep_execRefusalNotice p s)
  case copyArrival p m => exact merge.copyArrival p m
  case entryExpiry k m => exact merge.entryExpiry k m
  case trackingNotice p => exact merge.trackingNotice p
  case leavingNotice p m => exact merge.leavingNotice p m
  case parkRequest m => exact merge.parkRequest m
  case unparkRequest => exact merge.unparkRequest
  case parkAcknowledgement => exact kept.of_thermal h (thermalStep_execParkAcknowledgement s)
  case parkRefusal => exact kept.of_thermal h (thermalStep_execParkRefusal s)
  case unparkAcknowledgement => exact kept.of_thermal h (thermalStep_execUnparkAcknowledgement s)
  case intervalEnd order sensor boot => exact kept.execIntervalEnd order sensor boot h
  case publication => exact kept.execPublication h
  case dueEvent x => exact kept.of_lane h (laneStep_execDueEvent x s) (staysQuiet_execDueEvent x s)
  case portServiceStateSignal x =>
    exact kept.of_lane h (laneStep_execPortServiceStateSignal x s) (staysQuiet_execPortServiceStateSignal x s)
  case packetSeen x => exact kept.of_lane h (laneStep_execPacketSeen x s) (staysQuiet_execPacketSeen x s)
  case activityTimerExpiry x =>
    exact kept.of_lane h (laneStep_execActivityTimerExpiry x s) (staysQuiet_execActivityTimerExpiry x s)
  case readbackComparison x read starts =>
    exact kept.of_lane h (laneStep_execReadbackComparison x read starts s)
      (staysQuiet_execReadbackComparison x read starts s)
  case packetEnd x => exact kept.of_lane h (laneStep_execPacketEnd x s) (staysQuiet_execPacketEnd x s)
  case finishedNotice x => exact kept.of_lane h (laneStep_execFinishedNotice x s) (staysQuiet_execFinishedNotice x s)
  case contentionNotice x =>
    exact kept.of_lane h (laneStep_execContentionNotice x s) (staysQuiet_execContentionNotice x s)
  case electionServiceStateSignal x =>
    exact kept.of_lane h (laneStep_execElectionServiceStateSignal x s) (staysQuiet_execElectionServiceStateSignal x s)
  case laneActivitySignal x =>
    exact kept.of_lane h (laneStep_execLaneActivitySignal x s) (staysQuiet_execLaneActivitySignal x s)
  case settleTimerExpiry x =>
    exact kept.of_lane h (laneStep_execSettleTimerExpiry x s) (staysQuiet_execSettleTimerExpiry x s)
  case yieldWaitExpiry x => exact kept.of_lane h (laneStep_execYieldWaitExpiry x s) (staysQuiet_execYieldWaitExpiry x s)
  case holdTimerExpiry x => exact kept.of_lane h (laneStep_execHoldTimerExpiry x s) (staysQuiet_execHoldTimerExpiry x s)
  case lineIdle => exact kept.of_lane h (laneStep_execLineIdle s) (staysQuiet_execLineIdle s)
  case lineStuck => exact kept.of_lane h (laneStep_execLineStuck s) (staysQuiet_execLineStuck s)
  case arbitrationLoss cell =>
    exact kept.of_lane h (answers_next.mpr (laneStep_loseWhere s cell true)) (answers_next.mpr
      (staysQuiet_loseWhere s cell true))
  case readbackFault cell =>
    exact kept.of_lane h (answers_next.mpr (laneStep_loseWhere s cell false)) (answers_next.mpr
      (staysQuiet_loseWhere s cell false))
  case frameLeavesLine => exact kept.of_lane h (laneStep_execFrameLeavesLine s) (staysQuiet_execFrameLeavesLine s)
  case announceFrame =>
    exact kept.of_lane h (answers_next.mpr (laneStep_takePeerFrame laneStep_hearAnnounce s _)) (answers_next.mpr
      (staysQuiet_takePeerFrame s _ _))
  case claimFrame =>
    exact kept.of_lane h (answers_next.mpr (laneStep_takePeerFrame laneStep_hearClaim s _)) (answers_next.mpr
      (staysQuiet_takePeerFrame s _ _))
  case releaseFrame =>
    exact kept.of_lane h (answers_next.mpr (laneStep_takePeerFrame (fun t f => laneStep_updRecord t ..) s _))
      (answers_next.mpr
      (staysQuiet_takePeerFrame s _ _))
  case contentionFrame =>
    exact kept.of_lane h (answers_next.mpr (laneStep_takePeerFrame laneStep_hearContention s _)) (answers_next.mpr
      (staysQuiet_takePeerFrame s _ _))
  case queryFrame =>
    exact kept.of_lane h (answers_next.mpr (laneStep_takeAddressed (fun t f => laneStep_answerQuery t _) s _))
      (answers_next.mpr
      (staysQuiet_takeAddressed s _ _))
  case restartFrame =>
    exact kept.of_lane h (answers_next.mpr (laneStep_takeAddressed (fun t _ => laneStep_requestRestart t) s _))
      (answers_next.mpr
      (staysQuiet_takeAddressed s _ _))
  case monitorFrame => exact kept.of_lane h (laneStep_execMonitorFrame s)
                         (answers_next.mpr (staysQuiet_takeAddressed s _ _))
  case reportFrame =>
    exact kept.of_lane h (answers_next.mpr (laneStep_takeUnread s _)) (answers_next.mpr (staysQuiet_takeUnread s _))
  case undefinedKindFrame =>
    exact kept.of_lane h (answers_next.mpr (laneStep_takeUnread s _)) (answers_next.mpr (staysQuiet_takeUnread s _))
  case monitorPacketEnd => exact kept.of_lane h (laneStep_execMonitorPacketEnd s) (staysQuiet_execMonitorPacketEnd s)
  case fallingEdge sample =>
    exact kept.of_lane h (laneStep_execFallingEdge sample s) (staysQuiet_execFallingEdge sample s)

theorem State.Kept.step (kept : State.Kept P) (merge : ∀ l, ({ s with pending := l } : State).MergeKept P) {t : State}
    (h : P s) (stepped : step s = .next t)
    (queue : ∀ {s : State} l, P s → P { s with pending := l } := by exact fun _ => id) : P t := by
  unfold Machine.step at stepped
  split at stepped
  next i rest _ =>
    obtain ⟨u, same, result⟩ := kept.exec (merge rest) (queue rest h) i
    rw [same] at stepped
    cases stepped
    exact result
  · cases stepped
    exact h

end Kept

end Sys2Proof.Machine
end

section
/-!
Every law and range at reset (O56). A reset leaves the same blocks in every state, so each law is shown for the reset of
any state.
-/
namespace Sys2Proof.Machine

section AtReset
variable (s : State) (cause : Cause) (count : Nat)

theorem path_resetBlocks (p : Path) : (resetBlocks s cause count).path p = .reset := Quad.get_fill _ p
theorem service_resetBlocks (k : SlotNo) : (resetBlocks s cause count).service k = .reset := Quad.get_fill _ k
theorem port_resetBlocks (x : Port) : (resetBlocks s cause count).port x = .reset := Quad.get_fill _ x
theorem elect_resetBlocks (x : Port) : (resetBlocks s cause count).elect x = .reset := Quad.get_fill _ x
theorem slotConfig_resetBlocks (k : SlotNo) : (resetBlocks s cause count).slotConfig k = none := Quad.get_fill _ k
theorem portConfig_resetBlocks (x : Port) : (resetBlocks s cause count).portConfig x = none := Quad.get_fill _ x

theorem interval_resetBlocks : (resetBlocks s cause count).interval = .reset := rfl
theorem thermal_resetBlocks : (resetBlocks s cause count).thermal = .reset := rfl
theorem fitness_resetBlocks : (resetBlocks s cause count).fitness = .reset := rfl

theorem laneLaw_resetBlocks : (resetBlocks s cause count).laneLaw := by
  refine State.laneLaw_iff.mpr fun x => ?_
  unfold State.laneOkAt laneOk
  rw [port_resetBlocks, elect_resetBlocks]
  simp [PortUnit.reset, PortElection.reset]

theorem windowLaw_resetBlocks : (resetBlocks s cause count).windowLaw := by
  refine ⟨fun k => ?_, fun k e member => ?_, fun k => ?_, fun k => ?_, fun p => ?_, nofun⟩
  · rw [service_resetBlocks]; exact Nat.zero_le _
  · rw [service_resetBlocks] at member; exact absurd member List.not_mem_nil
  · rw [service_resetBlocks]; exact ⟨fun _ => ⟨Quad.get_fill false, rfl⟩, fun _ => rfl⟩
  · rw [service_resetBlocks]; exact ⟨fun _ => ⟨rfl, rfl⟩, nofun⟩
  · rw [path_resetBlocks]; exact ⟨nofun, fun r member => absurd member List.not_mem_nil⟩

theorem contributorLaw_resetBlocks : (resetBlocks s cause count).contributorLaw := by
  intro k c configured
  rw [slotConfig_resetBlocks] at configured
  exact nomatch configured

theorem fifoLaw_resetBlocks : (resetBlocks s cause count).fifoLaw := by
  intro x c bound
  rw [portConfig_resetBlocks] at bound
  exact nomatch bound

theorem figuresBounded_reset : Snapshot.reset.figuresBounded := fun k f at_ => by
  rw [Snapshot.reset, Quad.get_fill] at at_
  exact nomatch at_

theorem figureLaw_resetBlocks : (resetBlocks s cause count).figureLaw := by
  rw [State.figureLaw, interval_resetBlocks]
  exact ⟨figuresBounded_reset, fun _ awaits => (Option.some_ne_none _ awaits.symm).elim⟩

theorem peerLaw_resetBlocks : (resetBlocks s cause count).peerLaw := by
  intro i e present
  have empty : (Oct.fill (none : Option PeerEntry)).get i = none := by clear present; revert i; decide
  exact nomatch empty.symm.trans present

theorem PathCounters.inRange_zero : PathCounters.zero.inRange := by
  simp [PathCounters.inRange, PathCounters.zero]

theorem PathUnit.inRange_reset : PathUnit.reset.inRange :=
  ⟨Nat.zero_le _, Nat.zero_le _, nofun, nofun, Nat.zero_le _, PathCounters.inRange_zero, Nat.zero_le _⟩

theorem pathsInRange_reset : Snapshot.reset.pathsInRange := fun p => by
  rw [Snapshot.reset, Quad.get_fill]
  exact ⟨PathCounters.inRange_zero, Nat.zero_le _⟩

theorem pathRanges_resetBlocks : (resetBlocks s cause count).pathRanges := by
  rw [State.pathRanges, interval_resetBlocks]
  refine ⟨fun p => ?_, fun _ p => Quad.get_fill _ p, pathsInRange_reset, fun _ awaits =>
    (Option.some_ne_none _ awaits.symm).elim⟩
  have none_ : (resetBlocks s cause count).config.candidates.get p = [] := Quad.get_fill _ p
  rw [path_resetBlocks, none_]
  exact ⟨PathUnit.inRange_reset, Nat.zero_le 4, .inl rfl⟩

theorem PortCounters.inRange_zero : PortCounters.zero.inRange := by
  simp [PortCounters.inRange, PortCounters.zero]

theorem PortUnit.inRange_reset : PortUnit.reset.inRange := ⟨PortCounters.inRange_zero, Nat.zero_le _, nofun, nofun⟩

theorem portsInRange_reset : Snapshot.reset.portsInRange := fun x => by
  rw [Snapshot.reset, Quad.get_fill]
  exact PortCounters.inRange_zero

theorem portRanges_resetBlocks : (resetBlocks s cause count).portRanges := by
  rw [State.portRanges, interval_resetBlocks]
  exact ⟨fun x => by rw [port_resetBlocks]; exact PortUnit.inRange_reset, portsInRange_reset,
    fun _ awaits => (Option.some_ne_none _ awaits.symm).elim⟩

theorem ServiceCounters.inRange_reset : ServiceCounters.reset.inRange := by
  simp [ServiceCounters.inRange, ServiceCounters.reset]

theorem servicesInRange_reset : Snapshot.reset.servicesInRange := fun k v at_ => by
  rw [Snapshot.reset, Quad.get_fill] at at_
  exact nomatch at_

theorem serviceRanges_resetBlocks : (resetBlocks s cause count).serviceRanges := by
  rw [State.serviceRanges, interval_resetBlocks]
  exact ⟨fun k => by rw [service_resetBlocks]; exact ⟨ServiceCounters.inRange_reset, Nat.zero_le _⟩,
    fun _ _ cut => (Option.some_ne_none _ cut.symm).elim,
    servicesInRange_reset, fun _ awaits => (Option.some_ne_none _ awaits.symm).elim⟩

theorem lineRanges_resetBlocks : (resetBlocks s cause count).lineRanges := by
  simp [State.lineRanges, resetBlocks, State.reset, LineUnit.reset, LineCounters.zero]

theorem electionRanges_resetBlocks : (resetBlocks s cause count).electionRanges := fun x => by
  rw [elect_resetBlocks]; simp [PortElection.inRange, PortElection.reset]

theorem unitRanges_resetBlocks (few : count ≤ 65535) : (resetBlocks s cause count).unitRanges := by
  rw [State.unitRanges, thermal_resetBlocks, fitness_resetBlocks]
  simp [FitnessUnit.reset, ThermalUnit.reset, resetBlocks, State.reset, LoaderUnit.reset, MonitorUnit.reset, few]

theorem shutdownLaw_resetBlocks : (resetBlocks s cause count).shutdownLaw := ⟨nofun, nofun⟩

theorem stackLaw_resetBlocks : (resetBlocks s cause count).stackLaw :=
  ⟨Nat.zero_le _, List.nodup_nil, nofun, fun _ => ⟨rfl, rfl⟩, fun _ => ⟨rfl, rfl, fun _ ⟨_, cut⟩ => nomatch cut⟩⟩

end AtReset

/-- Settles O56: the power-on state is the reset of itself. -/
theorem lawsHoldAtReset : Obligations.LawsHoldAtReset :=
  let r := State.reset
  ⟨laneLaw_resetBlocks r .powerOn 0, windowLaw_resetBlocks r .powerOn 0, contributorLaw_resetBlocks r .powerOn 0,
    fifoLaw_resetBlocks r .powerOn 0, figureLaw_resetBlocks r .powerOn 0, peerLaw_resetBlocks r .powerOn 0,
    pathRanges_resetBlocks r .powerOn 0, portRanges_resetBlocks r .powerOn 0, serviceRanges_resetBlocks r .powerOn 0,
    lineRanges_resetBlocks r .powerOn 0, electionRanges_resetBlocks r .powerOn 0,
    unitRanges_resetBlocks r .powerOn 0 (Nat.zero_le _), shutdownLaw_resetBlocks r .powerOn 0,
    stackLaw_resetBlocks r .powerOn 0⟩

end Sys2Proof.Machine
end

section
/-!
The laws of lanes, FIFOs, figures and peers and the ranges of paths, ports, line, elections and units, kept by every
step (O57, O59 but for the services).
-/
namespace Sys2Proof.Machine

/-! ### The parts of an interval end and of a start, told for the state -/

section Parts
variable {s : State}

/-- The merge unit's part of a thermal shutdown. -/
theorem shutServices_only (xs : List SlotNo) (s : State) :
    ∃ v a b, xs.foldl shutService s = { s with services := v, portSignals := a, electionSignals := b } := by
  induction xs generalizing s with
  | nil => exact ⟨_, _, _, rfl⟩
  | cons k xs ih =>
    obtain ⟨v, a, b, first⟩ := shutService_only s k
    obtain ⟨w, c, d, rest⟩ := ih (shutService s k)
    exact ⟨w, c, d, by rw [List.foldl_cons, rest, first]⟩

theorem shutDown_only (s : State) : ∃ v a b, Machine.shutDown s = { s with
    services := v, portSignals := a, electionSignals := b, cascading := none
    thermal := { s.thermal with shutdown := true, recovery := 0, outstanding := none }
    paths := s.paths.map fun _ u => u.stopped
    ports := s.ports.map fun x u => if (s.portConfig x).isSome then u.shutDown else u
    line := s.line.shutDown
    election := s.election.shutDown
    interval := { s.interval with latched := false }
    loader := { s.loader with releasing := false, releaseLimit := none, releasedReport := false }
    monitor := s.monitor.shutDown } := by
  obtain ⟨v, a, b, merged⟩ := shutServices_only four s
  exact ⟨v, a, b, by rw [Machine.shutDown, merged]⟩

/-- A path that enters GAIN (R4), told field by field. -/
def PathUnit.gaining (u : PathUnit) (list : List Candidate) : PathUnit :=
  { u with
    state := .gain
    selection := list[u.candidateIndex]?
    measurements := none
    decoded := none
    detected := none
    counter := none
    run := 0
    timer := some 20
    work := u.work + 1 }

/-- The paths at the end of LOADING (Table 1-3). -/
def Config.startPaths (c : Config) (paths : Quad PathUnit) : Quad PathUnit :=
  paths.map fun p u => if c.starts p then u.gaining (c.candidates.get p) else u

theorem start_path_eq (c : Config) (s : State) (p : Path) : (if c.starts p then enterGain s p else s) =
    s.updPath p fun u => if c.starts p then u.gaining (s.config.candidates.get p) else u := by
  split
  · exact congrArg (fun q => { s with paths := q }) (Quad.update_congr _ _ rfl)
  · exact congrArg (fun q => { s with paths := q }) (Quad.set_get _ _).symm

theorem enterGains_eq (s : State) : four.foldl (fun t p => if s.config.starts p then enterGain t p else t) s =
    { s with paths := s.config.startPaths s.paths } := by
  simp only [four, List.foldl_cons, List.foldl_nil, start_path_eq]
  rfl

theorem startStation_eq (s : State) : startStation s = { s with
    loader := { s.loader with
      phase := .running
      record := { s.loader.record with notes := min s.loader.raw.validate.2 255 } }
    config := s.loader.raw.validate.1
    services := s.loader.raw.validate.1.services.map fun _ v => startService v
    cascading := none
    ports := s.loader.raw.validate.1.ports.map fun _ v => startPort v
    interval := { s.interval with running := true, published := startSnapshot s.loader.raw.validate.1 }
    fitness := s.fitness.afterLoading s.loader.raw.identity.isSome s.loader.record s.loader.raw.validate.1
    paths := s.loader.raw.validate.1.startPaths s.paths } :=
  enterGains_eq { s with
    loader := { s.loader with
      phase := .running
      record := { s.loader.record with notes := min s.loader.raw.validate.2 255 } }
    config := s.loader.raw.validate.1
    services := s.loader.raw.validate.1.services.map fun _ v => startService v
    cascading := none
    ports := s.loader.raw.validate.1.ports.map fun _ v => startPort v
    interval := { s.interval with running := true, published := startSnapshot s.loader.raw.validate.1 }
    fitness := s.fitness.afterLoading s.loader.raw.identity.isSome s.loader.record s.loader.raw.validate.1 }

/-- R148: what the fitness monitor's event leaves to the election unit. -/
theorem laneStep_fitnessOnInterval (works : s.working = true) :
    ({ s with fitness := s.fitness.intervalEnd s.config } : State).LaneStep (fitnessOnInterval s) := by
  obtain ⟨runs, awake⟩ : s.loader.phase = .running ∧ s.thermal.shutdown = false := by
    simpa [State.working] using works
  unfold fitnessOnInterval
  dsimp only
  split
  next fit => exact laneStep_electionFit _ fit runs awake
  · exact laneStep_electionUnfit _
  · exact .refl _

end Parts

/-! ### What they do at one port -/

namespace PortUnit
variable {u : PortUnit} {c : Option PortConfig} {d : Nat} {part : PortPart} {dark : Bool}

theorem rateUpdate_only : ∃ e o n, u.rateUpdate d part dark = { u with rEst := e, rOut := o, due := n } := by
  unfold rateUpdate
  split
  · exact ⟨none, u.rOut, u.due, rfl⟩
  · exact ⟨_, _, _, rfl⟩

theorem newEstimate_le {est : Option Nat} {a fill r : Nat} (last : ∀ e, est = some e → e ≤ 131070)
    (entered : a ≤ 131070) (new : newEstimate est a fill d dark = some r) : r ≤ 131070 := by
  cases est with
  | none => cases dark <;> simp_all [newEstimate]
  | some e =>
    rw [newEstimate_of_settled] at new
    obtain rfl := Option.some.inj new
    have between := nextEstimate_mem_uIcc e a fill d dark
    have bounded := last e rfl
    rw [Set.mem_uIcc] at between
    omega

theorem outputRate_mem (r fill d : Nat) (v : ServiceState) : 1000 ≤ outputRate r fill d v ∧
    outputRate r fill d v ≤ 40000 := by
  cases v <;> exact clampNat_mem (by decide)

theorem inRange_rateUpdate (entered : part.counters.entered ≤ 65535) (ranges : u.inRange) :
    (u.rateUpdate d part dark).inRange := by
  obtain ⟨counters, mismatch, estimate, output⟩ := ranges
  unfold rateUpdate
  split
  · exact ⟨counters, mismatch, nofun, output⟩
  next r new =>
    refine ⟨counters, mismatch, fun e same => ?_, fun o same => ?_⟩
    · obtain rfl := Option.some.inj same
      exact newEstimate_le estimate (by omega) new
    · obtain rfl := Option.some.inj same
      exact outputRate_mem ..

end PortUnit

section PortParts
variable {s : State} {x : Port}

theorem port_latch : (latch s).port x =
    match s.portConfig x with | some c => (s.port x).cleared c.depth | none => s.port x := by
  simp only [latch, State.port, Quad.get_map] <;> rfl

theorem port_rateUpdatePort (y : Port) : (rateUpdatePort s y).port x = s.port x ∨
    ∃ d dark, (rateUpdatePort s y).port x = (s.port x).rateUpdate d (s.interval.published.ports.get x) dark := by
  unfold rateUpdatePort
  split
  next c _ =>
    by_cases here : x = y
    · subst here
      exact .inr ⟨_, _, State.port_updPort_self s x _⟩
    · exact .inl (State.port_updPort_of_ne s _ here)
  · exact .inl rfl

theorem port_map_shutDown : (s.ports.map fun x u => if (s.portConfig x).isSome then u.shutDown else u).get x =
    if (s.portConfig x).isSome then (s.port x).shutDown else s.port x := Quad.get_map ..

theorem port_map_start {c : Quad (Option PortConfig)} : (c.map fun _ v => startPort v).get x = startPort (c.get x) :=
  Quad.get_map ..

theorem startPort_fresh (c : Option PortConfig) : (startPort c).driversOn = false ∧ (startPort c).fifo = [] ∧
    (startPort c).peak = 0 ∧ (startPort c).inRange := by
  cases c with
  | none => exact ⟨rfl, rfl, rfl, PortUnit.inRange_reset⟩
  | some q => exact ⟨rfl, rfl, rfl, PortUnit.inRange_reset⟩

theorem elect_shutDown (e : ElectionUnit) : e.shutDown.ports.get x =
    { (e.ports.get x).moveTo .disabled with slotMark := false, releaseOut := false } := Quad.get_map ..

end PortParts

/-! ### The lane law (O57) -/

section Lane
variable {fit fit' works works' : Prop} {u v : PortUnit} {e f : PortElection} {s : State} {x : Port}

/-- A port that may not act is DISABLED with its drivers off. -/
theorem laneOk_idle (lawful : laneOk fit works u e) (idle : ¬ works) :
    e.lane = .disabled ∧ u.driversOn = false ∧ e.mark = none := by
  obtain ⟨on, -, acts, marked⟩ := lawful
  have off : e.lane = .disabled := by_contra fun moves => idle (acts moves)
  refine ⟨off, Bool.eq_false_iff.mpr fun drives => ?_, by_contra fun marks => ?_⟩
  · simpa [off] using on drives
  · simpa [off] using marked marks

theorem laneOk_of_disabled (lane : e.lane = .disabled) (off : u.driversOn = false) (unmarked : e.mark = none) :
    laneOk fit works u e := by
  simp [laneOk, lane, off, unmarked]

/-- Only the lane, the mark and the drivers count. -/
theorem State.laneOkAt.congr {t : State} (lawful : s.laneOkAt x) (drives : s.mayDrive → t.mayDrive)
    (acts : s.mayAct x → t.mayAct x) (port : (t.port x).driversOn = (s.port x).driversOn)
    (lane : (t.elect x).lane = (s.elect x).lane) (mark : (t.elect x).mark = (s.elect x).mark) : t.laneOkAt x := by
  obtain ⟨on, fit, may, marked⟩ := lawful
  unfold State.laneOkAt laneOk
  rw [port, lane, mark]
  exact ⟨on, drives ∘ fit, acts ∘ may, marked⟩

/-! ### The fitness monitor's state (R148, R155, R157) -/

theorem FitnessUnit.state_conclude (f : FitnessUnit) :
    f.conclude.state = if f.underCheck ≠ none ∧ f.mismatches ≠ 0 then f.state.afterFailure else f.state := by
  unfold FitnessUnit.conclude
  split
  next none_ => rw [if_neg fun bad => bad.1 none_]
  next k some_ =>
    by_cases clean : f.mismatches = 0
    · simp [clean]
    · simp [clean, some_]

theorem FitnessUnit.state_checkConfig (f : FitnessUnit) (found : Half) :
    (f.checkConfig found).state =
      if ∃ v, f.checkValue = some v ∧ found ≠ v then f.state.afterFailure else f.state := by
  unfold FitnessUnit.checkConfig
  split
  next none_ => rw [if_neg fun ⟨v, some_, _⟩ => nomatch none_.symm.trans some_]
  next v some_ =>
    by_cases same : found = v
    · simp [same, some_]
    · simp [same, some_]

theorem FitnessUnit.state_listen (f : FitnessUnit) :
    f.listen.state = if f.state = .listen ∧ 3 ≤ f.listenCount + 1 then .fit else f.state := by
  unfold FitnessUnit.listen
  by_cases listens : f.state = .listen
  · by_cases third : 3 ≤ f.listenCount + 1 <;> simp [listens, third]
  · simp [listens]

/-- A FIT station stays FIT or becomes UNFIT. -/
theorem FitnessUnit.state_intervalEnd_of_fit {f : FitnessUnit} (fit : f.state = .fit) (c : Config) :
    (f.intervalEnd c).state = .fit ∨ (f.intervalEnd c).state = .unfit := by
  have concluded : f.conclude.state = .fit ∨ f.conclude.state = .unfit := by
    rw [FitnessUnit.state_conclude, fit]
    split
    · exact .inr rfl
    · exact .inl rfl
  have checked : (f.conclude.checkConfig c.checkValue).state = .fit ∨
    (f.conclude.checkConfig c.checkValue).state = .unfit := by
    rw [FitnessUnit.state_checkConfig]
    split
    · rcases concluded with same | same <;> rw [same] <;> exact .inr rfl
    · exact concluded
  rw [FitnessUnit.intervalEnd, if_neg (by rw [fit]; decide), FitnessUnit.state_listen, if_neg]
  · exact checked
  · intro listens
    rcases checked with same | same <;> exact nomatch same.symm.trans listens.1

theorem fitnessOnInterval_of_unfit (fit : s.fitness.state = .fit)
    (unfit : (s.fitness.intervalEnd s.config).state = .unfit) :
    fitnessOnInterval s = { electionUnfit s with fitness := s.fitness.intervalEnd s.config } := by
  rw [← electionUnfit_withFitness]
  unfold fitnessOnInterval
  dsimp only
  rw [fit, unfit]

theorem laneLaw_fitnessOnInterval (works : s.working = true) (lawful : s.laneLaw) : (fitnessOnInterval s).laneLaw := by
  rw [State.laneLaw_iff] at lawful ⊢
  intro x
  by_cases lost : s.fitness.state = .fit ∧ (s.fitness.intervalEnd s.config).state = .unfit
  · have lane := lane_electionUnfit s x
    obtain ⟨on, -, -, marked⟩ := (laneStep_electionUnfit s).lanes x (lawful x)
    obtain ⟨-, off, unmarked⟩ := laneOk_idle (fit := True) (works := False)
      ⟨on, fun _ => trivial, fun moves => moves lane, marked⟩ id
    rw [fitnessOnInterval_of_unfit lost.1 lost.2]
    exact laneOk_of_disabled lane off unmarked
  · refine (laneStep_fitnessOnInterval works).lanes x ((lawful x).congr (fun ⟨fit, awake⟩ => ⟨?_, awake⟩) id rfl rfl
      rfl)
    exact (FitnessUnit.state_intervalEnd_of_fit fit s.config).resolve_right fun unfit => lost ⟨fit, unfit⟩

theorem State.kept_laneLaw : State.Kept State.laneLaw where
  path step lawful := by rw [step.rest]; exact lawful
  lane step _ lawful := State.laneLaw_iff.mpr fun x => step.lanes x (State.laneLaw_iff.mp lawful x)
  thermal step lawful := by rw [step.rest]; exact lawful
  latch lawful := State.laneLaw_iff.mpr fun x =>
    (State.laneLaw_iff.mp lawful x).congr id id (by rw [port_latch]; split <;> rfl) rfl rfl
  figures lawful := by
    obtain ⟨i, same⟩ := computeFigures_only ‹State›
    rw [same]; exact lawful
  publish lawful := by
    obtain ⟨i, same⟩ := publish_only ‹State›
    rw [same]; exact lawful
  rates {s} y lawful := State.laneLaw_iff.mpr fun x => by
    have port : ((rateUpdatePort s y).port x).driversOn = (s.port x).driversOn := by
      obtain same | ⟨d, dark, same⟩ := port_rateUpdatePort (s := s) (x := x) y
      · rw [same]
      · obtain ⟨e, o, n, only⟩ := PortUnit.rateUpdate_only (u := s.port x) (d := d)
          (part := s.interval.published.ports.get x) (dark := dark)
        rw [same, only]
    obtain ⟨p, same⟩ := rateUpdatePort_only s y
    refine (State.laneLaw_iff.mp lawful x).congr ?_ ?_ port ?_ ?_ <;> rw [same]
    · exact id
    · exact id
    · rfl
    · rfl
  fitness := laneLaw_fitnessOnInterval
  shutDown {s} _ _ lawful := State.laneLaw_iff.mpr fun x => by
    obtain ⟨v, a, b, shut⟩ := shutDown_only s
    rw [shut]
    refine laneOk_of_disabled (congrArg _ (elect_shutDown _)) ?_ (congrArg _ (elect_shutDown _))
    refine (congrArg PortUnit.driversOn (port_map_shutDown (s := s) (x := x))).trans ?_
    split
    · rfl
    next unbound => exact (laneOk_idle (State.laneLaw_iff.mp lawful x) fun acts => unbound acts.1).2.1
  reset s cause _ _ _ := laneLaw_resetBlocks s cause _
  load {s} boot held lawful := State.laneLaw_iff.mpr fun x => by
    obtain ⟨lane, off, unmarked⟩ := laneOk_idle (State.laneLaw_iff.mp lawful x) fun acts =>
      nomatch held.symm.trans acts.2.1
    exact laneOk_of_disabled lane off unmarked
  start {s} loading lawful := State.laneLaw_iff.mpr fun x => by
    obtain ⟨lane, -, unmarked⟩ := laneOk_idle (State.laneLaw_iff.mp lawful x) fun acts =>
      nomatch loading.symm.trans acts.2.1
    rw [startStation_eq]
    refine laneOk_of_disabled lane ?_ unmarked
    exact (congrArg PortUnit.driversOn port_map_start).trans (startPort_fresh _).1

/-- The merge unit leaves the lane law alone. -/
theorem laneLaw_of_moves {t : State} (moves : s.MergeMoves t) (lawful : s.laneLaw) : t.laneLaw :=
  State.laneLaw_iff.mpr fun x => by
    have elections : t.election = s.election := by rw [moves.rest]
    have drives : t.mayDrive = s.mayDrive := by rw [moves.rest]; rfl
    have acts : t.mayAct x = s.mayAct x := by rw [moves.rest]; rfl
    have elect : t.elect x = s.elect x := congrArg (fun e => e.ports.get x) elections
    unfold State.laneOkAt
    rw [drives, acts, elect]
    exact laneOk_of_same (State.laneLaw_iff.mp lawful x) (moves.ports x).drivers rfl id

/-- Settles O57: of all that a step does only the fitness monitor's event and the end of LOADING reach the law from
outside the lane side, and both find every port DISABLED or leave it so. -/
theorem stepKeepsLaneLaw : Obligations.StepKeepsLaneLaw := fun _ _ lawful stepped =>
  State.kept_laneLaw.step (fun _ => .of_moves fun _ moves => laneLaw_of_moves moves lawful) lawful stepped

end Lane

end Sys2Proof.Machine
end

section
/-!
The ranges of FIFOs, figures, peers, paths, ports, line, elections and units, kept by every step (O59 but for the
services).
-/
namespace Sys2Proof.Machine

/-! ### Peers, line and elections -/

section Elections
variable {P : State → Prop}

/-- A predicate on the election unit and the line alone is kept by every step, once the lane side, the shutdown and the
reset keep it. -/
theorem State.kept_of_elections (same : ∀ {s t : State}, t.election = s.election → t.line = s.line → P s → P t)
    (lane : ∀ {s t : State}, s.LaneStep t → P s → P t)
    (shutDown : ∀ {s : State}, P s → P { s with election := s.election.shutDown, line := s.line.shutDown })
    (reset : ∀ (s : State) cause count, P (resetBlocks s cause count)) : State.Kept P where
  path step := same (by rw [step.rest]) (by rw [step.rest])
  lane step _ := lane step
  thermal step := same (by rw [step.rest]) (by rw [step.rest])
  latch := same rfl rfl
  figures {s} := by obtain ⟨i, only⟩ := computeFigures_only s; rw [only]; exact same rfl rfl
  publish {s} := by obtain ⟨i, only⟩ := publish_only s; rw [only]; exact same rfl rfl
  rates {s} x := by obtain ⟨p, only⟩ := rateUpdatePort_only s x; rw [only]; exact same rfl rfl
  fitness {s} works kept := lane (laneStep_fitnessOnInterval works) (same (s := s) rfl rfl kept)
  shutDown {s} _ _ kept := by
    obtain ⟨v, a, b, shut⟩ := shutDown_only s
    rw [shut]
    exact same (s := { s with election := s.election.shutDown, line := s.line.shutDown }) rfl rfl (shutDown kept)
  reset s cause _ _ _ := reset s cause _
  load _ _ := same rfl rfl
  start {s} _ kept := by
    rw [startStation_eq]
    exact same (s := s) rfl rfl kept

theorem State.steps_keep_of_elections (same : ∀ {s t : State}, t.election = s.election → t.line = s.line → P s → P t)
    (lane : ∀ {s t : State}, s.LaneStep t → P s → P t)
    (shutDown : ∀ {s : State}, P s → P { s with election := s.election.shutDown, line := s.line.shutDown })
    (reset : ∀ (s : State) cause count, P (resetBlocks s cause count)) (s t : State) (kept : P s)
    (stepped : step s = .next t) : P t :=
  (State.kept_of_elections same lane shutDown reset).step
    (fun _ => .of_moves fun _ moves => same (by rw [moves.rest]) (by rw [moves.rest]) kept) kept stepped fun _ =>
      same rfl rfl

theorem step_keeps_peerLaw (s t : State) : s.peerLaw → step s = .next t → t.peerLaw := by
  refine State.steps_keep_of_elections (fun election _ kept => ?_) (fun step => step.peers) id peerLaw_resetBlocks s t
  unfold State.peerLaw
  rw [election]
  exact kept

theorem step_keeps_lineRanges (s t : State) : s.lineRanges → step s = .next t → t.lineRanges := by
  refine State.steps_keep_of_elections (fun _ line kept => ?_) (fun step => step.counters) id lineRanges_resetBlocks s t
  unfold State.lineRanges
  rw [line]
  exact kept

theorem step_keeps_electionRanges (s t : State) : s.electionRanges → step s = .next t → t.electionRanges := by
  refine State.steps_keep_of_elections (fun {s t} election _ kept x => ?_) (fun step kept x => step.elects x (kept x))
    (fun {u} kept x => ?_) electionRanges_resetBlocks s t
  · have elect : t.elect x = s.elect x := congrArg (fun e : ElectionUnit => e.ports.get x) election
    rw [elect]
    exact kept x
  · have moved := PortElection.inRange_moveTo (l := .disabled) (kept x)
    have shut : (u.election.shutDown.ports.get x).inRange := by rw [elect_shutDown]; exact moved
    exact shut

end Elections

/-! ### FIFOs and ports -/

section Ports
variable {s : State} {x : Port}

theorem PortUnit.fifoOk_cleared {u : PortUnit} {d : Nat} {c : Option PortConfig} (bound : ∀ q, c = some q → q.depth = d)
    (ok : u.fifoOk c) : (u.cleared d).fifoOk c := by
  intro q same
  obtain ⟨depth, within, -⟩ := ok q same
  exact ⟨depth, within, bound q same ▸ PortUnit.deviation_le depth within⟩

theorem PortUnit.fifoOk_rateUpdate {u : PortUnit} {d : Nat} {part : PortPart} {dark : Bool} {c : Option PortConfig}
    (ok : u.fifoOk c) : (u.rateUpdate d part dark).fifoOk c := by
  obtain ⟨e, o, n, rate⟩ := PortUnit.rateUpdate_only (u := u) (d := d) (part := part) (dark := dark)
  rw [rate]
  exact ok

theorem PortUnit.fifoOk_shutDown {u : PortUnit} {c : Option PortConfig} (ok : u.fifoOk c) : u.shutDown.fifoOk c :=
  fun q same => ⟨(ok q same).1, Nat.zero_le _, (ok q same).2.2⟩

/-- R82, R179 (3): validation gives a bound port one of the three depths. -/
theorem validate_depth {r : RawConfig} {q : PortConfig} (bound : r.validate.1.ports.get x = some q) :
    q.depth = 32 ∨ q.depth = 64 ∨ q.depth = 128 := by
  obtain ⟨-, -, -, -, -, -, -, ports⟩ := validationLeavesConfigurationInRange r
  exact (ports x q bound).1

theorem State.kept_fifoLaw : State.Kept State.fifoLaw where
  path step lawful := by rw [step.rest]; exact lawful
  lane {s t} step _ lawful x := by
    have config : t.portConfig x = s.portConfig x := by rw [step.rest]; rfl
    rw [config]
    exact (step.ports x).2 (lawful x)
  thermal step lawful := by rw [step.rest]; exact lawful
  latch {s} lawful x := by
    show ((latch s).port x).fifoOk (s.portConfig x)
    rw [port_latch]
    cases bound : s.portConfig x with
    | none => exact fun c same => (Option.some_ne_none _ same.symm).elim
    | some c => exact PortUnit.fifoOk_cleared (fun q same => by rw [Option.some.inj same]) (bound ▸ lawful x)
  figures {s} lawful := by obtain ⟨i, only⟩ := computeFigures_only s; rw [only]; exact lawful
  publish {s} lawful := by obtain ⟨i, only⟩ := publish_only s; rw [only]; exact lawful
  rates {s} y lawful x := by
    obtain ⟨p, only⟩ := rateUpdatePort_only s y
    have config : (rateUpdatePort s y).portConfig x = s.portConfig x := by rw [only]; rfl
    rw [config]
    obtain same | ⟨d, dark, same⟩ := port_rateUpdatePort (s := s) (x := x) y
    · rw [same]; exact lawful x
    · rw [same]; exact PortUnit.fifoOk_rateUpdate (lawful x)
  fitness {s} works lawful x := by
    have step := laneStep_fitnessOnInterval works
    have config : (fitnessOnInterval s).portConfig x = s.portConfig x := by rw [step.rest]; rfl
    rw [config]
    exact (step.ports x).2 (lawful x)
  shutDown {s} _ _ lawful x := by
    obtain ⟨v, a, b, shut⟩ := shutDown_only s
    rw [shut]
    have port : ((s.ports.map fun x u => if (s.portConfig x).isSome then u.shutDown else u).get x).fifoOk
      (s.portConfig x) := by
      rw [port_map_shutDown]
      split
      · exact PortUnit.fifoOk_shutDown (lawful x)
      · exact lawful x
    exact port
  reset s cause _ _ _ := fifoLaw_resetBlocks s cause _
  load _ _ := id
  start {s} _ _ x := by
    rw [startStation_eq]
    intro c bound
    have port : ((s.loader.raw.validate.1.ports.map fun _ v => startPort v).get x) =
      startPort (s.loader.raw.validate.1.ports.get x) := port_map_start
    obtain ⟨-, fifo, peak, -⟩ := startPort_fresh (s.loader.raw.validate.1.ports.get x)
    rw [← port] at fifo peak
    exact ⟨validate_depth bound, (congrArg List.length fifo).trans_le (Nat.zero_le _), peak.trans_le (Nat.zero_le _)⟩

theorem step_keeps_fifoLaw (s t : State) (lawful : s.fifoLaw) (stepped : step s = .next t) : t.fifoLaw :=
  State.kept_fifoLaw.step (fun _ => .of_moves fun t moves x => by
    have config : t.portConfig x = s.portConfig x := moves.portConfig x
    rw [config]
    exact (moves.ports x).fifo (lawful x)) lawful stepped

/-! ### The snapshots and what they rest on -/

/-- A predicate on the two snapshots. -/
def IntervalUnit.holds (Q : Snapshot → Prop) (i : IntervalUnit) : Prop := Q i.published ∧ ∀ w, i.working = some w → Q w

section Snapshots
variable {Q : Snapshot → Prop}

theorem IntervalUnit.holds_latch (latched : Q s.latchedSnapshot) (kept : s.interval.holds Q) :
    (latch s).interval.holds Q := ⟨kept.1, fun _ same => Option.some.inj same ▸ latched⟩

theorem IntervalUnit.holds_computeFigures (fills : ∀ w fit, Q w → Q (w.withFigures fit)) (kept : s.interval.holds Q) :
    (computeFigures s).interval.holds Q := by
  unfold computeFigures
  split
  next w working =>
    split
    · exact ⟨kept.1, fun _ same => Option.some.inj same ▸ fills w _ (kept.2 w working)⟩
    · exact kept
  · exact kept

theorem IntervalUnit.holds_publish (kept : s.interval.holds Q) : (publish s).interval.holds Q := by
  unfold publish
  split
  next w working => exact ⟨kept.2 w working, kept.2⟩
  · exact kept

end Snapshots

/-! ### Figures (R71) -/

theorem State.figureLaw_iff : s.figureLaw ↔ s.interval.holds Snapshot.figuresBounded := Iff.rfl

theorem figuresBounded_latchedSnapshot : s.latchedSnapshot.figuresBounded := fun k f at_ =>
  (Option.some_ne_none f (at_.symm.trans (Quad.get_fill none k))).elim

theorem figuresBounded_withFigures (w : Snapshot) (fit : Bool) : (w.withFigures fit).figuresBounded := by
  intro k f at_
  have figure : (w.services.get k).map (figureOf fit w.mers) = some f := (Quad.get_map ..).symm.trans at_
  obtain ⟨v, -, rfl⟩ := Option.map_eq_some_iff.mp figure
  exact serviceFigure_le ..

theorem figuresBounded_startSnapshot (c : Config) : (startSnapshot c).figuresBounded := by
  intro k f at_
  have figure : ((c.services.get k).map fun _ => (⟨0, 0, 0, 0, 0⟩ : FigurePart)) = some
    f := (Quad.get_map ..).symm.trans at_
  obtain ⟨v, -, rfl⟩ := Option.map_eq_some_iff.mp figure
  exact Nat.zero_le _

theorem State.kept_figureLaw : State.Kept State.figureLaw where
  path step lawful := by rw [step.rest]; exact lawful
  lane step _ lawful := by rw [step.rest]; exact lawful
  thermal step lawful := by rw [step.rest]; exact lawful
  latch := IntervalUnit.holds_latch figuresBounded_latchedSnapshot
  figures := IntervalUnit.holds_computeFigures fun w fit _ => figuresBounded_withFigures w fit
  publish := IntervalUnit.holds_publish
  rates {s} y lawful := by obtain ⟨p, only⟩ := rateUpdatePort_only s y; rw [only]; exact lawful
  fitness {s} works lawful := by rw [State.figureLaw_iff, interval_fitnessOnInterval s]; exact lawful
  shutDown {s} _ _ lawful := by obtain ⟨v, a, b, shut⟩ := shutDown_only s; rw [shut]; exact lawful
  reset s cause _ _ _ := figureLaw_resetBlocks s cause _
  load _ _ := id
  start {s} _ lawful := by
    rw [startStation_eq]
    exact ⟨figuresBounded_startSnapshot _, lawful.2⟩

theorem step_keeps_figureLaw (s t : State) (lawful : s.figureLaw) (stepped : step s = .next t) : t.figureLaw :=
  State.kept_figureLaw.step (fun _ => .of_moves fun t moves => by rw [moves.rest]; exact lawful) lawful stepped

/-! ### Ports (R85, R88, R97, R99) -/

theorem portsInRange_latchedSnapshot (ranges : ∀ x, (s.port x).inRange) : s.latchedSnapshot.portsInRange := by
  intro x
  have part : s.latchedSnapshot.ports.get x = match s.portConfig x with | some _ => (s.port x).part | none => .zero :=
    Quad.get_map ..
  rw [part]
  split
  · exact (ranges x).1
  · exact PortCounters.inRange_zero

theorem State.kept_portRanges : State.Kept State.portRanges where
  path step ranges := by rw [step.rest]; exact ranges
  lane {s t} step _ ranges := by
    refine ⟨fun x => (step.ports x).1 (ranges.1 x), ?_⟩
    show t.interval.holds Snapshot.portsInRange
    rw [step.interval]
    exact ranges.2
  thermal step ranges := by rw [step.rest]; exact ranges
  latch {s} ranges := by
    refine ⟨fun x => ?_, IntervalUnit.holds_latch (portsInRange_latchedSnapshot ranges.1) ranges.2⟩
    rw [port_latch]
    obtain ⟨-, rest⟩ := ranges.1 x
    split
    · exact ⟨PortCounters.inRange_zero, rest⟩
    · exact ranges.1 x
  figures {s} ranges := by
    refine ⟨?_, IntervalUnit.holds_computeFigures (fun _ _ => id) ranges.2⟩
    obtain ⟨i, only⟩ := computeFigures_only s
    rw [only]
    exact ranges.1
  publish {s} ranges := by
    refine ⟨?_, IntervalUnit.holds_publish ranges.2⟩
    obtain ⟨i, only⟩ := publish_only s
    rw [only]
    exact ranges.1
  rates {s} y ranges := by
    refine ⟨fun x => ?_, ?_⟩
    · obtain same | ⟨d, dark, same⟩ := port_rateUpdatePort (s := s) (x := x) y
      · rw [same]; exact ranges.1 x
      · obtain ⟨entered, -⟩ := ranges.2.1 x
        rw [same]; exact PortUnit.inRange_rateUpdate entered (ranges.1 x)
    · obtain ⟨p, only⟩ := rateUpdatePort_only s y
      rw [only]
      exact ranges.2
  fitness {s} works ranges := by
    refine ⟨fun x => ((laneStep_fitnessOnInterval works).ports x).1 (ranges.1 x), ?_⟩
    show (fitnessOnInterval s).interval.holds Snapshot.portsInRange
    rw [interval_fitnessOnInterval s]
    exact ranges.2
  shutDown {s} _ _ ranges := by
    obtain ⟨v, a, b, shut⟩ := shutDown_only s
    rw [shut]
    refine ⟨fun x => ?_, ranges.2⟩
    have port : ((s.ports.map fun x u => if (s.portConfig x).isSome then u.shutDown else u).get x).inRange := by
      rw [port_map_shutDown]
      split
      · exact ranges.1 x
      · exact ranges.1 x
    exact port
  reset s cause _ _ _ := portRanges_resetBlocks s cause _
  load _ _ := id
  start {s} _ ranges := by
    rw [startStation_eq]
    refine ⟨fun x => ?_, portsInRange_reset, ranges.2.2⟩
    have port : ((s.loader.raw.validate.1.ports.map fun _ v => startPort v).get x).inRange := by
      rw [port_map_start]
      exact (startPort_fresh _).2.2.2
    exact port

theorem step_keeps_portRanges (s t : State) (ranges : s.portRanges) (stepped : step s = .next t) : t.portRanges :=
  State.kept_portRanges.step (fun _ => .of_moves fun t moves => by
    refine ⟨fun x => (moves.ports x).ranges (ranges.1 x), ?_⟩
    rw [moves.rest]
    exact ranges.2) ranges stepped

/-! ### Paths (Table 1-1, R10, R13, R16, R30, R32) -/

theorem pathsInRange_latchedSnapshot (ranges : ∀ p, (s.path p).inRange) : s.latchedSnapshot.pathsInRange := by
  intro p
  have part : s.latchedSnapshot.paths.get p = ⟨(s.path p).counters, (s.path p).cumulativeUncorrectable⟩ := Quad.get_map
    ..
  rw [part]
  obtain ⟨-, -, -, -, -, counters, cumulative⟩ := ranges p
  exact ⟨counters, cumulative⟩

/-- A path in range, with its index on its list. -/
def PathUnit.listed (list : List Candidate) (u : PathUnit) : Prop := u.inRange ∧ list.length ≤ 4 ∧ u.indexOk list

theorem State.pathRanges_iff : s.pathRanges ↔ (∀ p, (s.path p).listed (s.config.candidates.get p)) ∧
    (s.loader.phase ≠ .running → ∀ p, s.config.candidates.get p = []) ∧
      s.interval.holds Snapshot.pathsInRange := Iff.rfl

theorem PathUnit.listed_gaining {list old : List Candidate} {u : PathUnit} (inRange : u.inRange)
    (index : u.indexOk old) (none_ : old = []) (four : list.length ≤ 4) : (u.gaining list).listed list := by
  obtain ⟨attempts, -, -, -, rest⟩ := inRange
  have first : u.candidateIndex = 0 := index.resolve_right
    fun below => by rw [none_] at below; exact absurd below (Nat.not_lt_zero _)
  exact ⟨⟨attempts, Nat.zero_le _, fun _ => Nat.zero_le _, nofun, rest⟩, four, .inl first⟩

theorem State.kept_pathRanges : State.Kept State.pathRanges where
  path {s t} step ranges := by
    have config : t.config = s.config := by rw [step.rest]
    have phase : t.loader = s.loader := by rw [step.rest]
    have interval : t.interval = s.interval := by rw [step.rest]
    rw [State.pathRanges_iff, config, phase, interval]
    exact ⟨fun p => ⟨(step.paths p).ranges (ranges.1 p).1, (ranges.1 p).2.1, (step.paths p).index (ranges.1 p).2.2⟩,
      ranges.2⟩
  lane step _ ranges := by rw [step.rest]; exact ranges
  thermal step ranges := by rw [step.rest]; exact ranges
  latch {s} ranges := by
    refine ⟨fun p => ?_, ranges.2.1,
      IntervalUnit.holds_latch (pathsInRange_latchedSnapshot fun p => (ranges.1 p).1) ranges.2.2⟩
    have path : (latch s).path p = { s.path p with counters := .zero } := Quad.get_map ..
    obtain ⟨⟨attempts, run, tracking, measured, continuity, -, cumulative⟩, listed⟩ := ranges.1 p
    rw [path]
    exact ⟨⟨attempts, run, tracking, measured, continuity, PathCounters.inRange_zero, cumulative⟩, listed⟩
  figures {s} ranges := by
    refine ⟨?_, ?_, IntervalUnit.holds_computeFigures (fun _ _ => id) ranges.2.2⟩ <;>
      obtain ⟨i, only⟩ := computeFigures_only s <;> rw [only]
    · exact ranges.1
    · exact ranges.2.1
  publish {s} ranges := by
    refine ⟨?_, ?_, IntervalUnit.holds_publish ranges.2.2⟩ <;> obtain ⟨i, only⟩ := publish_only s <;> rw [only]
    · exact ranges.1
    · exact ranges.2.1
  rates {s} y ranges := by obtain ⟨p, only⟩ := rateUpdatePort_only s y; rw [only]; exact ranges
  fitness {s} works ranges := by rw [(laneStep_fitnessOnInterval works).rest]; exact ranges
  shutDown {s} _ _ ranges := by
    obtain ⟨v, a, b, shut⟩ := shutDown_only s
    rw [shut]
    refine ⟨fun p => ?_, ranges.2⟩
    have path : (s.paths.map fun _ u => u.stopped).get p = (s.path p).stopped := Quad.get_map ..
    have keeps : (s.path p).Keeps (s.config.candidates.get p) true (s.path p).stopped := PathUnit.keeps_stopped
    obtain ⟨inRange, four, index⟩ := ranges.1 p
    have stopped : ((s.paths.map fun _ u => u.stopped).get p).listed (s.config.candidates.get p) := by
      rw [path]
      exact ⟨keeps.ranges inRange, four, keeps.index index⟩
    exact stopped
  reset s cause _ _ _ := pathRanges_resetBlocks s cause _
  load {s} _ held ranges := ⟨ranges.1, fun _ => ranges.2.1 (by rw [held]; decide), ranges.2.2⟩
  start {s} loading ranges := by
    rw [startStation_eq]
    refine ⟨fun p => ?_, fun rests => absurd rfl rests, pathsInRange_reset, ranges.2.2.2⟩
    have empty : s.config.candidates.get p = [] := ranges.2.1 (by rw [loading]; decide) p
    have four : (s.loader.raw.validate.1.candidates.get p).length ≤ 4 := by
      obtain ⟨-, -, -, -, -, candidates, -⟩ := validationLeavesConfigurationInRange s.loader.raw
      exact (candidates p).2.1
    obtain ⟨inRange, -, index⟩ := ranges.1 p
    have path : ((s.loader.raw.validate.1.startPaths s.paths).get p).listed
      (s.loader.raw.validate.1.candidates.get p) := by
      rw [Config.startPaths, Quad.get_map]
      split
      · exact PathUnit.listed_gaining inRange index empty four
      · refine ⟨inRange, four, .inl (index.resolve_right fun below => ?_)⟩
        rw [empty] at below
        exact absurd below (Nat.not_lt_zero _)
    exact path

theorem step_keeps_pathRanges (s t : State) (ranges : s.pathRanges) (stepped : step s = .next t) : t.pathRanges :=
  State.kept_pathRanges.step (fun _ => .of_moves fun t moves => by
    have config : t.config = s.config := by rw [moves.rest]
    have phase : t.loader = s.loader := by rw [moves.rest]
    have interval : t.interval = s.interval := by rw [moves.rest]
    rw [State.pathRanges_iff, config, phase, interval]
    refine ⟨fun p => ?_, ranges.2⟩
    rw [moves.paths p]
    exact ranges.1 p) ranges stepped

/-! ### Units (Tables 8-1 and 9-1, R155, R177, R183, R195) -/

/-- The fitness monitor's counts within their ranges. -/
def FitnessUnit.inRange (f : FitnessUnit) : Prop :=
  f.listenCount ≤ 3 ∧ f.checked ≤ 65535 ∧ f.mismatches ≤ 65535 ∧
    (∀ r, f.lastResult = some r → r.checked ≤ 65535 ∧ r.mismatches ≤ 65535) ∧
    ∀ k n, f.mergeFault = some (k, n) → n ≤ 65535

section Fitness
variable {f : FitnessUnit}

theorem FitnessUnit.inRange_conclude (ranges : f.inRange) : f.conclude.inRange := by
  obtain ⟨listens, checked, mismatches, last, fault⟩ := ranges
  have result (k : SlotNo) (r : CheckResult) (same : some ⟨k, f.checked, f.mismatches⟩ = some r) :
      r.checked ≤ 65535 ∧ r.mismatches ≤ 65535 := Option.some.inj same ▸ ⟨checked, mismatches⟩
  unfold FitnessUnit.conclude
  split
  · exact ⟨listens, Nat.zero_le _, Nat.zero_le _, last, fault⟩
  next k _ =>
    dsimp only
    split
    · exact ⟨listens, Nat.zero_le _, Nat.zero_le _, result k, fault⟩
    · refine ⟨listens, Nat.zero_le _, Nat.zero_le _, result k, fun j n noted => ?_⟩
      cases first : f.mergeFault with
      | none =>
        have new : some (k, f.mismatches) = some (j, n) := by simpa [first] using noted
        exact (Prod.mk.inj (Option.some.inj new)).2 ▸ mismatches
      | some old => exact fault j n (by simpa [first] using noted)

theorem FitnessUnit.inRange_checkConfig (ranges : f.inRange) (found : Half) : (f.checkConfig found).inRange := by
  unfold FitnessUnit.checkConfig
  split
  · exact ranges
  · split <;> exact ranges

theorem FitnessUnit.inRange_listen (ranges : f.inRange) : f.listen.inRange := by
  unfold FitnessUnit.listen
  split
  · exact ⟨min_le_left .., ranges.2⟩
  · exact ranges

theorem FitnessUnit.inRange_intervalEnd (ranges : f.inRange) (c : Config) : (f.intervalEnd c).inRange := by
  unfold FitnessUnit.intervalEnd
  split
  · exact ranges
  · have checked := FitnessUnit.inRange_checkConfig (FitnessUnit.inRange_conclude ranges) c.checkValue
    exact FitnessUnit.inRange_listen (f := (f.conclude.checkConfig c.checkValue).rotate c) checked

end Fitness

theorem State.kept_unitRanges : State.Kept State.unitRanges where
  path {s t} step ranges := by
    obtain ⟨listens, checked, mismatches, last, fault, spacing, cool, recovery, reading, queue, count, notes⟩ := ranges
    have monitor := step.monitor queue
    rw [step.rest]
    exact ⟨listens, checked, mismatches, last, fault, spacing, cool, recovery, reading, monitor, count, notes⟩
  lane {s t} step _ ranges := by
    obtain ⟨listens, checked, mismatches, last, fault, spacing, cool, recovery, reading, queue, count, notes⟩ := ranges
    have monitor := step.monitor queue
    rw [step.rest]
    exact ⟨listens, checked, mismatches, last, fault, spacing, cool, recovery, reading, monitor, count, notes⟩
  thermal {s t} step ranges := by
    obtain ⟨listens, checked, mismatches, last, fault, spacing, cool, recovery, reading, queue, count, notes⟩ := ranges
    have counts := step.ranges ⟨spacing, cool, recovery, reading⟩
    rw [step.rest]
    exact ⟨listens, checked, mismatches, last, fault, counts.1, counts.2.1, counts.2.2.1, counts.2.2.2, queue, count,
      notes⟩
  latch ranges := ranges
  figures {s} ranges := by obtain ⟨i, only⟩ := computeFigures_only s; rw [only]; exact ranges
  publish {s} ranges := by obtain ⟨i, only⟩ := publish_only s; rw [only]; exact ranges
  rates {s} y ranges := by obtain ⟨p, only⟩ := rateUpdatePort_only s y; rw [only]; exact ranges
  fitness {s} works ranges := by
    obtain ⟨listens, checked, mismatches, last, fault, spacing, cool, recovery, reading, queue, count, notes⟩ := ranges
    obtain ⟨listens, checked, mismatches, last, fault⟩ : (s.fitness.intervalEnd s.config).inRange :=
      FitnessUnit.inRange_intervalEnd ⟨listens, checked, mismatches, last, fault⟩ s.config
    have step := laneStep_fitnessOnInterval works
    have monitor := step.monitor queue
    rw [step.rest]
    exact ⟨listens, checked, mismatches, last, fault, spacing, cool, recovery, reading, monitor, count, notes⟩
  shutDown {s} _ _ ranges := by
    obtain ⟨v, a, b, shut⟩ := shutDown_only s
    rw [shut]
    obtain ⟨listens, checked, mismatches, last, fault, spacing, cool, -, reading, -, count, notes⟩ := ranges
    exact ⟨listens, checked, mismatches, last, fault, spacing, cool, Nat.zero_le _, reading, Nat.zero_le _, count,
      notes⟩
  reset s cause _ few _ := unitRanges_resetBlocks s cause _ few
  load {s} boot _ ranges := by
    obtain ⟨listens, checked, mismatches, last, fault, spacing, cool, recovery, -, queue, count, -⟩ := ranges
    have fresh : boot.image.record.notes = 0 := by
      unfold Image.record
      split <;> rfl
    exact ⟨listens, checked, mismatches, last, fault, spacing, cool, recovery, clampInt_reading _, queue, count,
      fresh.trans_le (Nat.zero_le _)⟩
  start {s} _ ranges := by
    rw [startStation_eq]
    obtain ⟨-, checked, mismatches, last, fault, spacing, cool, recovery, reading, queue, count, -⟩ := ranges
    exact ⟨Nat.zero_le _, checked, mismatches, last, fault, spacing, cool, recovery, reading, queue, count,
      min_le_right ..⟩

theorem step_keeps_unitRanges (s t : State) (ranges : s.unitRanges) (stepped : step s = .next t) : t.unitRanges :=
  State.kept_unitRanges.step (fun _ => .of_moves fun t moves => by
    obtain ⟨listens, checked, mismatches, rest⟩ := ranges
    have checks := moves.checks ⟨checked, mismatches⟩
    rw [moves.rest]
    exact ⟨listens, checks.1, checks.2, rest⟩) ranges stepped

end Ports

end Sys2Proof.Machine
end

section
/-!
The merge unit's window: positions on the circle and the place of a new entry (R40, R44).
-/
namespace Sys2Proof.Machine

/-! ### Three places on the circle (R26, R27) -/

section Circle
variable {n : Nat}

theorem distance_add (hn : 0 < n) (a b c : Position) :
    distance n a c = distance n a b + distance n b c ∨ distance n a c + modulus n = distance n a b + distance n b
      c := by
  have whole : (modulus n : Int) ∣ (distance n a b + distance n b c : Int) - distance n a c := by
    rw [distance_eq_sub_emod hn, distance_eq_sub_emod hn, distance_eq_sub_emod hn, Int.dvd_iff_emod_eq_zero,
      Int.sub_emod, ← Int.add_emod, sub_add_sub_cancel]
    simp
  obtain ⟨turns, total⟩ := whole
  have first := distance_lt_modulus hn a b
  have second := distance_lt_modulus hn b c
  have third := distance_lt_modulus hn a c
  have low : -1 < turns := by
    by_contra! negative
    have : (modulus n : Int) * turns ≤ modulus n * (-1) := mul_le_mul_of_nonneg_left negative (by omega)
    omega
  have high : turns < 2 := by
    by_contra! large
    have : (modulus n : Int) * 2 ≤ modulus n * turns := mul_le_mul_of_nonneg_left large (by omega)
    omega
  obtain rfl | rfl : turns = 0 ∨ turns = 1 := by omega
  · left; omega
  · right; omega

/-- A place newer than one near the anchor, and near it too, is farther from the anchor. -/
theorem distance_lt_of_newer (hn : 0 < n) {a b anchor : Position} (near : distance n a anchor < 512 * n)
    (later : newer n b a = true) : distance n a anchor < distance n b anchor := by
  have sum := distance_add hn b a anchor
  have turn := distance_lt_modulus hn b anchor
  rw [newer_iff] at later
  unfold modulus at sum turn
  omega

/-- Of two places near the anchor, the farther is the newer. -/
theorem newer_of_distance_lt (hn : 0 < n) {a b anchor : Position} (far : distance n b anchor < 512 * n)
    (farther : distance n a anchor < distance n b anchor) : newer n b a = true := by
  have sum := distance_add hn b a anchor
  have turn := distance_lt_modulus hn b a
  rw [newer_iff]
  unfold modulus at sum turn
  omega

/-- Two places at the same distance are the same. -/
theorem samePosition_of_distance_eq (hn : 0 < n) {a b anchor : Position}
    (same : distance n a anchor = distance n b anchor) : samePosition n a b = true := by
  have sum := distance_add hn a b anchor
  have turn := distance_lt_modulus hn a b
  rw [samePosition_iff]
  omega

/-- A head that is neither older than a place nor at it, with a tail newer than it and than the head: every entry
between them is newer than the place. -/
theorem newer_of_between (hn : 0 < n) {q head x tail : Position} (notNewer : newer n q head = false)
    (apart : samePosition n head q = false) (tailNewer : newer n tail q = true)
    (tailNear : distance n tail head < 512 * n) (between : distance n x head ≤ distance n tail head) :
    newer n x q = true := by
  have turn := distance_swap hn q head
  have sumTail := distance_add hn tail head q
  have sumX := distance_add hn x head q
  have b1 := distance_lt_modulus hn head q
  have b2 := distance_lt_modulus hn tail q
  have b3 := distance_lt_modulus hn x q
  rw [newer_iff] at tailNewer ⊢
  rw [newer_eq_false_iff] at notNewer
  rw [samePosition_eq_false_iff] at apart
  unfold modulus at *
  omega

end Circle

/-! ### The place of a new entry (R40, R44) -/

section Insert
variable {n : Nat} {anchor : Position} {e : Entry} {w : List Entry}

theorem insertByDistance_eq (n : Nat) (anchor : Position) (e : Entry) (w : List Entry) :
    ∃ before after, w = before ++ after ∧ insertByDistance n anchor e w = before ++ e :: after ∧
      (∀ d ∈ before, distance n d.position anchor ≤ distance n e.position anchor) ∧
      ∀ d, after.head? = some d → distance n e.position anchor < distance n d.position anchor := by
  induction w with
  | nil => exact ⟨[], [], rfl, rfl, List.forall_mem_nil _, fun d same => absurd same (by simp)⟩
  | cons h t ih =>
    unfold insertByDistance
    split
    next first => exact ⟨[], h :: t, rfl, rfl, List.forall_mem_nil _, fun d same => Option.some.inj same ▸ first⟩
    next later =>
      obtain ⟨before, after, split, placed, near, far⟩ := ih
      refine ⟨h :: before, after, by rw [split]; rfl, by rw [placed]; rfl, fun d member => ?_, far⟩
      rcases List.mem_cons.mp member with rfl | behind
      · exact not_lt.mp later
      · exact near d behind

/-- An entry among others that are near one anchor goes behind every older and before every newer one. -/
theorem insertByDistance_between (hn : 0 < n) (near : ∀ d ∈ w, distance n d.position anchor < 512 * n)
    (nearNew : distance n e.position anchor < 512 * n)
    (rising : w.Pairwise fun a b => newer n b.position a.position = true)
    (apart : ∀ d ∈ w, samePosition n d.position e.position = false) :
    ∃ before after, w = before ++ after ∧ insertByDistance n anchor e w = before ++ e :: after ∧
      (∀ d ∈ before, newer n e.position d.position = true) ∧ ∀ d ∈ after, newer n d.position e.position = true := by
  obtain ⟨before, after, split, placed, closer, farther⟩ := insertByDistance_eq n anchor e w
  refine ⟨before, after, split, placed, fun d member => ?_, fun d member => ?_⟩
  · have listed : d ∈ w := split ▸ List.mem_append_left after member
    have different : distance n d.position anchor ≠ distance n e.position anchor := fun same =>
      Bool.false_ne_true ((apart d listed).symm.trans (samePosition_of_distance_eq hn same))
    exact newer_of_distance_lt hn nearNew (lt_of_le_of_ne (closer d member) different)
  · have listed (d : Entry) (member : d ∈ after) : d ∈ w := split ▸ List.mem_append_right before member
    refine newer_of_distance_lt hn (near d (listed d member)) ?_
    match after, member, farther, listed with
    | h :: t, member, farther, listed =>
      have first := farther h rfl
      rcases List.mem_cons.mp member with rfl | behind
      · exact first
      · rw [split, List.pairwise_append] at rising
        have later := (List.pairwise_cons.mp rising.2.1).1 d behind
        exact first.trans (distance_lt_of_newer hn (near h (listed h List.mem_cons_self)) later)

theorem getLast?_getD_cons (h : Entry) (t : List Entry) : ((h :: t).getLast?.getD h) = (h :: t).getLast
    (List.cons_ne_nil h t) := by
  rw [List.getLast?_eq_some_getLast (List.cons_ne_nil h t)]; rfl

/-- R40, R44: where a new entry goes in a lawful window. -/
theorem Service.insertEntry_between {v : Service} (hn : 0 < n) (ordered : v.ordered n)
    (apart : ∀ d ∈ v.window, samePosition n d.position e.position = false)
    (recent : v.late n e.position = false) (admitted : v.admits n e.position = true) :
    ∃ before after, v.window = before ++ after ∧ v.insertEntry n e = before ++ e :: after ∧
      (∀ d ∈ before, newer n e.position d.position = true) ∧ ∀ d ∈ after, newer n d.position e.position = true := by
  obtain ⟨rising, fresh⟩ := ordered
  unfold Service.insertEntry
  unfold Service.late at recent
  unfold Service.admits at admitted
  cases front : v.front with
  | some f =>
    rw [front] at recent
    have ahead : newer n e.position f = true := by simpa using recent
    exact insertByDistance_between hn (fun d member => ((newer_iff ..).mp (fresh f front d member)).2)
      ((newer_iff ..).mp ahead).2 rising apart
  | none =>
    rw [front] at admitted
    cases window : v.window with
    | nil => exact ⟨[], [], rfl, rfl, List.forall_mem_nil _, List.forall_mem_nil _⟩
    | cons h t =>
      rw [window] at rising apart admitted
      have self : distance n h.position h.position = 0 := by
        have residue := distance_eq_sub_emod hn h.position h.position
        rw [sub_self, Int.zero_emod] at residue
        exact_mod_cast residue
      have near (d : Entry) (member : d ∈ h :: t) : distance n d.position h.position < 512 * n := by
        rcases List.mem_cons.mp member with rfl | behind
        · omega
        · exact ((newer_iff ..).mp ((List.pairwise_cons.mp rising).1 d behind)).2
      dsimp only
      split
      next later => exact insertByDistance_between hn near ((newer_iff ..).mp later).2 rising apart
      next older =>
        have older := Bool.eq_false_iff.mpr older
        dsimp only at admitted
        rw [getLast?_getD_cons] at admitted
        have tail : newer n ((h :: t).getLast (List.cons_ne_nil h t)).position e.position = true := by
          simpa [older] using admitted
        refine ⟨[], h :: t, rfl, rfl, List.forall_mem_nil _, fun d member => ?_⟩
        refine newer_of_between hn older (apart h List.mem_cons_self) tail (near _ (List.getLast_mem _)) ?_
        have ends := List.dropLast_append_getLast (List.cons_ne_nil h t)
        rw [← ends] at member
        rcases List.mem_append.mp member with before | last
        · rw [← ends, List.pairwise_append] at rising
          have listed : d ∈ h :: t := List.dropLast_subset _ before
          exact (distance_lt_of_newer hn (near d listed) (rising.2.2 d before _ List.mem_cons_self)).le
        · rw [List.mem_singleton.mp last]

end Insert

end Sys2Proof.Machine
end

section
/-!
What the merge unit's operations do to its services: the window law and the ranges of one service, kept by a
resolution, a cascade, an arrival, a leaving and a park (R38 to R49, R56).
-/
namespace Sys2Proof.Machine

/-! ### One service -/

/-- A service's counts in range (Table 3-3, R39). -/
def Service.ranged (v : Service) : Prop := v.counters.inRange ∧ v.window.length ≤ 48

/-- The window law of one service but for its state (R39 to R41). -/
def Service.lawful (v : Service) : Prop :=
  v.window.length ≤ 48 ∧ (∀ e ∈ v.window, ∃ p, (e.copies.get p).isSome = true) ∧ v.orderLaw

section Resolution
variable {v : Service} {e : Entry} {rest : List Entry}

theorem ServiceCounters.inRange_resolve {c : ServiceCounters} (ranges : c.inRange) (p : Path) (copy : Copy)
    (copies : Quad (Option Copy)) (missing : Nat) (forced : Bool) :
      (c.resolve p copy copies missing forced).inRange := by
  obtain ⟨-, bad, -, -, force, each, peak, -, badAll⟩ := ranges
  have if_le {b : Prop} [Decidable b] {m x y : Nat} (hx : x ≤ m) (hy : y ≤ m) : (if b then x else y) ≤ m := by
    split <;> assumption
  refine ⟨inc16_le _, if_le (inc16_le _) bad, satAdd_le .., satAdd_le .., if_le (inc16_le _) force, fun q =>
    ⟨?_, ?_, ?_⟩, peak,
    satAdd_le .., if_le (inc32_le _) badAll⟩
  · show (c.selected.update p inc16).get q ≤ 65535
    rw [Quad.get_update]
    exact if_le (inc16_le _) (each q).1
  · show (c.unselected.map _).get q ≤ 65535
    rw [Quad.get_map]
    exact if_le (inc16_le _) (each q).2.1
  · exact (each q).2.2

/-- The head is gone, its position becomes the front (R53, R40). -/
theorem Service.lawful_resolved (lawful : v.lawful) (window : v.window = e :: rest) {w : Service}
    (windowed : w.window = rest) (fronted : w.front = some e.position) (ref : w.refN = v.refN) : w.lawful := by
  obtain ⟨bounded, copies, unset, order⟩ := lawful
  rw [window] at bounded copies unset
  refine ⟨?_, ?_, ?_, ?_⟩
  · rw [windowed]; exact Nat.le_of_succ_le bounded
  · rw [windowed]; exact fun d member => copies d (List.mem_cons_of_mem _ member)
  · rw [ref]; exact fun none_ => absurd (unset none_).1 (List.cons_ne_nil _ _)
  · rw [ref]
    intro n some_
    obtain ⟨size, ⟨rising, -⟩, packets, -⟩ := order n some_
    rw [window] at rising packets
    obtain ⟨newest, rising⟩ := List.pairwise_cons.mp rising
    unfold Service.ordered
    rw [windowed, fronted]
    exact ⟨size, ⟨rising, fun f same d member => Option.some.inj same ▸ newest d member⟩,
      fun d member => packets d (List.mem_cons_of_mem _ member),
      fun f same => Option.some.inj same ▸ packets e List.mem_cons_self⟩

/-- The head is gone without output. -/
theorem Service.lawful_dropped (lawful : v.lawful) (window : v.window = e :: rest) :
    ({ v with window := rest } : Service).lawful := by
  obtain ⟨bounded, copies, unset, order⟩ := lawful
  rw [window] at bounded copies unset
  refine ⟨Nat.le_of_succ_le bounded, fun d member => copies d (List.mem_cons_of_mem _ member),
    fun none_ => absurd (unset none_).1 (List.cons_ne_nil _ _), fun n some_ => ?_⟩
  obtain ⟨size, ⟨rising, fresh⟩, packets, front⟩ := order n some_
  rw [window] at rising fresh packets
  exact ⟨size, ⟨(List.pairwise_cons.mp rising).2, fun f same d member =>
    fresh f same d (List.mem_cons_of_mem _ member)⟩,
    fun d member => packets d (List.mem_cons_of_mem _ member), front⟩

end Resolution

/-! ### Resolutions of one service's heads -/

/-- A step that resolves heads of service `k` and does nothing else to a service. -/
structure State.Draining (k : SlotNo) (s t : State) : Prop where
  others : ∀ j, j ≠ k → t.service j = s.service j
  window : ∃ n, (t.service k).window = (s.service k).window.drop n
  ranged : (s.service k).ranged → (t.service k).ranged
  lawful : (s.service k).lawful → (t.service k).lawful ∧ ((s.service k).front ≠ none → (t.service k).front ≠ none)
  same : t.service k = { s.service k with
    window := (t.service k).window, front := (t.service k).front
    lastSelected := (t.service k).lastSelected, counters := (t.service k).counters }

section Draining
variable {s t u : State} {k : SlotNo}

theorem State.Draining.refl (k : SlotNo) (s : State) : s.Draining k s :=
  ⟨fun _ _ => rfl, ⟨0, rfl⟩, id, fun lawful => ⟨lawful, id⟩, rfl⟩

theorem State.Draining.trans (first : State.Draining k s t) (second : State.Draining k t u) : State.Draining k s u where
  others j other := (second.others j other).trans (first.others j other)
  window := by
    obtain ⟨n, before⟩ := first.window
    obtain ⟨m, after⟩ := second.window
    exact ⟨n + m, by rw [after, before, List.drop_drop]⟩
  ranged := second.ranged ∘ first.ranged
  lawful law :=
    have ⟨mid, front⟩ := first.lawful law
    have ⟨last, front'⟩ := second.lawful mid
    ⟨last, front' ∘ front⟩
  same := by
    have later := second.same
    rw [first.same] at later
    exact later

/-- A change of service `k` alone. -/
theorem State.service_updService (s : State) (j k : SlotNo) (f : Service → Service) :
    (s.updService k f).service j = if j = k then f (s.service k) else s.service j := by
  split
  next here => rw [here, State.service_updService_self]
  next other => exact State.service_updService_of_ne s f other

theorem services_output (s : State) (c : ServiceConfig) (copy : Copy) : (s.output c copy).services = s.services := by
  obtain ⟨p, same⟩ := output_only s c copy
  rw [same]

theorem services_handToChecker (s : State) (k : SlotNo) (i : CheckInputs) (chosen : Path) :
    (s.handToChecker k i chosen).services = s.services := by
  obtain ⟨f, same⟩ := handToChecker_only s k i chosen
  rw [same]

/-- R53: a resolution of a head; entries that hold a copy always select one. -/
theorem draining_resolveHead (s : State) (k : SlotNo) (forced : Bool) : s.Draining k (resolveHead s k forced) := by
  unfold resolveHead
  split
  next c e rest configured window =>
    dsimp only
    split
    next p copy selected =>
      set base := (s.handToChecker k ⟨statusesOf e.copies, c.tieMode, c.priority, (s.service k).lastSelected⟩ p).output
        c copy
        with base_eq
      have services : base.services = s.services := (services_output ..).trans (services_handToChecker ..)
      have service (j : SlotNo) : base.service j = s.service j := congrArg (fun q => Quad.get q j) services
      clear_value base
      refine ⟨fun j other => ?_, ?_, ?_, ?_, ?_⟩
      · rw [State.service_updService_of_ne _ _ other, service]
      all_goals rw [State.service_updService_self, service]
      · exact ⟨1, by rw [window]; rfl⟩
      · rintro ⟨counters, bounded⟩
        rw [window] at bounded
        exact ⟨ServiceCounters.inRange_resolve counters .., Nat.le_of_succ_le bounded⟩
      · exact fun lawful => ⟨Service.lawful_resolved lawful window rfl rfl rfl, fun _ => Option.some_ne_none _⟩
    next =>
      refine ⟨fun j other => State.service_updService_of_ne _ _ other, ?_, ?_, ?_, ?_⟩
      all_goals rw [State.service_updService_self]
      · exact ⟨1, by rw [window]; rfl⟩
      · rintro ⟨counters, bounded⟩
        rw [window] at bounded
        exact ⟨counters, Nat.le_of_succ_le bounded⟩
      · exact fun lawful => ⟨Service.lawful_dropped lawful window, id⟩
  next => exact .refl k s

theorem draining_cascade (n : Nat) (s : State) (k : SlotNo) : s.Draining k (cascade n s k) := by
  induction n generalizing s with
  | zero => exact .refl k s
  | succ n ih =>
    unfold cascade
    split
    · split
      · exact (draining_resolveHead s k false).trans (ih _)
      · exact .refl k s
    · exact .refl k s

/-- R47: the head test, and where a cut leaves the cascade off. -/
theorem draining_testHead (s : State) (k : SlotNo) (cut : Option Nat) (rest : AfterCascade) :
    s.Draining k (testHead s k cut rest) := by
  unfold testHead
  extract_lets t
  have drained : s.Draining k t := draining_cascade _ s k
  clear_value t
  split
  · exact ⟨drained.others, drained.window, drained.ranged, drained.lawful, drained.same⟩
  · exact drained

theorem cascading_resolveHead (s : State) (k : SlotNo) (forced : Bool) :
    (resolveHead s k forced).cascading = s.cascading := by
  obtain ⟨f, p, v, same⟩ := resolveHead_only s k forced
  rw [same]

/-- What a cut leaves behind: a head that resolves as things stand. -/
theorem cascading_testHead (free : s.cascading = none) (cut : Option Nat) (rest : AfterCascade) :
    (testHead s k cut rest).cascading = none ∨ cut ≠ none ∧ (testHead s k cut rest).cascading = some ⟨k, rest⟩ ∧
      ((testHead s k cut rest).service k).window ≠ [] := by
  obtain ⟨f, p, v, same⟩ := cascade_only (cut.getD (s.service k).window.length) s k
  have still : (cascade (cut.getD (s.service k).window.length) s k).cascading = none := by rw [same]; exact free
  unfold testHead
  dsimp only
  split
  next cuts =>
    refine .inr ⟨Option.isSome_iff_ne_none.mp cuts.1, rfl, fun empty => ?_⟩
    have ready := cuts.2
    unfold State.headReady at ready
    rw [show ((cascade (cut.getD (s.service k).window.length) s k).service k).window = [] from empty] at ready
    exact absurd ready Bool.false_ne_true
  · exact .inl still

end Draining

/-! ### One service under a command -/

/-- A copy whose entry was not opened yet has room in the window and a place of its own (R45, R154). -/
def Service.roomFor (v : Service) (r : Record) : Prop :=
  r.inRange ∧ v.window.length ≤ 47 ∧ v.refN = some r.n ∧ v.front ≠ none ∧
    ∀ e ∈ v.window, samePosition r.n e.position r.position = false

/-- A step that changes service `k` alone and keeps its laws; `within`: its counts, `known`: what it takes is in range.
-/
structure State.ServiceMove (within known : Prop) (k : SlotNo) (s t : State) : Prop where
  others : ∀ j, j ≠ k → t.service j = s.service j
  state : (t.service k).state = (s.service k).state
  ranged : within → (s.service k).ranged → (t.service k).ranged ∧
    ∀ r, t.cascading = some ⟨k, .opens r⟩ → (t.service k).window.length ≤ 47
  lawful : known → (s.service k).lawful → (t.service k).lawful ∧
    ∀ r, t.cascading = some ⟨k, .opens r⟩ → (t.service k).roomFor r
  cut : t.cascading = none ∨ ∃ rest, t.cascading = some ⟨k, rest⟩ ∧ (t.service k).window ≠ []

section Moves
variable {within known : Prop} {s t u : State} {k : SlotNo}

/-- A step that cuts nothing. -/
theorem State.ServiceMove.of_uncut (free : t.cascading = none) (others : ∀ j, j ≠ k → t.service j = s.service j)
    (state : (t.service k).state = (s.service k).state) (ranged : within → (s.service k).ranged → (t.service k).ranged)
    (lawful : known → (s.service k).lawful → (t.service k).lawful) : State.ServiceMove within known k s t where
  others := others
  state := state
  ranged counts law := ⟨ranged counts law, fun _ cut => (Option.some_ne_none _ (cut.symm.trans free)).elim⟩
  lawful inRange law := ⟨lawful inRange law, fun _ cut => (Option.some_ne_none _ (cut.symm.trans free)).elim⟩
  cut := .inl free

theorem State.ServiceMove.trans (first : State.ServiceMove within known k s t)
    (second : State.ServiceMove within known k t u) :
    State.ServiceMove within known k s u where
  others j other := (second.others j other).trans (first.others j other)
  state := second.state.trans first.state
  ranged counts law := second.ranged counts (first.ranged counts law).1
  lawful inRange law := second.lawful inRange (first.lawful inRange law).1
  cut := second.cut

/-- A change of the service itself. -/
theorem State.ServiceMove.updService {f : Service → Service} (free : s.cascading = none)
    (state : (f (s.service k)).state = (s.service k).state) (ranged : within → (s.service k).ranged →
      (f (s.service k)).ranged)
    (lawful : known → (s.service k).lawful → (f (s.service k)).lawful) :
    State.ServiceMove within known k s (s.updService k f) := by
  refine .of_uncut free (fun j other => State.service_updService_of_ne s f other) ?_ ?_ ?_ <;>
    rw [State.service_updService_self]
  · exact state
  · exact ranged
  · exact lawful

/-- A cascade behind which no entry waits to be opened. -/
theorem serviceMove_testHead (free : s.cascading = none) (cut : Option Nat) {rest : AfterCascade}
    (closed : ∀ r, rest ≠ .opens r) : s.ServiceMove within known k (testHead s k cut rest) := by
  have drained := draining_testHead s k cut rest
  have cuts := cascading_testHead (k := k) free cut rest
  have nothing (r : Record) : (testHead s k cut rest).cascading ≠ some ⟨k, .opens r⟩ := by
    obtain none_ | ⟨-, left, -⟩ := cuts
    · rw [none_]; exact (Option.some_ne_none _).symm
    · rw [left]
      exact fun same => closed r (Cascade.mk.inj (Option.some.inj same)).2
  refine ⟨drained.others, by rw [drained.same],
    fun _ law => ⟨drained.ranged law, fun r left => absurd left (nothing r)⟩,
    fun _ law => ⟨(drained.lawful law).1, fun r left => absurd left (nothing r)⟩, ?_⟩
  obtain none_ | ⟨-, left, waits⟩ := cuts
  · exact .inl none_
  · exact .inr ⟨rest, left, waits⟩

/-- R42, R61: a copy counted late. -/
def Service.countLate (v : Service) (p : Path) : Service :=
  { v with counters := { v.counters with late := v.counters.late.update p inc16 } }

theorem serviceMove_lateCopy (free : s.cascading = none) (p : Path) : s.ServiceMove within known k
    (lateCopy s k p) := by
  have counts : s.ServiceMove within known k (s.updService k fun v => v.countLate p) := by
    refine State.ServiceMove.updService free rfl (fun _ ⟨counters, bounded⟩ => ⟨?_, bounded⟩) fun _ => id
    obtain ⟨resolved, bad, missing, corrected, forced, each, rest⟩ := counters
    refine ⟨resolved, bad, missing, corrected, forced, fun q => ⟨(each q).1, (each q).2.1, ?_⟩, rest⟩
    show ((s.service k).counters.late.update p inc16).get q ≤ 65535
    rw [Quad.get_update]
    split
    · exact inc16_le _
    · exact (each q).2.2
  exact ⟨counts.others, counts.state, counts.ranged, counts.lawful, counts.cut⟩

theorem length_insertEntry (v : Service) (n : Nat) (e : Entry) : (v.insertEntry n e).length = v.window.length + 1 := by
  have placed (anchor : Position) (w : List Entry) : (insertByDistance n anchor e w).length = w.length + 1 := by
    obtain ⟨before, after, split, placed, -⟩ := insertByDistance_eq n anchor e w
    rw [placed, split]
    simp only [List.length_append, List.length_cons]
    omega
  unfold Service.insertEntry
  split
  · exact placed ..
  next window =>
    rw [window]
    split
    · exact placed ..
    · rfl
  next window => rw [window]; rfl

/-- A new entry keeps the window law (R39, R40, R44). -/
theorem Service.lawful_insertEntry {v w : Service} {r : Record} {e : Entry} (law : v.lawful) (inRange : r.inRange)
    (room : v.window.length ≤ 47) (ref : v.refN = some r.n)
    (apart : ∀ d ∈ v.window, samePosition r.n d.position r.position = false)
    (recent : v.late r.n r.position = false) (admitted : v.admits r.n r.position = true)
    (place : e.position = r.position) (held : ∃ p, (e.copies.get p).isSome = true)
    (windowed : w.window = v.insertEntry r.n e) (front : w.front = v.front) (ref' : w.refN = v.refN) : w.lawful := by
  obtain ⟨-, copies, -, order⟩ := law
  obtain ⟨size, ordered, packets, fronts⟩ := order r.n ref
  have positive : 0 < r.n := Nat.lt_of_lt_of_le (by decide) size.1
  obtain ⟨before, after, split, placed, older, newers⟩ := Service.insertEntry_between (e := e) positive ordered
    (by rw [place]; exact apart) (by rw [place]; exact recent) (by rw [place]; exact admitted)
  have member {d : Entry} : d ∈ w.window ↔ d = e ∨ d ∈ v.window := by
    rw [windowed, placed, split]
    simp only [List.mem_append, List.mem_cons]
    tauto
  refine ⟨?_, fun d listed => ?_, fun none_ => ?_, fun n some_ => ?_⟩
  · rw [windowed, length_insertEntry]
    omega
  · rcases member.mp listed with rfl | old
    · exact held
    · exact copies d old
  · exact (Option.some_ne_none _ (ref.symm.trans (ref'.symm.trans none_))).elim
  · obtain rfl := Option.some.inj (ref.symm.trans (ref'.symm.trans some_))
    refine ⟨size, ⟨?_, fun f fronted d listed => ?_⟩, fun d listed => ?_, fun f fronted => fronts f (front ▸ fronted)⟩
    · obtain ⟨rising, -⟩ := ordered
      rw [split, List.pairwise_append] at rising
      rw [windowed, placed, List.pairwise_append]
      refine ⟨rising.1, List.pairwise_cons.mpr ⟨newers, rising.2.1⟩, fun a ha b hb => ?_⟩
      rcases List.mem_cons.mp hb with rfl | behind
      · exact older a ha
      · exact rising.2.2 a ha b behind
    · rw [front] at fronted
      rcases member.mp listed with rfl | old
      · unfold Service.late at recent
        rw [fronted] at recent
        rw [place]
        simpa using recent
      · exact ordered.2 f fronted d old
    · rcases member.mp listed with rfl | old
      · rw [place]; exact inRange.2
      · exact packets d old

/-- R44: an entry that opens. -/
theorem serviceMove_openEntry (free : s.cascading = none) (c : ServiceConfig) (r : Record) (cut : Option Nat)
    (room : within → (s.service k).window.length ≤ 47)
    (fits : known → (s.service k).lawful → r.inRange ∧ (s.service k).window.length ≤ 47 ∧
      (s.service k).refN = some r.n ∧
      (∀ d ∈ (s.service k).window, samePosition r.n d.position r.position = false) ∧
      (s.service k).late r.n r.position = false ∧ (s.service k).admits r.n r.position = true) :
    s.ServiceMove within known k (openEntry s k c r.n r cut) := by
  have held (p : Path) (x : Copy) : ∃ q, (((Quad.fill none).set p (some x)).get q).isSome = true :=
    ⟨p, by rw [Quad.get_set_self]; rfl⟩
  unfold openEntry
  extract_lets v e w opened
  have opens : s.ServiceMove within known k opened := by
    refine State.ServiceMove.updService free rfl (fun counts law => ⟨?_, ?_⟩) fun inRange law => ?_
    · obtain ⟨⟨resolved, bad, missing, corrected, forced, each, peak, rest⟩, -⟩ := law
      refine ⟨resolved, bad, missing, corrected, forced, each, max_le peak ?_, rest⟩
      rw [length_insertEntry]
      exact Nat.succ_le_succ (room counts)
    · show (v.insertEntry r.n e).length ≤ 48
      rw [length_insertEntry]
      exact Nat.succ_le_succ (room counts)
    · obtain ⟨inRange, room, ref, apart, recent, admitted⟩ := fits inRange law
      exact Service.lawful_insertEntry law inRange room ref apart recent admitted rfl (held ..) rfl rfl rfl
  have still : opened.cascading = none := free
  clear_value opened
  split
  · exact opens.trans (serviceMove_testHead still cut nofun)
  · exact opens

/-- The copy that forced a resolution, or whose cascade was cut, once the window has room (R45). -/
theorem serviceMove_openAfterForce (free : s.cascading = none) (c : ServiceConfig) (r : Record) (cut : Option Nat)
    (room : within → (s.service k).window.length ≤ 47)
    (fits : known → (s.service k).lawful → (s.service k).roomFor r) :
    s.ServiceMove within known k (openAfterForce s k c r.n r cut) := by
  unfold openAfterForce
  split
  · exact serviceMove_lateCopy free r.path
  next recent =>
    refine serviceMove_openEntry free c r cut room fun inRange law => ?_
    obtain ⟨inRange, room, ref, fronted, apart⟩ := fits inRange law
    obtain ⟨f, fronted⟩ := Option.ne_none_iff_exists'.mp fronted
    refine ⟨inRange, room, ref, apart, Bool.eq_false_iff.mpr recent, ?_⟩
    unfold Service.admits
    rw [fronted]

theorem Service.roomFor_of_drained {v w : Service} {r : Record} {n : Nat} (room : v.roomFor r)
    (window : w.window = v.window.drop n) (ref : w.refN = v.refN) (front : v.front ≠ none → w.front ≠ none) :
      w.roomFor r := by
  obtain ⟨inRange, bounded, known, fronted, apart⟩ := room
  refine ⟨inRange, ?_, ref.trans known, front fronted, fun e member => apart e ?_⟩
  · rw [window, List.length_drop]; omega
  · rw [window] at member
    exact List.mem_of_mem_drop member

/-- R47 (2), R53: a resolution takes the head; where the entry holds a copy its position becomes the front. -/
theorem window_resolveHead {c : ServiceConfig} {e : Entry} {rest : List Entry} (configured : s.slotConfig k = some c)
    (window : (s.service k).window = e :: rest) (forced : Bool) :
    ((resolveHead s k forced).service k).window = rest ∧
      ((∃ p, (e.copies.get p).isSome = true) → ((resolveHead s k forced).service k).front ≠ none) := by
  unfold resolveHead
  rw [configured, window]
  dsimp only
  split
  · rw [State.service_updService_self]
    exact ⟨rfl, fun _ => Option.some_ne_none _⟩
  next none_ =>
    rw [State.service_updService_self]
    refine ⟨rfl, fun ⟨p, held⟩ => ?_⟩
    obtain ⟨x, held⟩ := Option.isSome_iff_exists.mp held
    exact absurd none_ (selectCopy_ne_none (by rw [held]; exact Option.some_ne_none x))

/-- R45: with the window full one resolution is forced first. -/
theorem serviceMove_openOrForce {c : ServiceConfig} (free : s.cascading = none) (configured : s.slotConfig k = some c)
    (r : Record) (cut : Option Nat)
    (fits : known → (s.service k).lawful → r.inRange ∧ (s.service k).refN = some r.n ∧
      (∀ d ∈ (s.service k).window, samePosition r.n d.position r.position = false) ∧
      (s.service k).late r.n r.position = false ∧ (s.service k).admits r.n r.position = true) :
    s.ServiceMove within known k (openOrForce s k c r.n r cut) := by
  unfold openOrForce
  split
  next room =>
    refine serviceMove_openEntry free c r cut (fun _ => Nat.le_of_lt_succ room) fun inRange law => ?_
    obtain ⟨inRange, ref, rest⟩ := fits inRange law
    exact ⟨inRange, Nat.le_of_lt_succ room, ref, rest⟩
  next full =>
    extract_lets forced t taken
    obtain ⟨e, rest, window⟩ := List.exists_cons_of_length_pos (Nat.lt_of_lt_of_le (by decide) (not_lt.mp full))
    have head := window_resolveHead configured window true
    have drains : s.Draining k forced := draining_resolveHead s k true
    have goes : s.Draining k t := drains.trans (draining_testHead forced k cut (.opens r))
    have stillForced : forced.cascading = none := (cascading_resolveHead s k true).trans free
    have cuts : t.cascading = none ∨ cut ≠ none ∧ t.cascading = some ⟨k, .opens r⟩ ∧ (t.service k).window ≠ [] :=
      cascading_testHead (k := k) stillForced cut (.opens r)
    have short (law : (s.service k).window.length ≤ 48) : (forced.service k).window.length ≤ 47 := by
      rw [head.1]
      rw [window] at law
      exact Nat.le_of_succ_le_succ law
    obtain ⟨n, drop⟩ : ∃ n, (t.service k).window = (forced.service k).window.drop n :=
      (draining_testHead forced k cut (.opens r)).window
    have shorter (law : (s.service k).window.length ≤ 48) : (t.service k).window.length ≤ 47 := by
      have := short law
      rw [drop, List.length_drop]
      omega
    have fitsT (inRange : known) (law : (s.service k).lawful) : (t.service k).roomFor r := by
      have forcedFits : (forced.service k).roomFor r := by
        obtain ⟨inRange, ref, apart, -⟩ := fits inRange law
        refine ⟨inRange, short law.1, by rw [drains.same]; exact ref,
          head.2 (law.2.1 e (by rw [window]; exact List.mem_cons_self)), fun d member => apart d ?_⟩
        rw [head.1] at member
        rw [window]
        exact List.mem_cons_of_mem _ member
      have later := draining_testHead forced k cut (.opens r)
      exact Service.roomFor_of_drained forcedFits drop (by rw [later.same]) (later.lawful (drains.lawful law).1).2
    have state : (t.service k).state = (s.service k).state := by rw [goes.same]
    clear_value t
    obtain still | ⟨-, left, waits⟩ := cuts
    · rw [if_neg (by rw [still]; decide)]
      have opens := serviceMove_openAfterForce (within := (s.service k).ranged) (known := known ∧ (s.service k).lawful)
        still c r (cut.map fun m => m - taken) (fun law => shorter law.2) fun ⟨inRange, law⟩ _ => fitsT inRange law
      exact ⟨fun j other => (opens.others j other).trans (goes.others j other), opens.state.trans state,
        fun _ law => opens.ranged law (goes.ranged law), fun inRange law =>
          opens.lawful ⟨inRange, law⟩ (goes.lawful law).1,
        opens.cut⟩
    · rw [if_pos (by rw [left]; rfl)]
      refine ⟨goes.others, state, fun _ law => ⟨goes.ranged law, fun _ _ => shorter law.2⟩,
        fun inRange law => ⟨(goes.lawful law).1, fun q same => ?_⟩, .inr ⟨_, left, waits⟩⟩
      obtain rfl : r = q := AfterCascade.opens.inj (Cascade.mk.inj (Option.some.inj (left.symm.trans same))).2
      exact fitsT inRange law

/-- The window law reads the positions of a window, and that each entry holds a copy. -/
theorem Service.lawful_of_positions {v w : Service} (law : v.lawful)
    (positions : w.window.map Entry.position = v.window.map Entry.position)
    (copies : ∀ e ∈ w.window, ∃ p, (e.copies.get p).isSome = true) (front : w.front = v.front) (ref : w.refN = v.refN) :
    w.lawful := by
  obtain ⟨bounded, -, unset, order⟩ := law
  have length : w.window.length = v.window.length := by simpa using congrArg List.length positions
  have places (P : Position → Prop) (all : ∀ e ∈ v.window, P e.position) (e : Entry) (member : e ∈ w.window) :
    P e.position := by
    have listed : e.position ∈ v.window.map Entry.position := positions ▸ List.mem_map_of_mem member
    obtain ⟨d, hd, same⟩ := List.mem_map.mp listed
    exact same ▸ all d hd
  refine ⟨length ▸ bounded, copies, fun none_ => ?_, fun n some_ => ?_⟩
  · obtain ⟨empty, unfronted⟩ := unset (ref ▸ none_)
    exact ⟨List.eq_nil_of_length_eq_zero (by rw [length, empty]; rfl), front.trans unfronted⟩
  · obtain ⟨size, ⟨rising, fresh⟩, packets, fronts⟩ := order n (ref ▸ some_)
    refine ⟨size, ⟨?_, fun f same => ?_⟩, places (fun q => q.packet < n) packets, fun f same => fronts f (front ▸ same)⟩
    · have mapped := (List.pairwise_map (f := Entry.position) (R := fun a b => newer n b a = true)).mpr rising
      rw [← positions] at mapped
      exact List.pairwise_map.mp mapped
    · exact places (fun q => newer n q f = true) (fresh f (front ▸ same))

theorem positions_storeCopy (n : Nat) (r : Record) (w : List Entry) :
    (storeCopy n r w).map Entry.position = w.map Entry.position := by
  induction w with
  | nil => rfl
  | cons e t ih =>
    unfold storeCopy
    split
    · rfl
    · rw [List.map_cons, ih, List.map_cons]

theorem copies_storeCopy {n : Nat} {r : Record} {w : List Entry} (held : ∀ e ∈ w, ∃ p, (e.copies.get p).isSome = true) :
    ∀ e ∈ storeCopy n r w, ∃ p, (e.copies.get p).isSome = true := by
  induction w with
  | nil => exact held
  | cons e t ih =>
    have later : ∀ d ∈ t, ∃ p, (d.copies.get p).isSome = true := fun d member => held d (List.mem_cons_of_mem _ member)
    unfold storeCopy
    split
    · refine List.forall_mem_cons.mpr ⟨⟨r.path, ?_⟩, later⟩
      rw [Quad.get_set_self]
      rfl
    · exact List.forall_mem_cons.mpr ⟨held e List.mem_cons_self, ih later⟩

/-- R42 to R45. -/
theorem serviceMove_afterModeCheck {c : ServiceConfig} (free : s.cascading = none)
    (configured : s.slotConfig k = some c)
    (r : Record) (cut : Option Nat)
    (fits : known → (s.service k).lawful → r.inRange ∧ (s.service k).refN = some r.n) :
    s.ServiceMove within known k (afterModeCheck s k c r.n r cut) := by
  unfold afterModeCheck
  extract_lets v t
  split
  · exact serviceMove_lateCopy free r.path
  next recent =>
    split
    · split
      · exact serviceMove_lateCopy free r.path
      · have stores : s.ServiceMove within known k t := by
          refine State.ServiceMove.updService free rfl (fun _ ⟨counters, bounded⟩ => ⟨counters, ?_⟩) fun _ law => ?_
          · have length := congrArg List.length (positions_storeCopy r.n r (s.service k).window)
            rw [List.length_map, List.length_map] at length
            exact length.trans_le bounded
          · exact Service.lawful_of_positions law (positions_storeCopy ..) (copies_storeCopy law.2.1) rfl rfl
        have still : t.cascading = none := free
        clear_value t
        split
        · exact stores.trans (serviceMove_testHead still cut nofun)
        · exact stores
    next absent =>
      split
      next admitted =>
        refine serviceMove_openOrForce free configured r cut fun inRange law => ?_
        obtain ⟨inRange, ref⟩ := fits inRange law
        refine ⟨inRange, ref, fun d member => ?_, Bool.eq_false_iff.mpr recent, admitted⟩
        exact Bool.eq_false_iff.mpr (List.find?_eq_none.mp absent d member)
      · exact serviceMove_lateCopy free r.path

/-- R41. -/
theorem serviceMove_arrive {c : ServiceConfig} (free : s.cascading = none) (configured : s.slotConfig k = some c)
    (r : Record) (cut : Option Nat) : s.ServiceMove within r.inRange k (arrive s k c r cut) := by
  unfold arrive
  split
  next unset =>
    have refers : s.ServiceMove within r.inRange k (s.updService k fun v => { v with refN := some r.n }) := by
      refine State.ServiceMove.updService free rfl (fun _ => id) fun inRange law => ?_
      obtain ⟨bounded, copies, empty, -⟩ := law
      obtain ⟨window, front⟩ := empty unset
      refine ⟨bounded, copies, fun none_ => (Option.some_ne_none _ none_).elim, fun n some_ => ?_⟩
      obtain rfl := Option.some.inj some_
      refine ⟨inRange.1, ⟨?_, ?_⟩, ?_, ?_⟩
      · rw [window]; exact List.Pairwise.nil
      · intro f fronted; exact (Option.some_ne_none _ (fronted.symm.trans front)).elim
      · rw [window]; exact List.forall_mem_nil _
      · intro f fronted; exact (Option.some_ne_none _ (fronted.symm.trans front)).elim
    refine refers.trans (serviceMove_afterModeCheck (s := s.updService k fun v => { v with refN := some r.n }) free
      configured r cut fun inRange _ => ⟨inRange, ?_⟩)
    rw [State.service_updService_self]
  next n some_ =>
    split
    next same =>
      subst same
      exact serviceMove_afterModeCheck free configured r cut fun inRange _ => ⟨inRange, some_⟩
    · exact .of_uncut free (fun _ _ => rfl) rfl (fun _ => id) fun _ => id

/-- R46, R49, R56: a path that leaves is awaited no more. -/
theorem serviceMove_without (free : s.cascading = none) (p : Path) (contributors : Quad Bool) :
    s.ServiceMove within known k (s.updService k fun v => { v.without p with contributors := contributors }) := by
  refine State.ServiceMove.updService free rfl (fun _ ⟨counters, bounded⟩ => ⟨counters, ?_⟩) fun _ law => ?_
  · exact (List.length_map _).trans_le bounded
  · refine Service.lawful_of_positions law ?_ ?_ rfl rfl
    · exact (List.map_map ..).trans rfl
    · intro e member
      obtain ⟨d, listed, rfl⟩ := List.mem_map.mp member
      exact law.2.1 d listed

end Moves

end Sys2Proof.Machine
end

section
/-!
The window law and the ranges of the services under every command of the merge unit, and by every step (O58, O59).
-/
namespace Sys2Proof.Machine

/-! ### Re-evaluation of the service state (R38) -/

/-- A service once its state has been re-evaluated. -/
def Service.reviewed (v : Service) : Service :=
  if v.stateNow = v.state then v
  else match v.stateNow with
    | .live => { v with state := .live }
    | .dark => v.darkened

theorem Service.stateNow_eq_dark_iff {v : Service} :
    v.stateNow = .dark ↔ (∀ p, v.tracking.get p = false) ∧ v.window = [] := by
  simp [Service.stateNow, Quad.isEmpty_iff]

theorem Service.stateFollows_iff {v : Service} : v.stateFollows ↔ v.state = v.stateNow := by
  rw [Service.stateFollows, ← Service.stateNow_eq_dark_iff]
  cases v.state <;> cases v.stateNow <;> simp

theorem Service.stateFollows_of_live {v : Service} (live : v.state = .live)
    (serves : (∃ p, v.tracking.get p = true) ∨ v.window ≠ []) : v.stateFollows := by
  rw [Service.stateFollows, live]
  refine ⟨nofun, fun ⟨untracked, empty⟩ => ?_⟩
  obtain ⟨p, tracks⟩ | waits := serves
  · exact absurd ((untracked p).symm.trans tracks) Bool.false_ne_true
  · exact absurd empty waits

section Reviewed
variable {v : Service}

theorem Service.stateFollows_reviewed : v.reviewed.stateFollows := by
  unfold Service.reviewed
  split
  next same => exact Service.stateFollows_iff.mpr same.symm
  · split
    next live =>
      rw [Service.stateFollows_iff, ← live]
      rfl
    next dark => exact ⟨fun _ => Service.stateNow_eq_dark_iff.mp dark, fun _ => rfl⟩

theorem Service.ranged_reviewed (law : v.ranged) : v.reviewed.ranged := by
  unfold Service.reviewed
  split
  · exact law
  · split
    · exact law
    · exact law

theorem Service.lawful_reviewed (law : v.lawful) : v.reviewed.lawful := by
  unfold Service.reviewed
  split
  · exact law
  · split
    · exact law
    next dark =>
      have empty := (Service.stateNow_eq_dark_iff.mp dark).2
      exact ⟨law.1, law.2.1, fun _ => ⟨empty, rfl⟩, nofun⟩

end Reviewed

section Review
variable {s t : State} {k : SlotNo}

theorem service_review (s : State) (k j : SlotNo) :
    (review s k).service j = if j = k then (s.service k).reviewed else s.service j := by
  unfold review Service.reviewed
  extract_lets v t
  split
  · split
    next here => rw [here]
    · rfl
  · have services : t.service j = if j = k then (match v.stateNow with
        | .live => { v with state := .live }
        | .dark => v.darkened) else s.service j := by
      refine (State.service_updService s j k _).trans ?_
      congr 1
    clear_value t
    split
    · exact services
    · exact services

end Review

/-! ### The laws of all services -/

/-- The counts of all services, and the room that a cut forced resolution has left (R45, Table 3-3). -/
def State.rangedAll (s : State) : Prop :=
  (∀ k, (s.service k).ranged) ∧ ∀ k r, s.cascading = some ⟨k, .opens r⟩ → (s.service k).window.length ≤ 47

/-- The window law of all services. -/
def State.lawfulAll (s : State) : Prop :=
  (∀ k, (s.service k).lawful) ∧ (∀ k, (s.service k).stateFollows) ∧
    ∀ k r, s.cascading = some ⟨k, .opens r⟩ → (s.slotConfig k).isSome = true ∧ (s.service k).roomFor r

theorem State.windowLaw_iff {s : State} : s.windowLaw ↔ s.lawfulAll ∧ s.recordsInRange := by
  constructor
  · rintro ⟨bounded, copies, follow, ordered, records, room⟩
    exact ⟨⟨fun k => ⟨bounded k, copies k, ordered k⟩, follow, fun k r left => room k r left⟩, records⟩
  · rintro ⟨⟨lawful, follow, room⟩, records⟩
    exact ⟨fun k => (lawful k).1, fun k => (lawful k).2.1, follow, fun k => (lawful k).2.2, records, fun k r left =>
      room k r left⟩

/-- What a command of the merge unit keeps; `known`: what it takes is in range. -/
structure State.WindowsStep (known : Prop) (s t : State) : Prop where
  ranged : s.rangedAll → t.rangedAll
  lawful : known → s.lawfulAll → t.lawfulAll

section Steps
variable {known : Prop} {s t u : State} {k : SlotNo}

theorem State.WindowsStep.refl (s : State) : State.WindowsStep known s s := ⟨id, fun _ => id⟩

theorem State.WindowsStep.trans (first : State.WindowsStep known s t) (second : State.WindowsStep known t u) :
    State.WindowsStep known s u := ⟨second.ranged ∘ first.ranged, fun inRange law =>
      second.lawful inRange (first.lawful inRange law)⟩

/-- What leaves services, configuration and cascade alone. -/
theorem State.WindowsStep.of_same (services : t.services = s.services) (config : t.config = s.config)
    (cascading : t.cascading = s.cascading) : State.WindowsStep known s t := by
  have service (j : SlotNo) : t.service j = s.service j := congrArg (fun q => Quad.get q j) services
  have slot (j : SlotNo) : t.slotConfig j = s.slotConfig j := congrArg (fun q : Config => q.services.get j) config
  constructor
  · intro law
    unfold State.rangedAll at law ⊢
    simp only [service, cascading]
    exact law
  · intro _ law
    unfold State.lawfulAll at law ⊢
    simp only [service, cascading, slot]
    exact law

/-- A command that changes service `k` alone, and then re-evaluates its state. -/
theorem State.WindowsStep.of_move {within inRange : Prop} (move : State.ServiceMove within inRange k s t)
    (counts : s.rangedAll → within) (takes : known → s.lawfulAll → inRange)
    (configured : (t.slotConfig k).isSome = true ∨ t.cascading = none)
    (live : t.cascading ≠ none → s.lawfulAll → (s.service k).state = .live) :
    State.WindowsStep known s (reviewAtEnd t k) := by
  unfold reviewAtEnd
  split
  next cut =>
    obtain none_ | ⟨rest, left, waits⟩ := move.cut
    · rw [none_] at cut
      exact absurd cut Bool.false_ne_true
    · have cuts : t.cascading ≠ none := by rw [left]; exact Option.some_ne_none _
      have only {j : SlotNo} {r : Record} (same : t.cascading = some ⟨j, .opens r⟩) : j = k :=
        (Cascade.mk.inj (Option.some.inj (same.symm.trans left))).1
      constructor
      · intro law
        have within := counts law
        obtain ⟨ranged, -⟩ := law
        refine ⟨fun j => ?_, fun j r same => ?_⟩
        · by_cases here : j = k
          · rw [here]; exact (move.ranged within (ranged k)).1
          · rw [move.others j here]; exact ranged j
        · obtain rfl := only same
          exact (move.ranged within (ranged j)).2 r same
      · intro known law
        have inRange := takes known law
        have live := live cuts law
        obtain ⟨lawful, follows, -⟩ := law
        refine ⟨fun j => ?_, fun j => ?_, fun j r same => ?_⟩
        · by_cases here : j = k
          · rw [here]; exact (move.lawful inRange (lawful k)).1
          · rw [move.others j here]; exact lawful j
        · by_cases here : j = k
          · rw [here]
            exact Service.stateFollows_of_live (move.state.trans live) (.inr waits)
          · rw [move.others j here]; exact follows j
        · obtain rfl := only same
          exact ⟨configured.resolve_right cuts, (move.lawful inRange (lawful j)).2 r same⟩
  next uncut =>
    have free : (review t k).cascading = none := by
      rw [cascading_review]
      exact Option.not_isSome_iff_eq_none.mp uncut
    constructor
    · intro law
      have within := counts law
      obtain ⟨ranged, -⟩ := law
      refine ⟨fun j => ?_, fun j r same => (Option.some_ne_none _ (same.symm.trans free)).elim⟩
      rw [service_review]
      split
      · exact Service.ranged_reviewed (move.ranged within (ranged k)).1
      next other => rw [move.others j other]; exact ranged j
    · intro known law
      have inRange := takes known law
      obtain ⟨lawful, follows, -⟩ := law
      refine ⟨fun j => ?_, fun j => ?_, fun j r same => (Option.some_ne_none _ (same.symm.trans free)).elim⟩
      · rw [service_review]
        split
        · exact Service.lawful_reviewed (move.lawful inRange (lawful k)).1
        next other => rw [move.others j other]; exact lawful j
      · rw [service_review]
        split
        · exact Service.stateFollows_reviewed
        next other => rw [move.others j other]; exact follows j

end Steps

/-! ### Every command of the merge unit -/

section Commands
variable {known : Prop} {s t : State} {k : SlotNo}

/-- What changes one service and cuts nothing, and then re-evaluates its state. -/
theorem windowsStep_review {within inRange : Prop} {moved : State} (move : State.ServiceMove within inRange k s moved)
    (counts : s.rangedAll → within) (takes : known → s.lawfulAll → inRange) (free : moved.cascading = none) :
    State.WindowsStep known s (review moved k) := by
  have step := State.WindowsStep.of_move move counts takes (.inr free) fun cuts => absurd free cuts
  unfold reviewAtEnd at step
  rwa [if_neg (by rw [free]; decide)] at step

theorem windowsStep_tickTo (s : State) (now : Nat) : State.WindowsStep known s (s.tickTo now) := .of_same rfl rfl rfl

theorem windowsStep_stopParked (s : State) (p : Path) : State.WindowsStep known s (stopParked s p) := .of_same rfl rfl
    rfl

theorem windowsStep_takeMessage {p : Path} {m : PathMessage} (taken : s.takeMessage p = some (m, t)) :
    State.WindowsStep known s t := by
  obtain ⟨rest, -, rfl⟩ := takeMessage_only taken
  exact .of_same rfl rfl rfl

theorem cascading_testHead_whole (free : s.cascading = none) (rest : AfterCascade) :
    (testHead s k none rest).cascading = none := by
  obtain none_ | ⟨cut, -⟩ := cascading_testHead (k := k) free none rest
  · exact none_
  · exact absurd rfl cut

/-- R47: a cascade that was left off is finished with what comes after it. -/
theorem windowsStep_finishCascade (s : State) : State.WindowsStep known s (finishCascade s) := by
  unfold finishCascade
  split
  · exact .refl s
  next a left =>
    obtain ⟨k, rest⟩ := a
    extract_lets t
    have freed {within inRange : Prop} : State.ServiceMove within inRange k s { s with cascading := none } :=
      .of_uncut rfl (fun _ _ => rfl) rfl (fun _ => id) fun _ => id
    have drains {within inRange : Prop} : State.ServiceMove within inRange k { s with cascading := none } t :=
      serviceMove_testHead rfl none nofun
    have free : t.cascading = none := cascading_testHead_whole rfl .nothing
    have drained : State.Draining k { s with cascading := none } t := draining_testHead _ k none .nothing
    have whole : State.WindowsStep known s (review t k) :=
      windowsStep_review (within := True) (inRange := True) (freed.trans drains) (fun _ => trivial) (fun _ _ =>
        trivial) free
    clear_value t
    split
    · exact whole
    · rename_i r c opens configured
      obtain rfl : rest = .opens r := opens
      obtain ⟨n, drop⟩ := drained.window
      have move : State.ServiceMove ((s.service k).window.length ≤ 47) ((s.service k).lawful ∧ (s.service k).roomFor r)
        k s
          (openAfterForce t k c r.n r none) := by
        refine (freed.trans drains).trans (serviceMove_openAfterForce free c r none (fun room => ?_) fun ⟨law,
          room⟩ _ => ?_)
        · rw [drop, List.length_drop]
          exact (Nat.sub_le ..).trans room
        · exact Service.roomFor_of_drained room drop (by rw [drained.same]; rfl) (drained.lawful law).2
      refine windowsStep_review move (fun law => law.2 k r left) (fun _ law => ⟨law.1 k, (law.2.2 k r left).2⟩) ?_
      rw [cascading_openAfterForce_none]
      exact free
    · exact whole
    · exact whole.trans (windowsStep_stopParked ..)

theorem windowsStep_mergeAt (s : State) (m : Moment) : State.WindowsStep known s (s.mergeAt m) :=
  (windowsStep_finishCascade s).trans (windowsStep_tickTo ..)

/-- The service that takes a path's message is configured, and the station works (R37, R59). -/
theorem State.taker_spec {p : Path} {c : ServiceConfig} (takes : s.taker p = some (k, c)) :
    s.thermal.shutdown = false ∧ s.slotConfig k = some c ∧ (s.service k).contributors.get p = true := by
  unfold State.taker at takes
  split at takes
  · exact nomatch takes
  next awake =>
    obtain ⟨j, serves, same⟩ := Option.bind_eq_some_iff.mp takes
    obtain ⟨d, configured, pair⟩ := Option.map_eq_some_iff.mp same
    cases pair
    exact ⟨Bool.eq_false_iff.mpr awake, configured, (Bool.and_eq_true_iff.mp (List.find?_some (p := fun k =>
      (s.slotConfig k).isSome && (s.service k).contributors.get p) serves)).2⟩

theorem State.live_of_tracking {p : Path} (follows : (s.service k).stateFollows)
    (tracks : (s.service k).tracking.get p = true) :
    (s.service k).state = .live := by
  cases state : (s.service k).state with
  | live => rfl
  | dark => exact absurd (((follows.mp state).1 p).symm.trans tracks) Bool.false_ne_true

theorem State.live_of_window (follows : (s.service k).stateFollows) (waits : (s.service k).window ≠ []) :
    (s.service k).state = .live := by
  cases state : (s.service k).state with
  | live => rfl
  | dark => exact absurd (follows.mp state).2 waits

theorem configured_of_mergeStep {c : ServiceConfig} {u : State} (step : t.MergeStep u)
    (configured : t.slotConfig k = some c) :
    (u.slotConfig k).isSome = true := by
  rw [step.slotConfig, configured]
  rfl

theorem windowsStep_execCopyArrival (p : Path) (m : Moment) (s : State) :
    Answers (State.WindowsStep s.recordsInRange s) (execCopyArrival p m s) := by
  unfold execCopyArrival
  extract_lets now
  have merged : State.WindowsStep s.recordsInRange s now := windowsStep_mergeAt s m
  have sent : (now.path p).outbox ⊆ (s.path p).outbox := (mergeMoves_mergeAt s m).sent p
  have free : now.cascading = none := cascading_mergeAt s m
  clear_value now
  split
  next r t taken =>
    obtain ⟨rest, waits, -⟩ := takeMessage_only taken
    have inRange (records : s.recordsInRange) : r.inRange := by
      obtain ⟨-, inRange⟩ := records p
      exact inRange r (sent (by rw [waits]; exact List.mem_cons_self))
    have before := merged.trans (windowsStep_takeMessage taken)
    have free : t.cascading = none := by
      obtain ⟨rest, -, rfl⟩ := takeMessage_only taken
      exact free
    split
    next k c takes =>
      obtain ⟨-, configured, -⟩ := State.taker_spec takes
      split
      next tracks =>
        refine answers_next.mpr (before.trans (.of_move (serviceMove_arrive (within := True) free configured r m.cut)
          (fun _ => trivial) (fun records _ => inRange records) (.inl ?_) fun _ law => ?_))
        · exact configured_of_mergeStep (mergeStep_arrive t k c r m.cut) configured
        · exact State.live_of_tracking (law.2.1 k) tracks
      · exact answers_next.mpr before
    · exact answers_next.mpr before
  · exact answers_next.mpr merged

theorem windowsStep_execEntryExpiry (k : SlotNo) (m : Moment) (s : State) :
    Answers (State.WindowsStep known s) (execEntryExpiry k m s) := by
  unfold execEntryExpiry
  extract_lets t
  have merged : State.WindowsStep known s t := windowsStep_mergeAt s m
  have free : t.cascading = none := cascading_mergeAt s m
  clear_value t
  split
  next c e rest configured window =>
    split
    · refine answers_next.mpr (merged.trans
        (.of_move (serviceMove_testHead (within := True) (known := True) free m.cut nofun)
        (fun _ => trivial) (fun _ _ => trivial) (.inl ?_) fun _ law => ?_))
      · exact configured_of_mergeStep (mergeStep_testHead t k m.cut .nothing) configured
      · exact State.live_of_window (law.2.1 k) (by rw [window]; exact List.cons_ne_nil _ _)
    · exact answers_next.mpr merged
  · exact answers_next.mpr merged

theorem windowsStep_execTrackingNotice (p : Path) (s : State) :
    Answers (State.WindowsStep known s) (execTrackingNotice p s) := by
  unfold execTrackingNotice
  extract_lets now
  have merged : State.WindowsStep known s now := windowsStep_finishCascade s
  have free : now.cascading = none := cascading_finishCascade s
  clear_value now
  split
  next stay t taken =>
    have before := merged.trans (windowsStep_takeMessage (known := known) taken)
    have free : t.cascading = none := by
      obtain ⟨rest, -, rfl⟩ := takeMessage_only taken
      exact free
    split
    next k c takes =>
      have joins : State.ServiceMove True True k t
        (({ t with mergeStays := t.mergeStays.set p stay } : State).updService k
          fun v => { v with tracking := v.tracking.set p true }) := by
        refine .of_uncut free (fun j other => State.service_updService_of_ne _ _ other) ?_ ?_ ?_ <;>
          rw [State.service_updService_self]
        · rfl
        · exact fun _ => id
        · exact fun _ => id
      exact answers_next.mpr (before.trans (windowsStep_review joins (fun _ => trivial) (fun _ _ => trivial) free))
    · exact answers_next.mpr before
  · exact answers_next.mpr merged

/-- A path leaves the tracking and the awaited sets, and what waited for it alone resolves (R46, R49, R56). -/
theorem windowsStep_leave {c : ServiceConfig} (free : s.cascading = none) (configured : s.slotConfig k = some c)
    (p : Path)
    (contributors : Quad Bool) (cut : Option Nat) {rest : AfterCascade} (closed : ∀ r, rest ≠ .opens r) :
    State.WindowsStep known s (reviewAtEnd
      (testHead (s.updService k fun v => { v.without p with contributors := contributors }) k cut rest) k) := by
  have left : State.ServiceMove True True k s (s.updService k fun v =>
    { v.without p with contributors := contributors }) :=
    serviceMove_without free p contributors
  have free' : (s.updService k fun v => { v.without p with contributors := contributors }).cascading = none := free
  refine .of_move (left.trans (serviceMove_testHead free' cut closed)) (fun _ => trivial) (fun _ _ => trivial) (.inl ?_)
    fun cuts law => ?_
  · exact configured_of_mergeStep (mergeStep_testHead ..) configured
  · have waits : ((s.updService k fun v => { v.without p with contributors := contributors }).service k).window
      ≠ [] := by
      obtain none_ | ⟨-, -, waits⟩ := cascading_testHead (k := k) free' cut rest
      · exact absurd none_ cuts
      · obtain ⟨n, drop⟩ := (draining_testHead (s.updService k fun v =>
          { v.without p with contributors := contributors })
          k cut rest).window
        intro empty
        rw [drop, empty, List.drop_nil] at waits
        exact waits rfl
    refine State.live_of_window (law.2.1 k) fun empty => waits ?_
    rw [State.service_updService_self]
    show (s.service k).window.map _ = []
    rw [empty, List.map_nil]

theorem windowsStep_execLeavingNotice (p : Path) (m : Moment) (s : State) :
    Answers (State.WindowsStep known s) (execLeavingNotice p m s) := by
  unfold execLeavingNotice
  extract_lets now
  have merged : State.WindowsStep known s now := windowsStep_mergeAt s m
  have free : now.cascading = none := cascading_mergeAt s m
  clear_value now
  split
  next t taken =>
    have before := merged.trans (windowsStep_takeMessage (known := known) taken)
    have free : t.cascading = none := by
      obtain ⟨rest, -, rfl⟩ := takeMessage_only taken
      exact free
    split
    next k c takes =>
      obtain ⟨-, configured, -⟩ := State.taker_spec takes
      split
      · exact answers_next.mpr (before.trans (windowsStep_leave free configured p (t.service k).contributors m.cut
          nofun))
      · exact answers_next.mpr before
    · exact answers_next.mpr before
  · exact answers_next.mpr merged

theorem State.configured_of_serviceOf {p : Path} (serves : s.serviceOf p = some k) :
    (s.slotConfig k).isSome = true ∧ (s.service k).contributors.get p = true :=
  Bool.and_eq_true_iff.mp (List.find?_some (p := fun k =>
      (s.slotConfig k).isSome && (s.service k).contributors.get p) serves)

theorem windowsStep_execParkRequest (m : Moment) (s : State) : Answers (State.WindowsStep known s)
    (execParkRequest m s) := by
  unfold execParkRequest
  extract_lets t
  have merged : State.WindowsStep known s t := windowsStep_mergeAt s m
  have free : t.cascading = none := cascading_mergeAt s m
  clear_value t
  split
  next p rest _ =>
    split
    · exact answers_next.mpr merged
    · extract_lets u
      have taken : State.WindowsStep known s u := merged.trans (.of_same rfl rfl rfl)
      have free : u.cascading = none := free
      clear_value u
      split
      next k serves =>
        obtain ⟨configured, -⟩ := State.configured_of_serviceOf serves
        obtain ⟨c, configured⟩ := Option.isSome_iff_exists.mp configured
        split
        · extract_lets left settled
          have settles : State.WindowsStep known s settled := taken.trans
            (windowsStep_leave free configured p ((u.service k).contributors.set p false) m.cut nofun)
          clear_value settled
          split
          · exact answers_next.mpr settles
          · exact answers_next.mpr (settles.trans (windowsStep_stopParked ..))
        · exact answers_next.mpr (taken.trans (.of_same rfl rfl rfl))
      · exact answers_next.mpr (taken.trans (.of_same rfl rfl rfl))
  · exact answers_next.mpr merged

/-- A contributor set is no part of the window law or of a range. -/
theorem windowsStep_contributors (s : State) (k : SlotNo) (contributors : Service → Quad Bool) :
    State.WindowsStep known s (s.updService k fun v => { v with contributors := contributors v }) := by
  have whole (Q : SlotNo → Service → Prop) (same : ∀ j v q, Q j v → Q j { v with contributors := q })
      (all : ∀ j, Q j (s.service j)) (j : SlotNo) :
      Q j ((s.updService k fun v => { v with contributors := contributors v }).service j) := by
    rw [State.service_updService]
    split
    next here => rw [here]; exact same k _ _ (all k)
    · exact all j
  constructor
  · rintro ⟨ranged, room⟩
    exact ⟨whole (fun _ v => v.ranged) (fun _ _ _ => id) ranged,
      whole (fun j v => ∀ r, s.cascading = some ⟨j, .opens r⟩ → v.window.length ≤ 47) (fun _ _ _ => id) room⟩
  · rintro - ⟨lawful, follows, room⟩
    exact ⟨whole (fun _ v => v.lawful) (fun _ _ _ => id) lawful, whole (fun _ v => v.stateFollows) (fun _ _ _ =>
      id) follows,
      whole (fun j v => ∀ r, s.cascading = some ⟨j, .opens r⟩ → (s.slotConfig j).isSome = true ∧ v.roomFor r)
        (fun _ _ _ => id) room⟩

theorem windowsStep_execUnparkRequest (s : State) : Answers (State.WindowsStep known s) (execUnparkRequest s) := by
  unfold execUnparkRequest
  extract_lets t
  have merged : State.WindowsStep known s t := windowsStep_finishCascade s
  have free : t.cascading = none := cascading_finishCascade s
  clear_value t
  split
  next p rest _ =>
    split
    · exact answers_next.mpr merged
    · extract_lets u
      have taken : State.WindowsStep known s u := merged.trans (.of_same rfl rfl rfl)
      have free : u.cascading = none := free
      clear_value u
      split
      next k _ =>
        split
        · exact answers_next.mpr (taken.trans (.of_same rfl rfl rfl))
        · extract_lets joined
          have joins : State.WindowsStep known u joined := windowsStep_contributors u k fun v =>
            v.contributors.set p true
          exact answers_next.mpr ((taken.trans joins).trans (.of_same rfl rfl rfl))
      · exact answers_next.mpr (taken.trans (.of_same rfl rfl rfl))
  · exact answers_next.mpr merged

end Commands

/-! ### Every step (O58, O59) -/

section Step
variable {s t : State}

/-- What the services' counts and window laws are made of, kept by every command of the merge unit. -/
theorem State.MergeKept.of_windows {P : State → Prop} (kept : ∀ t, State.WindowsStep s.recordsInRange s t →
    s.MergeMoves t → P t) :
    s.MergeKept P := by
  have both {o : Answered} (step : Answers (State.WindowsStep s.recordsInRange s) o) (moves : Answers s.MergeMoves o) :
      Answers P o := by
    obtain ⟨t, same, step⟩ := step
    obtain ⟨u, again, moves⟩ := moves
    obtain rfl : t = u := Host.Outcome.next.inj (same.symm.trans again)
    exact ⟨t, same, kept t step moves⟩
  have moves : s.MergeKept s.MergeMoves := .of_moves fun _ => id
  exact ⟨fun p m => both (windowsStep_execCopyArrival p m s) (moves.copyArrival p m),
    fun k m => both (windowsStep_execEntryExpiry k m s) (moves.entryExpiry k m),
    fun p => both (windowsStep_execTrackingNotice p s) (moves.trackingNotice p),
    fun p m => both (windowsStep_execLeavingNotice p m s) (moves.leavingNotice p m),
    fun m => both (windowsStep_execParkRequest m s) (moves.parkRequest m),
    both (windowsStep_execUnparkRequest s) moves.unparkRequest⟩

theorem State.serviceRanges_iff : s.serviceRanges ↔ s.rangedAll ∧ s.interval.holds Snapshot.servicesInRange :=
  ⟨fun ⟨ranged, room, rest⟩ => ⟨⟨ranged, room⟩, rest⟩, fun ⟨⟨ranged, room⟩, rest⟩ => ⟨ranged, room, rest⟩⟩

theorem ServiceCounters.inRange_cleared {v : Service} (law : v.ranged) : v.cleared.ranged := by
  obtain ⟨⟨-, -, -, -, -, -, -, missing, bad⟩, bounded⟩ := law
  obtain ⟨resolved, output, missed, corrected, forced, each, -⟩ := ServiceCounters.inRange_reset
  exact ⟨⟨resolved, output, missed, corrected, forced, each, bounded, missing, bad⟩, bounded⟩

theorem service_latch (k : SlotNo) : (latch s).service k =
    if (s.slotConfig k).isSome then (s.service k).cleared else s.service k := Quad.get_map ..

/-- R59: a configured service at a thermal shutdown. -/
def Service.shutDown (v : Service) : Service := { v.flushed.darkened with tracking := .fill false }

theorem service_shutService (s : State) (j k : SlotNo) : (shutService s j).service k =
    if k = j ∧ (s.slotConfig j).isSome = true then (s.service k).shutDown else s.service k := by
  unfold shutService
  split
  next c configured =>
    have changed : (s.updService j fun v => v.shutDown).service k =
        if k = j ∧ (s.slotConfig j).isSome = true then (s.service k).shutDown else s.service k := by
      rw [State.service_updService, configured]
      by_cases here : k = j
      · rw [if_pos here, if_pos ⟨here, rfl⟩, here]
      · rw [if_neg here, if_neg fun both => here both.1]
    dsimp only
    split
    · exact changed
    · exact changed
  next unconfigured => rw [if_neg fun both => by rw [unconfigured] at both; exact Bool.false_ne_true both.2]

theorem service_shutDown (k : SlotNo) : (shutDown s).service k =
    if (s.slotConfig k).isSome = true then (s.service k).shutDown else s.service k := by
  have slot (t : State) (j i : SlotNo) : (shutService t j).slotConfig i = t.slotConfig i := by
    obtain ⟨v, a, b, same⟩ := shutService_only t j
    rw [same]
    rfl
  show ((four.foldl shutService s).service k) = _
  simp only [four, List.foldl_cons, List.foldl_nil, service_shutService, slot]
  have listed : k = 0 ∨ k = 1 ∨ k = 2 ∨ k = 3 := by revert k; decide
  obtain rfl | rfl | rfl | rfl := listed <;> simp

theorem service_startStation (k : SlotNo) : (startStation s).service k =
    startService (s.loader.raw.validate.1.services.get k) := by
  rw [startStation_eq]
  exact Quad.get_map ..

/-! ### The latch, a shutdown and a start, at one service -/

section Parts
variable {v : Service}

theorem Service.ranged_shutDown (law : v.ranged) : v.shutDown.ranged := ⟨law.1, Nat.zero_le _⟩

theorem Service.lawful_of_empty (window : v.window = []) (ref : v.refN = none) (front : v.front = none) : v.lawful := by
  refine ⟨?_, ?_, fun _ => ⟨window, front⟩, fun n some_ => (Option.some_ne_none _ (some_.symm.trans ref)).elim⟩
  · rw [window]; exact Nat.zero_le _
  · rw [window]; exact List.forall_mem_nil _

theorem Service.stateFollows_of_dark (state : v.state = .dark) (window : v.window = [])
    (tracking : v.tracking = .fill false) :
    v.stateFollows := by
  refine ⟨fun _ => ⟨fun p => ?_, window⟩, fun _ => state⟩
  rw [tracking]
  exact Quad.get_fill false p

theorem startService_fresh (c : Option ServiceConfig) : (startService c).counters = .reset ∧
    (startService c).window = [] ∧
    (startService c).refN = none ∧ (startService c).front = none ∧ (startService c).state = .dark ∧
    (startService c).tracking = .fill false := by
  cases c <;> exact ⟨rfl, rfl, rfl, rfl, rfl, rfl⟩

end Parts

theorem servicesInRange_latchedSnapshot (ranged : ∀ k, (s.service k).ranged) : s.latchedSnapshot.servicesInRange := by
  intro k v at_
  have part : ((s.slotConfig k).map fun _ => (⟨(s.service k).counters, (s.service k).tracking⟩ : ServicePart)) = some
    v :=
    (Quad.get_map ..).symm.trans at_
  obtain ⟨c, -, rfl⟩ := Option.map_eq_some_iff.mp part
  exact (ranged k).1

theorem servicesInRange_startSnapshot (c : Config) : (startSnapshot c).servicesInRange := by
  intro k v at_
  have part : ((c.services.get k).map fun _ => (⟨.reset, .fill false⟩ : ServicePart)) = some
    v := (Quad.get_map ..).symm.trans at_
  obtain ⟨d, -, rfl⟩ := Option.map_eq_some_iff.mp part
  exact ServiceCounters.inRange_reset

theorem State.kept_serviceRanges : State.Kept State.serviceRanges where
  path step ranges := by rw [step.rest]; exact ranges
  lane step _ ranges := by rw [step.rest]; exact ranges
  thermal step ranges := by rw [step.rest]; exact ranges
  latch {s} ranges := by
    obtain ⟨⟨ranged, room⟩, kept⟩ := State.serviceRanges_iff.mp ranges
    refine State.serviceRanges_iff.mpr ⟨⟨fun k => ?_, fun k r left => ?_⟩,
      IntervalUnit.holds_latch (servicesInRange_latchedSnapshot ranged) kept⟩
    · rw [service_latch]
      split
      · exact ServiceCounters.inRange_cleared (ranged k)
      · exact ranged k
    · rw [service_latch]
      split
      · exact room k r left
      · exact room k r left
  figures {s} ranges := by
    obtain ⟨law, kept⟩ := State.serviceRanges_iff.mp ranges
    refine State.serviceRanges_iff.mpr ⟨?_, IntervalUnit.holds_computeFigures (fun _ _ => id) kept⟩
    obtain ⟨i, only⟩ := computeFigures_only s
    rw [only]
    exact law
  publish {s} ranges := by
    obtain ⟨law, kept⟩ := State.serviceRanges_iff.mp ranges
    refine State.serviceRanges_iff.mpr ⟨?_, IntervalUnit.holds_publish kept⟩
    obtain ⟨i, only⟩ := publish_only s
    rw [only]
    exact law
  rates {s} y ranges := by obtain ⟨p, only⟩ := rateUpdatePort_only s y; rw [only]; exact ranges
  fitness {s} works ranges := by rw [(laneStep_fitnessOnInterval works).rest]; exact ranges
  shutDown {s} _ _ ranges := by
    obtain ⟨⟨ranged, -⟩, kept⟩ := State.serviceRanges_iff.mp ranges
    refine State.serviceRanges_iff.mpr ⟨⟨fun k => ?_, fun k r left => (Option.some_ne_none _ left.symm).elim⟩, ?_⟩
    · rw [service_shutDown]
      split
      · exact Service.ranged_shutDown (ranged k)
      · exact ranged k
    · obtain ⟨v, a, b, shut⟩ := shutDown_only s
      rw [shut]
      exact kept
  reset s cause _ _ _ := serviceRanges_resetBlocks s cause _
  load _ _ := id
  start {s} _ ranges := by
    refine State.serviceRanges_iff.mpr ⟨⟨fun k => ?_, fun k r left => ?_⟩, ?_⟩
    · rw [service_startStation]
      obtain ⟨counters, window, -⟩ := startService_fresh (s.loader.raw.validate.1.services.get k)
      refine ⟨?_, ?_⟩
      · rw [counters]; exact ServiceCounters.inRange_reset
      · rw [window]; exact Nat.zero_le _
    · rw [startStation_eq] at left
      exact (Option.some_ne_none _ left.symm).elim
    · rw [startStation_eq]
      exact ⟨servicesInRange_startSnapshot _, ranges.2.2.2⟩

theorem step_keeps_serviceRanges (s t : State) (ranges : s.serviceRanges) (stepped : step s = .next t) :
    t.serviceRanges :=
  State.kept_serviceRanges.step (fun _ => .of_windows fun t step moves => by
    obtain ⟨law, kept⟩ := State.serviceRanges_iff.mp ranges
    refine State.serviceRanges_iff.mpr ⟨step.ranged law, ?_⟩
    rw [moves.rest]
    exact kept) ranges stepped

/-- Settles O59: one lemma for each range, which every part of every command keeps. -/
theorem stepKeepsRanges : Obligations.StepKeepsRanges :=
  ⟨step_keeps_fifoLaw, step_keeps_figureLaw, step_keeps_peerLaw, step_keeps_pathRanges, step_keeps_serviceRanges,
    step_keeps_lineRanges, step_keeps_portRanges, step_keeps_electionRanges, step_keeps_unitRanges⟩

/-! ### The window law (R38 to R41, R45) -/

theorem positionsInRange_gaining {u : PathUnit} (law : u.positionsInRange) (list : List Candidate) :
    (u.gaining list).positionsInRange := ⟨nofun, law.2⟩

theorem State.kept_windowLaw : State.Kept State.windowLaw where
  path {s t} step law := by
    obtain ⟨lawful, records⟩ := State.windowLaw_iff.mp law
    refine State.windowLaw_iff.mpr ⟨?_, fun p => (step.paths p).positions (records p)⟩
    rw [step.rest]
    exact lawful
  lane step _ law := by rw [step.rest]; exact law
  thermal step law := by rw [step.rest]; exact law
  latch {s} law := by
    obtain ⟨⟨lawful, follows, room⟩, records⟩ := State.windowLaw_iff.mp law
    refine State.windowLaw_iff.mpr ⟨⟨fun k => ?_, fun k => ?_, fun k r left => ?_⟩, fun p => ?_⟩
    · rw [service_latch]
      split
      · exact lawful k
      · exact lawful k
    · rw [service_latch]
      split
      · exact follows k
      · exact follows k
    · rw [service_latch]
      split
      · exact room k r left
      · exact room k r left
    · have path : (latch s).path p = { s.path p with counters := .zero } := Quad.get_map ..
      rw [path]
      exact records p
  figures {s} law := by obtain ⟨i, only⟩ := computeFigures_only s; rw [only]; exact law
  publish {s} law := by obtain ⟨i, only⟩ := publish_only s; rw [only]; exact law
  rates {s} y law := by obtain ⟨p, only⟩ := rateUpdatePort_only s y; rw [only]; exact law
  fitness {s} works law := by rw [(laneStep_fitnessOnInterval works).rest]; exact law
  shutDown {s} _ _ law := by
    obtain ⟨⟨lawful, follows, -⟩, records⟩ := State.windowLaw_iff.mp law
    refine State.windowLaw_iff.mpr ⟨⟨fun k => ?_, fun k => ?_, fun k r left => (Option.some_ne_none _ left.symm).elim⟩,
      fun p => ?_⟩
    · rw [service_shutDown]
      split
      · exact Service.lawful_of_empty rfl rfl rfl
      · exact lawful k
    · rw [service_shutDown]
      split
      · exact Service.stateFollows_of_dark rfl rfl rfl
      · exact follows k
    · obtain ⟨v, a, b, shut⟩ := shutDown_only s
      have path : (shutDown s).path p = (s.path p).stopped := by rw [shut]; exact Quad.get_map ..
      rw [path]
      exact (PathUnit.keeps_stopped (list := []) (shut := true)).positions (records p)
  reset s cause _ _ _ := windowLaw_resetBlocks s cause _
  load _ _ := id
  start {s} _ law := by
    obtain ⟨-, records⟩ := State.windowLaw_iff.mp law
    refine State.windowLaw_iff.mpr ⟨⟨fun k => ?_, fun k => ?_, fun k r left => ?_⟩, fun p => ?_⟩
    · rw [service_startStation]
      obtain ⟨-, window, ref, front, -⟩ := startService_fresh (s.loader.raw.validate.1.services.get k)
      exact Service.lawful_of_empty window ref front
    · rw [service_startStation]
      obtain ⟨-, window, -, -, state, tracking⟩ := startService_fresh (s.loader.raw.validate.1.services.get k)
      exact Service.stateFollows_of_dark state window tracking
    · rw [startStation_eq] at left
      exact (Option.some_ne_none _ left.symm).elim
    · have path : (startStation s).path p = if s.loader.raw.validate.1.starts p
          then (s.path p).gaining (s.loader.raw.validate.1.candidates.get p) else s.path p := by
        rw [startStation_eq]
        exact Quad.get_map ..
      rw [path]
      split
      · exact positionsInRange_gaining (records p) _
      · exact records p

theorem step_keeps_windowLaw (s t : State) (law : s.windowLaw) (stepped : step s = .next t) : t.windowLaw := by
  obtain ⟨lawful, records⟩ := State.windowLaw_iff.mp law
  refine State.kept_windowLaw.step (fun _ => .of_windows fun t step moves => ?_) law stepped
  refine State.windowLaw_iff.mpr ⟨step.lawful records lawful, fun p => ?_⟩
  obtain ⟨positions, inRange⟩ := records p
  have path := moves.paths p
  refine ⟨?_, fun r member => inRange r (moves.sent p member)⟩
  rw [path]
  exact positions

/-! ### The contributor law (R36, R37, R56) -/

theorem State.contributorLaw_of_same (law : s.contributorLaw) (config : t.config = s.config)
    (contributors : ∀ k, (t.service k).contributors = (s.service k).contributors) : t.contributorLaw := by
  have slot (k : SlotNo) : t.slotConfig k = s.slotConfig k := congrArg (fun q : Config => q.services.get k) config
  unfold State.contributorLaw at law ⊢
  simp only [slot, contributors]
  exact law

theorem State.kept_contributorLaw : State.Kept State.contributorLaw where
  path step law := by rw [step.rest]; exact law
  lane step _ law := by rw [step.rest]; exact law
  thermal step law := by rw [step.rest]; exact law
  latch {s} law := State.contributorLaw_of_same law rfl fun k => by rw [service_latch]; split <;> rfl
  figures {s} law := by obtain ⟨i, only⟩ := computeFigures_only s; rw [only]; exact law
  publish {s} law := by obtain ⟨i, only⟩ := publish_only s; rw [only]; exact law
  rates {s} y law := by obtain ⟨p, only⟩ := rateUpdatePort_only s y; rw [only]; exact law
  fitness {s} works law := by rw [(laneStep_fitnessOnInterval works).rest]; exact law
  shutDown {s} _ _ law := by
    refine State.contributorLaw_of_same law ?_ fun k => by rw [service_shutDown]; split <;> rfl
    obtain ⟨v, a, b, shut⟩ := shutDown_only s
    rw [shut]
  reset s cause _ _ _ := contributorLaw_resetBlocks s cause _
  load _ _ := id
  start {s} _ _ := by
    obtain ⟨-, -, -, -, -, -, services, -⟩ := validationLeavesConfigurationInRange s.loader.raw
    have slot (k : SlotNo) : (startStation s).slotConfig k = s.loader.raw.validate.1.services.get k := by
      rw [startStation_eq]; rfl
    intro k c configured
    rw [slot] at configured
    have contributors : ((startStation s).service k).contributors = c.contributors := by
      rw [service_startStation, configured]; rfl
    obtain ⟨-, ⟨some_, -⟩, -, apart, -⟩ := services k c configured
    rw [contributors]
    refine ⟨Quad.exists_get_of_count_pos some_, fun _ => id, fun j d other at_ p both => ?_⟩
    rw [slot] at at_
    exact apart j d other at_ p ⟨both.2, both.1⟩

end Step

end Sys2Proof.Machine
end

section
/-!
The contributor law and the parked stack under the merge unit's commands (R36, R56, R57, R165 to R168): what a path
leaves or joins, and where its request stands.
-/
namespace Sys2Proof.Machine

/-! ### A stop left off behind a cascade -/

section Stops
variable {s t : State} {k : SlotNo}

/-- No cut cascade has the stop of a path behind it. -/
def State.stopsNone (s : State) : Prop := ∀ p, ¬ s.stopsAfterCascade p

theorem State.stopsNone_of_free (free : s.cascading = none) : s.stopsNone := fun _ ⟨_, left⟩ =>
  Option.some_ne_none _ (left.symm.trans free)

theorem State.stopsNone_congr (same : t.cascading = s.cascading) (law : s.stopsNone) : t.stopsNone := fun p ⟨k, left⟩ =>
  law p ⟨k, same.symm.trans left⟩

theorem stopsNone_testHead (free : s.cascading = none) (k : SlotNo) (cut : Option Nat) {rest : AfterCascade}
    (other : ∀ p, rest ≠ .stops p) : (testHead s k cut rest).stopsNone := by
  obtain none_ | ⟨-, left, -⟩ := cascading_testHead (k := k) free cut rest
  · exact State.stopsNone_of_free none_
  · exact fun p ⟨j, same⟩ => other p (Cascade.mk.inj (Option.some.inj (left.symm.trans same))).2

theorem stopsNone_openEntry (free : s.cascading = none) (k : SlotNo) (c : ServiceConfig) (n : Nat) (r : Record)
    (cut : Option Nat) : (openEntry s k c n r cut).stopsNone := by
  unfold openEntry
  extract_lets v e w t
  split
  · exact stopsNone_testHead (s := t) free k cut fun _ => nofun
  · exact State.stopsNone_of_free free

theorem stopsNone_openAfterForce (free : s.cascading = none) (k : SlotNo) (c : ServiceConfig) (n : Nat) (r : Record)
    (cut : Option Nat) : (openAfterForce s k c n r cut).stopsNone := by
  unfold openAfterForce
  split
  · exact State.stopsNone_of_free free
  · exact stopsNone_openEntry free k c n r cut

theorem stopsNone_openOrForce (free : s.cascading = none) (k : SlotNo) (c : ServiceConfig) (n : Nat) (r : Record)
    (cut : Option Nat) : (openOrForce s k c n r cut).stopsNone := by
  unfold openOrForce
  split
  · exact stopsNone_openEntry free k c n r cut
  · extract_lets forced t taken
    have tested : t.stopsNone := stopsNone_testHead ((cascading_resolveHead s k true).trans free) k cut fun _ => nofun
    clear_value t
    split
    · exact tested
    next whole => exact stopsNone_openAfterForce (Option.not_isSome_iff_eq_none.mp whole) k c n r _

theorem stopsNone_afterModeCheck (free : s.cascading = none) (k : SlotNo) (c : ServiceConfig) (n : Nat) (r : Record)
    (cut : Option Nat) : (afterModeCheck s k c n r cut).stopsNone := by
  unfold afterModeCheck
  extract_lets v
  split
  · exact State.stopsNone_of_free free
  · split
    · split
      · exact State.stopsNone_of_free free
      · exact iteInduction (motive := fun t : State => t.stopsNone)
          (fun _ => stopsNone_testHead (s := s.updService k _) free k cut fun _ => nofun)
          fun _ => State.stopsNone_of_free free
    · split
      · exact stopsNone_openOrForce free k c n r cut
      · exact State.stopsNone_of_free free

theorem stopsNone_arrive (free : s.cascading = none) (k : SlotNo) (c : ServiceConfig) (r : Record) (cut : Option Nat) :
    (arrive s k c r cut).stopsNone := by
  unfold arrive
  split
  · exact stopsNone_afterModeCheck (s := s.updService k _) free k c r.n r cut
  · split
    · exact stopsNone_afterModeCheck free k c _ r cut
    · exact State.stopsNone_of_free free

theorem cascading_reviewAtEnd (s : State) (k : SlotNo) : (reviewAtEnd s k).cascading = s.cascading := by
  obtain ⟨v, a, b, same⟩ := reviewAtEnd_only s k
  rw [same]

theorem cascading_takeMessage {p : Path} {m : PathMessage} (taken : s.takeMessage p = some (m, t)) :
    t.cascading = s.cascading := by
  obtain ⟨rest, -, rfl⟩ := takeMessage_only taken
  rfl

end Stops

/-! ### The two laws of the exchange -/

section Exchange
variable {s t u : State}

/-- What the thermal controller and the merge unit keep between them. -/
def State.exchanges (s : State) : Prop := s.contributorLaw ∧ s.stackLaw

theorem State.parkedOut_of_same (slot : ∀ k, t.slotConfig k = s.slotConfig k) {p : Path}
    (contributors : ∀ k, (s.slotConfig k).isSome = true → (s.service k).contributors.get p = false →
      (t.service k).contributors.get p = false) (out : s.parkedOut p) : t.parkedOut p := by
  obtain ⟨outside, k, c, configured, contributes⟩ := out
  refine ⟨fun j at_ => ?_, k, c, (slot k).trans configured, contributes⟩
  rw [slot] at at_
  exact contributors j at_ (outside j at_)

/-- The stack under the merge unit: it moves no path on it, and the exchange is its own matter. -/
theorem State.stackLaw_of_moves (moves : s.MergeMoves t)
    (out : ∀ p ∈ s.thermal.stack, s.parkedOut p → t.parkedOut p)
    (unparks : ∀ p ∈ s.thermal.stack, PathOrder.unpark ∈ (t.path p).inbox → PathOrder.unpark ∈ (s.path p).inbox)
    (exchange : s.thermal.shutdown = false → s.exchangeLaw → t.exchangeLaw) (law : s.stackLaw) : t.stackLaw := by
  have thermal : t.thermal = s.thermal := by rw [moves.rest]
  have loader : t.loader = s.loader := by rw [moves.rest]
  obtain ⟨short, distinct, parked, stopped, exchanged⟩ := law
  unfold State.stackLaw
  rw [thermal, loader]
  refine ⟨short, distinct, fun p member => ?_, stopped, fun awake => exchange awake (exchanged awake)⟩
  obtain ⟨state, outside, none_⟩ := parked p member
  exact ⟨by rw [moves.paths p]; exact state, out p member outside, fun waits => none_ (unparks p member waits)⟩

theorem State.exchangeLaw_of_same (thermal : t.thermal = s.thermal) (requests : t.requests = s.requests)
    (answers : t.answers = s.answers) (parkedOut : ∀ p, s.parkedOut p → t.parkedOut p) (before : s.stopsNone)
    (after : t.stopsNone) (law : s.exchangeLaw) : t.exchangeLaw := by
  unfold State.exchangeLaw at law ⊢
  rw [thermal, requests, answers]
  split at law
  · obtain ⟨idle, none_, -⟩ := law
    exact ⟨idle, none_, after⟩
  next p _ =>
    obtain ⟨off, ⟨one, none_, -⟩ | ⟨-, -, stops, -⟩ | ⟨idle, one, outside, -⟩ | ⟨idle, one, -⟩⟩ := law
    · exact ⟨off, .inl ⟨one, none_, after⟩⟩
    · exact absurd stops (before p)
    · exact ⟨off, .inr (.inr (.inl ⟨idle, one, parkedOut p outside, after⟩))⟩
    · exact ⟨off, .inr (.inr (.inr ⟨idle, one, after⟩))⟩
  · obtain ⟨off, -, rest⟩ := law
    exact ⟨off, after, rest⟩

/-- A step that moves no contributor and takes no request, with nothing left off to stop a path. -/
theorem State.exchanges_mergeStep (step : s.MergeStep t) (before : s.stopsNone) (after : t.stopsNone)
    (law : s.exchanges) : t.exchanges := by
  obtain ⟨contributors, stack⟩ := law
  have out (p : Path) : s.parkedOut p → t.parkedOut p :=
    State.parkedOut_of_same step.slotConfig fun k _ outside => by rw [step.contributors]; exact outside
  refine ⟨State.contributorLaw_of_same contributors (by rw [step.rest]) step.contributors,
    State.stackLaw_of_moves step.toMergeMoves (fun p _ => out p) (fun p _ => step.unparks p) (fun _ => ?_) stack⟩
  exact State.exchangeLaw_of_same (by rw [step.rest]) step.requests step.answers out before after

/-- Where the exchange stands when a stop is behind a cut cascade (R56 (2)). -/
theorem State.exchangeLaw_of_stops {p : Path} (law : s.exchangeLaw) (stops : s.stopsAfterCascade p) :
    s.thermal.outstanding = some (.park p) ∧ p ∉ s.thermal.stack ∧ s.requests = [] ∧ s.answers = [] ∧
      s.parkedOut p := by
  unfold State.exchangeLaw at law
  split at law
  · exact absurd stops (law.2.2 p)
  next q out =>
    obtain ⟨off, ⟨-, -, none_⟩ | ⟨idle, none_, ⟨j, left⟩, outside⟩ | ⟨-, -, -, none_⟩ | ⟨-, -, none_⟩⟩ := law
    · exact absurd stops (none_ p)
    · obtain ⟨k, same⟩ := stops
      obtain rfl : q = p := AfterCascade.stops.inj (Cascade.mk.inj (Option.some.inj (left.symm.trans same))).2
      exact ⟨out, off, idle, none_, outside⟩
    · exact absurd stops (none_ p)
    · exact absurd stops (none_ p)
  · exact absurd stops (law.2.1 p)

/-- A request that waits is the outstanding one, and nothing else of the exchange is on its way (R165, R168). -/
theorem State.exchangeLaw_of_request {q : Request} {rest : List Request} (law : s.exchangeLaw)
    (waits : s.requests = q :: rest) :
    rest = [] ∧ s.answers = [] ∧ ∃ p, p ∉ s.thermal.stack ∧ s.thermal.outstanding = some q ∧
      (q = .park p ∨ q = .unpark p) := by
  have never {l : List Request} (idle : l = []) (same : l = q :: rest) : False :=
    List.cons_ne_nil _ _ (same.symm.trans idle)
  unfold State.exchangeLaw at law
  split at law
  · exact (never law.1 waits).elim
  next p out =>
    obtain ⟨off, ⟨one, none_, -⟩ | ⟨idle, -⟩ | ⟨idle, -⟩ | ⟨idle, -⟩⟩ := law
    · obtain ⟨rfl, rfl⟩ := List.cons.inj (waits.symm.trans one)
      exact ⟨rfl, none_, p, off, out, .inl rfl⟩
    · exact (never idle waits).elim
    · exact (never idle waits).elim
    · exact (never idle waits).elim
  next p out =>
    obtain ⟨off, -, ⟨one, none_⟩ | ⟨idle, -⟩⟩ := law
    · obtain ⟨rfl, rfl⟩ := List.cons.inj (waits.symm.trans one)
      exact ⟨rfl, none_, p, off, out, .inr rfl⟩
    · exact (never idle waits).elim

theorem unpark_mem_stopParked {p q : Path} (waits : PathOrder.unpark ∈ ((stopParked t p).path q).inbox) :
    PathOrder.unpark ∈ (t.path q).inbox := by
  by_cases here : q = p
  · subst here
    rw [show (stopParked t q).path q = { t.path q with inbox := (t.path q).inbox ++ [.stop] } from
      State.path_updPath_self ..] at waits
    simpa using waits
  · rwa [show (stopParked t p).path q = t.path q from State.path_updPath_of_ne _ _ here] at waits

/-- R56 (2): the stop of a parked path, whose acknowledgement goes with it. -/
theorem State.exchanges_finishCascade (law : s.exchanges) : (finishCascade s).exchanges := by
  have free := State.stopsNone_of_free (cascading_finishCascade s)
  have moves := mergeMoves_finishCascade s
  obtain ⟨step, stops⟩ | ⟨k, p, t, left, step, same⟩ := mergeStep_finishCascade s
  · exact State.exchanges_mergeStep step stops free law
  · obtain ⟨contributors, stack⟩ := law
    rw [same] at free moves ⊢
    have sets : ∀ j, ((stopParked t p).service j).contributors = (s.service j).contributors := step.contributors
    have out (q : Path) : s.parkedOut q → (stopParked t p).parkedOut q :=
      State.parkedOut_of_same moves.slotConfig fun j _ outside => by rw [sets]; exact outside
    have answers : t.answers = s.answers := step.answers
    have requests : t.requests = s.requests := step.requests
    refine ⟨State.contributorLaw_of_same contributors (by rw [moves.rest]) sets,
      State.stackLaw_of_moves moves (fun q _ => out q) (fun q _ => step.unparks q ∘ unpark_mem_stopParked)
        (fun _ law => ?_) stack⟩
    obtain ⟨outstanding, off, idle, none_, outside⟩ := State.exchangeLaw_of_stops law ⟨k, left⟩
    have thermal : (stopParked t p).thermal = s.thermal := by rw [moves.rest]
    unfold State.exchangeLaw
    rw [thermal, outstanding]
    refine ⟨off, .inr (.inr (.inl ⟨requests.trans idle, ?_, out p outside, free⟩))⟩
    change t.answers ++ [.parked p] = _
    rw [answers, none_, List.nil_append]

theorem State.exchanges_mergeAt (m : Moment) (law : s.exchanges) : (s.mergeAt m).exchanges :=
  State.exchanges_mergeStep (mergeStep_tickTo ..) (State.stopsNone_of_free (cascading_finishCascade s))
    (State.stopsNone_of_free (cascading_mergeAt s m)) (State.exchanges_finishCascade law)

/-- R165, R168: the answer to the outstanding request, that refuses it. -/
theorem State.exchanges_refused {q : Request} {rest : List Request} {a : Answer} (stops : s.stopsNone)
    (waits : s.requests = q :: rest) (awake : s.thermal.shutdown = false)
    (answer : ∀ p, q = .park p → a = .parkRefused p) (unparkAnswer : ∀ p, q = .unpark p → a = .unparkRefused p)
    (law : s.exchanges) : ({ s with requests := rest, answers := s.answers ++ [a] } : State).exchanges := by
  obtain ⟨contributors, short, distinct, parked, stopped, exchanged⟩ := law
  obtain ⟨rfl, none_, p, off, outstanding, which⟩ := State.exchangeLaw_of_request (exchanged awake) waits
  refine ⟨contributors, short, distinct, parked, stopped, fun _ => ?_⟩
  unfold State.exchangeLaw
  dsimp only
  rw [outstanding, none_, List.nil_append]
  obtain rfl | rfl := which
  · exact ⟨off, .inr (.inr (.inr ⟨rfl, by rw [answer p rfl], stops⟩))⟩
  · exact ⟨off, stops, .inr ⟨rfl, .inr (by rw [unparkAnswer p rfl])⟩⟩

theorem Quad.exists_other_of_two_le_count {q : Quad Bool} (many : 2 ≤ q.count) (p : Fin 4) :
    ∃ r, r ≠ p ∧ q.get r = true := by
  obtain ⟨q0, q1, q2, q3⟩ := q
  revert q0 q1 q2 q3 p
  decide

/-- R56: a path leaves a contributor set of two or more. -/
theorem State.contributorLaw_parted {p : Path} {k : SlotNo} (law : s.contributorLaw) (serves : s.serviceOf p = some k)
    (many : 2 ≤ (s.service k).contributors.count) (config : t.config = s.config)
    (contributors : ∀ j, (t.service j).contributors =
      if j = k then (s.service k).contributors.set p false else (s.service j).contributors) :
    t.contributorLaw ∧ t.parkedOut p ∧ ∀ r, s.parkedOut r → t.parkedOut r := by
  have slot (j : SlotNo) : t.slotConfig j = s.slotConfig j := congrArg (fun q : Config => q.services.get j) config
  obtain ⟨configured, serves⟩ := State.configured_of_serviceOf serves
  obtain ⟨c, configured⟩ := Option.isSome_iff_exists.mp configured
  obtain ⟨-, within, apart⟩ := law k c configured
  have fewer (j : SlotNo) (r : Path) (gets : (t.service j).contributors.get r = true) :
      (s.service j).contributors.get r = true ∧ ¬ (j = k ∧ r = p) := by
    rw [contributors] at gets
    split at gets
    next here =>
      subst here
      by_cases same : r = p
      · subst same; simp at gets
      · exact ⟨by rwa [Quad.get_set_of_ne _ _ same] at gets, fun both => same both.2⟩
    next other => exact ⟨gets, fun both => other both.1⟩
  refine ⟨fun j d at_ => ?_, ⟨fun j at_ => ?_, k, c, (slot k).trans configured, within p serves⟩, fun r out =>
    State.parkedOut_of_same slot (fun j _ outside => Bool.eq_false_iff.mpr fun gets =>
      Bool.false_ne_true (outside.symm.trans (fewer j r gets).1)) out⟩
  · rw [slot] at at_
    obtain ⟨⟨r, gets⟩, among, disjoint⟩ := law j d at_
    refine ⟨?_, fun r gets => among r (fewer j r gets).1, fun i e other at_ => disjoint i e other (slot i ▸ at_)⟩
    by_cases here : j = k
    · subst here
      obtain ⟨q, other, stays⟩ := Quad.exists_other_of_two_le_count many p
      exact ⟨q, by rw [contributors, if_pos rfl, Quad.get_set_of_ne _ _ other]; exact stays⟩
    · exact ⟨r, by rw [contributors, if_neg here]; exact gets⟩
  · refine Bool.eq_false_iff.mpr fun gets => ?_
    obtain ⟨gets, not_⟩ := fewer j p gets
    by_cases here : j = k
    · exact not_ ⟨here, rfl⟩
    · rw [slot] at at_
      obtain ⟨d, at_⟩ := Option.isSome_iff_exists.mp at_
      exact apart j d here at_ p ⟨within p serves, (law j d at_).2.1 p gets⟩

/-- R57: a path joins the contributor set of its configured service. -/
theorem State.contributorLaw_joined {p : Path} {k : SlotNo} {c : ServiceConfig} (law : s.contributorLaw)
    (configured : s.slotConfig k = some c) (contributes : c.contributors.get p = true) (config : t.config = s.config)
    (contributors : ∀ j, (t.service j).contributors =
      if j = k then (s.service k).contributors.set p true else (s.service j).contributors) :
    t.contributorLaw ∧ ∀ r, r ≠ p → s.parkedOut r → t.parkedOut r := by
  have slot (j : SlotNo) : t.slotConfig j = s.slotConfig j := congrArg (fun q : Config => q.services.get j) config
  have others (j : SlotNo) (r : Path) (other : r ≠ p) :
      (t.service j).contributors.get r = (s.service j).contributors.get r := by
    rw [contributors]
    split
    next here => subst here; rw [Quad.get_set_of_ne _ _ other]
    · rfl
  refine ⟨fun j d at_ => ?_, fun r other out => State.parkedOut_of_same slot (fun j _ outside => by
    rw [others j r other]; exact outside) out⟩
  rw [slot] at at_
  obtain ⟨⟨r, gets⟩, among, disjoint⟩ := law j d at_
  by_cases here : j = k
  · subst here
    obtain rfl : c = d := Option.some.inj (configured.symm.trans at_)
    refine ⟨⟨p, by rw [contributors, if_pos rfl, Quad.get_set_self]⟩, fun r gets => ?_, fun i e other at_ =>
      disjoint i e other (slot i ▸ at_)⟩
    by_cases same : r = p
    · subst same; exact contributes
    · exact among r (others j r same ▸ gets)
  · have stands : (t.service j).contributors = (s.service j).contributors := by rw [contributors, if_neg here]
    rw [stands]
    exact ⟨⟨r, gets⟩, among, fun i e other at_ => disjoint i e other (slot i ▸ at_)⟩

end Exchange

/-! ### The commands -/

section Commands
variable {s t : State}

theorem exchanges_execCopyArrival (p : Path) (m : Moment) (law : s.exchanges) :
    Answers State.exchanges (execCopyArrival p m s) := by
  have merged := State.exchanges_mergeAt m law
  have free := cascading_mergeAt s m
  unfold execCopyArrival
  extract_lets now
  change now.exchanges at merged
  change now.cascading = none at free
  clear_value now
  split
  next r t taken =>
    have step := mergeStep_takeMessage taken
    have idle : t.cascading = none := (cascading_takeMessage taken).trans free
    have takenLaw := State.exchanges_mergeStep step (State.stopsNone_of_free free) (State.stopsNone_of_free idle) merged
    split
    next k c _ =>
      split
      · refine answers_next.mpr (State.exchanges_mergeStep ((mergeStep_arrive t k c r m.cut).trans
          (mergeStep_reviewAtEnd _ k))
          (State.stopsNone_of_free idle) ?_ takenLaw)
        exact State.stopsNone_congr (cascading_reviewAtEnd _ k) (stopsNone_arrive idle k c r m.cut)
      · exact answers_next.mpr takenLaw
    · exact answers_next.mpr takenLaw
  · exact answers_next.mpr merged

theorem exchanges_execEntryExpiry (k : SlotNo) (m : Moment) (law : s.exchanges) :
    Answers State.exchanges (execEntryExpiry k m s) := by
  have merged := State.exchanges_mergeAt m law
  have free := cascading_mergeAt s m
  unfold execEntryExpiry
  extract_lets now
  change now.exchanges at merged
  change now.cascading = none at free
  clear_value now
  split
  · split
    · refine answers_next.mpr (State.exchanges_mergeStep ((mergeStep_testHead ..).trans (mergeStep_reviewAtEnd ..))
        (State.stopsNone_of_free free) ?_ merged)
      exact State.stopsNone_congr (cascading_reviewAtEnd _ k) (stopsNone_testHead free k m.cut fun _ => nofun)
    · exact answers_next.mpr merged
  · exact answers_next.mpr merged

theorem exchanges_execTrackingNotice (p : Path) (law : s.exchanges) :
    Answers State.exchanges (execTrackingNotice p s) := by
  have merged := State.exchanges_finishCascade law
  have free := cascading_finishCascade s
  unfold execTrackingNotice
  extract_lets now
  change now.exchanges at merged
  change now.cascading = none at free
  clear_value now
  split
  next stay t taken =>
    have step := mergeStep_takeMessage taken
    have idle : t.cascading = none := (cascading_takeMessage taken).trans free
    have takenLaw := State.exchanges_mergeStep step (State.stopsNone_of_free free) (State.stopsNone_of_free idle) merged
    split
    next k _ _ =>
      refine answers_next.mpr (State.exchanges_mergeStep (((mergeStep_notes t (le_refl t.now) _ _ _ _).trans
        (mergeStep_updService rfl)).trans (mergeStep_review ..)) (State.stopsNone_of_free idle) ?_ takenLaw)
      exact State.stopsNone_of_free ((cascading_review _ k).trans idle)
    · exact answers_next.mpr takenLaw
  · exact answers_next.mpr merged

theorem exchanges_execLeavingNotice (p : Path) (m : Moment) (law : s.exchanges) :
    Answers State.exchanges (execLeavingNotice p m s) := by
  have merged := State.exchanges_mergeAt m law
  have free := cascading_mergeAt s m
  unfold execLeavingNotice
  extract_lets now
  change now.exchanges at merged
  change now.cascading = none at free
  clear_value now
  split
  next t taken =>
    have step := mergeStep_takeMessage taken
    have idle : t.cascading = none := (cascading_takeMessage taken).trans free
    have takenLaw := State.exchanges_mergeStep step (State.stopsNone_of_free free) (State.stopsNone_of_free idle) merged
    split
    next k _ _ =>
      split
      · refine answers_next.mpr (State.exchanges_mergeStep
          (((mergeStep_updService rfl).trans (mergeStep_testHead ..)).trans
          (mergeStep_reviewAtEnd ..)) (State.stopsNone_of_free idle) ?_ takenLaw)
        exact State.stopsNone_congr (cascading_reviewAtEnd _ k)
          (stopsNone_testHead (s := t.updService k _) idle k m.cut fun _ => nofun)
      · exact answers_next.mpr takenLaw
    · exact answers_next.mpr takenLaw
  · exact answers_next.mpr merged

/-- R56: a path that leaves on request, whether or not its cascade was cut. -/
theorem exchanges_parted {p : Path} {k : SlotNo} {rest : List Request} {settled u : State} (stops : s.stopsNone)
    (waits : s.requests = .park p :: rest) (awake : s.thermal.shutdown = false)
    (serves : s.serviceOf p = some k) (many : 2 ≤ (s.service k).contributors.count)
    (left : u = { s with requests := rest }.updService k fun v =>
      { v.without p with contributors := v.contributors.set p false })
    (settles : u.MergeStep settled) (cut : settled.cascading = none ∨ settled.cascading = some ⟨k, .stops p⟩)
    (law : s.exchanges) :
    (settled.cascading.isSome = true → settled.exchanges) ∧
      (¬ settled.cascading.isSome = true → (stopParked settled p).exchanges) := by
  obtain ⟨contributors, stack⟩ := law
  obtain ⟨rfl, none_, q, off, outstanding, which⟩ := State.exchangeLaw_of_request (stack.exchange awake) waits
  obtain rfl : p = q := by obtain same | same := which <;> cases same; rfl
  have parts : s.MergeMoves settled := by
    rw [left] at settles
    exact ((mergeMoves_exchange s [] s.answers).trans (mergeMoves_updService _ _ _)).trans settles.toMergeMoves
  have sets (j : SlotNo) : (settled.service j).contributors =
      if j = k then (s.service k).contributors.set p false else (s.service j).contributors := by
    rw [settles.contributors, left, State.service_updService]
    split <;> rfl
  have config : settled.config = s.config := by rw [parts.rest]
  have thermal : settled.thermal = s.thermal := by rw [parts.rest]
  have idle : settled.requests = [] := by rw [settles.requests, left]; rfl
  have answers : settled.answers = [] := by rw [settles.answers, left]; exact none_
  have unparks (r : Path) : PathOrder.unpark ∈ (settled.path r).inbox → PathOrder.unpark ∈ (s.path r).inbox := by
    have step := settles.unparks r
    rw [left] at step
    exact step
  obtain ⟨parted, outside, outs⟩ := State.contributorLaw_parted contributors serves many config sets
  constructor
  · intro isCut
    have cut : settled.cascading = some ⟨k, .stops p⟩ := cut.resolve_left fun free => by
      rw [free] at isCut; exact Bool.false_ne_true isCut
    refine ⟨parted, State.stackLaw_of_moves parts (fun r _ => outs r) (fun r _ => unparks r) (fun _ _ => ?_) stack⟩
    unfold State.exchangeLaw
    rw [thermal, outstanding]
    exact ⟨off, .inr (.inl ⟨idle, answers, ⟨k, cut⟩, outside⟩)⟩
  · intro whole
    have free : (stopParked settled p).stopsNone := State.stopsNone_of_free (Option.not_isSome_iff_eq_none.mp whole)
    refine ⟨parted, State.stackLaw_of_moves (parts.trans (mergeMoves_stopParked settled p)) (fun r _ => outs r)
      (fun r _ => unparks r ∘ unpark_mem_stopParked) (fun _ _ => ?_) stack⟩
    unfold State.exchangeLaw
    rw [show (stopParked settled p).thermal = s.thermal from thermal, outstanding]
    refine ⟨off, .inr (.inr (.inl ⟨idle, ?_, outside, free⟩))⟩
    change settled.answers ++ [.parked p] = _
    rw [answers, List.nil_append]

theorem exchanges_execParkRequest (m : Moment) (law : s.exchanges) : Answers State.exchanges (execParkRequest m s) := by
  have merged := State.exchanges_mergeAt m law
  have free := cascading_mergeAt s m
  unfold execParkRequest
  extract_lets now
  change now.exchanges at merged
  change now.cascading = none at free
  clear_value now
  split
  next p rest waits =>
    split
    · exact answers_next.mpr merged
    next awake =>
      have awake := Bool.eq_false_iff.mpr awake
      have refused := State.exchanges_refused (a := .parkRefused p) (State.stopsNone_of_free free) waits awake
        (fun q same => by cases same; rfl) nofun merged
      extract_lets u
      split
      next k serves =>
        split
        next many =>
          extract_lets left settled
          have cut : settled.cascading = none ∨ settled.cascading = some ⟨k, .stops p⟩ := by
            have tested := cascading_testHead (s := left) (k := k) free m.cut (.stops p)
            rw [show settled.cascading = _ from cascading_reviewAtEnd ..]
            exact tested.imp_right fun ⟨_, left, _⟩ => left
          obtain ⟨cutLaw, wholeLaw⟩ := exchanges_parted (settled := settled) (State.stopsNone_of_free free) waits awake
            serves many rfl ((mergeStep_testHead left k m.cut (.stops p)).trans (mergeStep_reviewAtEnd _ k)) cut merged
          clear_value settled
          split
          next cut => exact answers_next.mpr (cutLaw cut)
          next whole => exact answers_next.mpr (wholeLaw whole)
        · exact answers_next.mpr refused
      · exact answers_next.mpr refused
  · exact answers_next.mpr merged

theorem State.configured_of_configuredServiceOf {p : Path} {k : SlotNo} (found : s.configuredServiceOf p = some k) :
    ∃ c, s.slotConfig k = some c ∧ c.contributors.get p = true := by
  have any : ((s.slotConfig k).any fun c => c.contributors.get p) = true :=
    List.find?_some (p := fun k => (s.slotConfig k).any fun c : ServiceConfig => c.contributors.get p) found
  cases configured : s.slotConfig k with
  | none => rw [configured] at any; exact nomatch any
  | some c => rw [configured] at any; exact ⟨c, rfl, any⟩

/-- R57: a parked path that joins on request. -/
theorem exchanges_joined {p : Path} {k : SlotNo} {rest : List Request} (stops : s.stopsNone)
    (waits : s.requests = .unpark p :: rest) (awake : s.thermal.shutdown = false)
    (found : s.configuredServiceOf p = some k) (moves : s.MergeMoves t)
    (sets : ∀ j, (t.service j).contributors =
      if j = k then (s.service k).contributors.set p true else (s.service j).contributors)
    (unparks : ∀ r, r ≠ p → PathOrder.unpark ∈ (t.path r).inbox → PathOrder.unpark ∈ (s.path r).inbox)
    (still : t.cascading = s.cascading) (requests : t.requests = rest)
      (answers : t.answers = s.answers ++ [.unparked p])
    (law : s.exchanges) : t.exchanges := by
  obtain ⟨contributors, stack⟩ := law
  obtain ⟨rfl, none_, q, off, outstanding, which⟩ := State.exchangeLaw_of_request (stack.exchange awake) waits
  obtain rfl : p = q := by obtain same | same := which <;> cases same; rfl
  obtain ⟨c, configured, contributes⟩ := State.configured_of_configuredServiceOf found
  have thermal : t.thermal = s.thermal := by rw [moves.rest]
  obtain ⟨joined, outs⟩ := State.contributorLaw_joined contributors configured contributes (by rw [moves.rest]) sets
  refine ⟨joined, State.stackLaw_of_moves moves (fun r member => outs r fun same => off (same ▸ member))
    (fun r member => unparks r fun same => off (same ▸ member)) (fun _ _ => ?_) stack⟩
  unfold State.exchangeLaw
  rw [thermal, outstanding]
  exact ⟨off, State.stopsNone_congr still stops, .inr ⟨requests, .inl (by rw [answers, none_, List.nil_append])⟩⟩

theorem exchanges_execUnparkRequest (law : s.exchanges) : Answers State.exchanges (execUnparkRequest s) := by
  have merged := State.exchanges_finishCascade law
  have free := cascading_finishCascade s
  unfold execUnparkRequest
  extract_lets now
  change now.exchanges at merged
  change now.cascading = none at free
  clear_value now
  split
  next p rest waits =>
    split
    · exact answers_next.mpr merged
    next awake =>
      have awake := Bool.eq_false_iff.mpr awake
      have refused := State.exchanges_refused (a := .unparkRefused p) (State.stopsNone_of_free free) waits awake nofun
        (fun q same => by cases same; rfl) merged
      extract_lets u
      split
      next k found =>
        split
        · exact answers_next.mpr refused
        · extract_lets joined
          have cleared : joined.MergeMoves (joined.disregardSent p) := mergeMoves_mail rfl (List.nil_subset _)
          have ordered : (joined.disregardSent p).MergeMoves ((joined.disregardSent p).sendPath p .unpark) :=
            mergeMoves_mail rfl (List.Subset.refl _)
          have moves := ((((mergeMoves_exchange now rest now.answers).trans (mergeMoves_updService u k _)).trans
            cleared).trans ordered).trans (mergeMoves_exchange _ rest (joined.answers ++ [.unparked p]))
          refine answers_next.mpr (exchanges_joined (State.stopsNone_of_free free) waits awake found moves
            (fun j => ?_) (fun r other => ?_) rfl rfl rfl merged)
          · change (joined.service j).contributors = _
            rw [State.service_updService]
            split <;> rfl
          · change PathOrder.unpark ∈ (((joined.disregardSent p).sendPath p .unpark).path r).inbox → _
            rw [show ((joined.disregardSent p).sendPath p .unpark).path r = (joined.disregardSent p).path r from
              State.path_updPath_of_ne _ _ other, path_disregardSent_of_ne _ other]
            exact id
      · exact answers_next.mpr refused
  · exact answers_next.mpr merged

theorem State.mergeKept_exchanges (law : s.exchanges) : s.MergeKept State.exchanges where
  copyArrival p m := exchanges_execCopyArrival p m law
  entryExpiry k m := exchanges_execEntryExpiry k m law
  trackingNotice p := exchanges_execTrackingNotice p law
  leavingNotice p m := exchanges_execLeavingNotice p m law
  parkRequest m := exchanges_execParkRequest m law
  unparkRequest := exchanges_execUnparkRequest law

end Commands

/-! ### The contributor law by itself -/

section Contributors
variable {s t : State}

theorem State.contributorLaw_mergeStep (step : s.MergeStep t) (law : s.contributorLaw) : t.contributorLaw :=
  State.contributorLaw_of_same law (by rw [step.rest]) step.contributors

theorem State.contributorLaw_finishCascade (law : s.contributorLaw) : (finishCascade s).contributorLaw := by
  obtain ⟨step, -⟩ | ⟨k, p, t, -, step, same⟩ := mergeStep_finishCascade s
  · exact State.contributorLaw_mergeStep step law
  · rw [same]
    exact State.contributorLaw_mergeStep (t := t) step law

theorem State.contributorLaw_mergeAt (m : Moment) (law : s.contributorLaw) : (s.mergeAt m).contributorLaw :=
  State.contributorLaw_finishCascade law

theorem contributorLaw_execParkRequest (m : Moment) (law : s.contributorLaw) :
    Answers State.contributorLaw (execParkRequest m s) := by
  have merged := State.contributorLaw_mergeAt m law
  unfold execParkRequest
  extract_lets now
  change now.contributorLaw at merged
  clear_value now
  split
  next p rest waits =>
    split
    · exact answers_next.mpr merged
    · extract_lets u
      split
      next k serves =>
        split
        next many =>
          extract_lets left settled
          have settles : left.MergeStep settled :=
            (mergeStep_testHead left k m.cut (.stops p)).trans (mergeStep_reviewAtEnd _ k)
          have parted : settled.contributorLaw := by
            refine State.contributorLaw_mergeStep settles (State.contributorLaw_parted (s := u)
              (t := left) merged serves
              many rfl fun j => ?_).1
            change ((u.updService k _).service j).contributors = _
            rw [State.service_updService]
            split <;> rfl
          clear_value settled
          split
          · exact answers_next.mpr parted
          · exact answers_next.mpr parted
        · exact answers_next.mpr merged
      · exact answers_next.mpr merged
  · exact answers_next.mpr merged

theorem contributorLaw_execUnparkRequest (law : s.contributorLaw) :
    Answers State.contributorLaw (execUnparkRequest s) := by
  have merged := State.contributorLaw_finishCascade law
  unfold execUnparkRequest
  extract_lets now
  change now.contributorLaw at merged
  clear_value now
  split
  next p rest waits =>
    split
    · exact answers_next.mpr merged
    · extract_lets u
      split
      next k found =>
        split
        · exact answers_next.mpr merged
        · extract_lets joined
          obtain ⟨c, configured, contributes⟩ := State.configured_of_configuredServiceOf found
          have joins : joined.contributorLaw := by
            refine (State.contributorLaw_joined (s := u) (t := joined) merged configured contributes rfl fun j => ?_).1
            rw [State.service_updService]
            split <;> rfl
          exact answers_next.mpr joins
      · exact answers_next.mpr merged
  · exact answers_next.mpr merged

theorem State.mergeKept_contributorLaw (law : s.contributorLaw) : s.MergeKept State.contributorLaw where
  copyArrival p m := (mergeStep_execCopyArrival p m s).imp fun _ step =>
    State.contributorLaw_mergeStep step (State.contributorLaw_mergeAt m law)
  entryExpiry k m := (mergeStep_execEntryExpiry k m s).imp fun _ step =>
    State.contributorLaw_mergeStep step (State.contributorLaw_mergeAt m law)
  trackingNotice p := (mergeStep_execTrackingNotice p s).imp fun _ step =>
    State.contributorLaw_mergeStep step (State.contributorLaw_finishCascade law)
  leavingNotice p m := (mergeStep_execLeavingNotice p m s).imp fun _ step =>
    State.contributorLaw_mergeStep step (State.contributorLaw_mergeAt m law)
  parkRequest m := contributorLaw_execParkRequest m law
  unparkRequest := contributorLaw_execUnparkRequest law

theorem step_keeps_contributorLaw (s t : State) (law : s.contributorLaw) (stepped : step s = .next t) :
    t.contributorLaw := State.kept_contributorLaw.step (fun _ => State.mergeKept_contributorLaw law) law stepped

/-- Settles O58: the window law by the moves of one service, the contributor law by what parks and unparks move. -/
theorem stepKeepsMergeLaws : Obligations.StepKeepsMergeLaws := ⟨step_keeps_windowLaw, step_keeps_contributorLaw⟩

end Contributors

/-! ### The timer and the parked stack under every step (R65, R166) -/

section Stack
variable {s t : State}

/-- What carries the parked stack through every command. -/
def State.stacked (s : State) : Prop := s.timerWhenStarted ∧ s.exchanges

theorem State.stacked_of_same (law : s.stacked) (interval : t.interval.running = s.interval.running)
    (loader : t.loader.phase = s.loader.phase) (config : t.config = s.config)
    (contributors : ∀ k, (t.service k).contributors = (s.service k).contributors)
    (thermal : t.thermal = s.thermal) (requests : t.requests = s.requests) (answers : t.answers = s.answers)
    (cascading : t.cascading = s.cascading)
    (paths : ∀ p, (s.path p).state = .parked → PathOrder.unpark ∉ (s.path p).inbox →
      (t.path p).state = .parked ∧ PathOrder.unpark ∉ (t.path p).inbox) : t.stacked := by
  obtain ⟨timer, law, short, distinct, parked, stopped, exchanged⟩ := law
  have slot (k : SlotNo) : t.slotConfig k = s.slotConfig k := congrArg (fun q : Config => q.services.get k) config
  have out (p : Path) : s.parkedOut p ↔ t.parkedOut p := by
    unfold State.parkedOut
    simp only [slot, contributors]
  have stops (p : Path) : s.stopsAfterCascade p ↔ t.stopsAfterCascade p := by
    unfold State.stopsAfterCascade
    rw [cascading]
  refine ⟨fun runs => loader.trans (timer (interval.symm.trans runs)),
    State.contributorLaw_of_same law config contributors, ?_⟩
  unfold State.stackLaw State.exchangeLaw
  rw [thermal, loader]
  refine ⟨short, distinct, fun p member => ?_, stopped, fun awake => ?_⟩
  · obtain ⟨state, outside, none_⟩ := parked p member
    obtain ⟨state, none_⟩ := paths p state none_
    exact ⟨state, (out p).mp outside, none_⟩
  · have exchange := exchanged awake
    unfold State.exchangeLaw at exchange
    simp only [out, stops, ← requests, ← answers] at exchange
    exact exchange

theorem State.kept_stacked : State.Kept State.stacked where
  path {s t} step law := by
    have rest := step.rest
    have service (k : SlotNo) : t.service k = s.service k := by rw [rest]; rfl
    refine State.stacked_of_same law (by rw [rest]) (by rw [rest]) (by rw [rest]) (fun k => by rw [service])
      (by rw [rest]) (by rw [rest]) (by rw [rest]) (by rw [rest]) fun p parked none_ => ?_
    exact ⟨(step.paths p).parked parked (.inr none_), mt (step.paths p).unparks none_⟩
  lane step _ law := by rw [step.rest]; exact law
  thermal {s t} step law := by
    obtain ⟨timer, law, stack⟩ := law
    refine ⟨?_, ?_, step.stack law timer stack⟩
    · rw [step.rest]; exact timer
    · rw [step.rest]; exact law
  latch {s} law := State.stacked_of_same law rfl rfl rfl (fun k => by rw [service_latch]; split <;> rfl) rfl rfl rfl rfl
    fun p parked none_ => by
      rw [show (latch s).path p = { s.path p with counters := .zero } from Quad.get_map ..]
      exact ⟨parked, none_⟩
  figures {s} law := by
    obtain ⟨i, only⟩ := computeFigures_only s
    have runs := running_computeFigures s
    rw [only] at runs ⊢
    exact State.stacked_of_same law runs rfl rfl (fun _ => rfl) rfl rfl rfl rfl fun _ parked none_ => ⟨parked, none_⟩
  publish {s} law := by
    obtain ⟨i, only⟩ := publish_only s
    have runs := running_publish s
    rw [only] at runs ⊢
    exact State.stacked_of_same law runs rfl rfl (fun _ => rfl) rfl rfl rfl rfl fun _ parked none_ => ⟨parked, none_⟩
  rates {s} y law := by obtain ⟨p, only⟩ := rateUpdatePort_only s y; rw [only]; exact law
  fitness {s} works law := by rw [(laneStep_fitnessOnInterval works).rest]; exact law
  shutDown {s} runs _ law := by
    have contributors := State.kept_contributorLaw.shutDown runs ‹_› law.2.1
    have sets (k : SlotNo) : ((shutDown s).service k).contributors = (s.service k).contributors := by
      rw [service_shutDown]; split <;> rfl
    have slot (k : SlotNo) : (shutDown s).slotConfig k = s.slotConfig k := by
      obtain ⟨v, a, b, shut⟩ := shutDown_only s; rw [shut]; rfl
    have path (p : Path) : (shutDown s).path p = (s.path p).stopped := by
      obtain ⟨v, a, b, shut⟩ := shutDown_only s; rw [shut]; exact Quad.get_map ..
    obtain ⟨timer, -, short, distinct, parked, stopped, -⟩ := law
    have loader : (shutDown s).loader.phase = .running := by
      obtain ⟨v, a, b, shut⟩ := shutDown_only s; rw [shut]; exact timer runs
    have thermal : (shutDown s).thermal = { s.thermal with shutdown := true, recovery := 0, outstanding := none } := by
      obtain ⟨v, a, b, shut⟩ := shutDown_only s; rw [shut]
    refine ⟨fun _ => loader, contributors, ?_⟩
    unfold State.stackLaw
    rw [thermal, loader]
    refine ⟨short, distinct, fun p member => ?_, fun idle => absurd rfl idle, nofun⟩
    obtain ⟨state, out, none_⟩ := parked p member
    rw [path]
    have keeps := PathUnit.keeps_stopped (list := []) (shut := true) (u := s.path p)
    exact ⟨keeps.parked state (.inl rfl), State.parkedOut_of_same slot (fun k _ outside => by rw [sets]; exact outside)
      out,
      mt keeps.unparks none_⟩
  reset s cause _ _ _ := ⟨nofun, contributorLaw_resetBlocks s cause _, stackLaw_resetBlocks s cause _⟩
  load {s} boot held law := by
    obtain ⟨timer, contributors, short, distinct, parked, stopped, exchanged⟩ := law
    exact ⟨fun runs => (nomatch held.symm.trans (timer runs)), contributors, short, distinct, parked,
      fun _ => stopped (by rw [held]; decide), exchanged⟩
  start {s} loading law := by
    have contributors := State.kept_contributorLaw.start loading law.2.1
    obtain ⟨-, -, -, -, -, stopped, exchanged⟩ := law
    obtain ⟨empty, free⟩ := stopped (by rw [loading]; decide)
    have thermal : (startStation s).thermal = s.thermal := by rw [startStation_eq]
    have still : (startStation s).cascading = none := by rw [startStation_eq]
    have requests : (startStation s).requests = s.requests := by rw [startStation_eq]
    have answers : (startStation s).answers = s.answers := by rw [startStation_eq]
    have phase : (startStation s).loader.phase = .running := by rw [startStation_eq]
    refine ⟨fun _ => phase, contributors, ?_⟩
    unfold State.stackLaw State.exchangeLaw
    rw [thermal, empty, free, requests, answers]
    refine ⟨Nat.zero_le _, List.nodup_nil, List.forall_mem_nil _, fun _ => ⟨rfl, rfl⟩, fun awake => ?_⟩
    obtain ⟨idle, none_, -⟩ := State.exchangeLaw_of_none (exchanged awake) free
    exact ⟨idle, none_, State.stopsNone_of_free still⟩

theorem State.MergeKept.both {P Q : State → Prop} (first : s.MergeKept P) (second : s.MergeKept Q) :
    s.MergeKept fun t => P t ∧ Q t where
  copyArrival p m := (first.copyArrival p m).both (second.copyArrival p m)
  entryExpiry k m := (first.entryExpiry k m).both (second.entryExpiry k m)
  trackingNotice p := (first.trackingNotice p).both (second.trackingNotice p)
  leavingNotice p m := (first.leavingNotice p m).both (second.leavingNotice p m)
  parkRequest m := (first.parkRequest m).both (second.parkRequest m)
  unparkRequest := first.unparkRequest.both second.unparkRequest

theorem step_keeps_stacked (law : s.stacked) (stepped : step s = .next t) : t.stacked := by
  obtain ⟨timer, exchanges⟩ := law
  refine State.kept_stacked.step (fun l => (State.MergeKept.of_moves fun u moves => ?_).both
    (State.mergeKept_exchanges exchanges)) ⟨timer, exchanges⟩ stepped
  rw [moves.rest]
  exact timer

theorem step_keeps_stackLaw (s t : State) (contributors : s.contributorLaw) (shut : s.shutdownLaw) (law : s.stackLaw)
    (stepped : step s = .next t) : t.stackLaw :=
  (step_keeps_stacked ⟨shut.1, contributors, law⟩ stepped).2.2

end Stack

end Sys2Proof.Machine
end

section
/-!
A station in SHUTDOWN stays quiet (R59, R118, R143, R170): the merge unit finds no cascade, no entry and no taker.
-/
namespace Sys2Proof.Machine

section Merge
variable {s t : State}

/-- A merge unit in SHUTDOWN: nothing is left off and no configured service has an entry. -/
def State.mergeAsleep (s : State) : Prop :=
  s.thermal.shutdown = true ∧ s.cascading = none ∧ ∀ k c, s.slotConfig k = some c → (s.service k).window = []

/-- A command that leaves services and cascade alone. -/
def State.SparesServices (s t : State) : Prop := t.services = s.services ∧ t.cascading = s.cascading

theorem taker_of_shutdown (shut : s.thermal.shutdown = true) (p : Path) : s.taker p = none := by
  unfold State.taker
  rw [if_pos shut]

theorem mergeAt_of_free (free : s.cascading = none) (m : Moment) : s.mergeAt m = s.tickTo m.now := by
  rw [State.mergeAt, finishCascade_of_none free]

theorem sparesServices_execCopyArrival (asleep : s.mergeAsleep) (p : Path) (m : Moment) :
    Answers s.SparesServices (execCopyArrival p m s) := by
  obtain ⟨shut, free, -⟩ := asleep
  unfold execCopyArrival
  rw [mergeAt_of_free free]
  dsimp only
  split
  next taken =>
    obtain ⟨rest, -, rfl⟩ := takeMessage_only taken
    split
    next takes => exact absurd (takes.symm.trans (taker_of_shutdown shut p)) (Option.some_ne_none _)
    · exact answers_next.mpr ⟨rfl, rfl⟩
  · exact answers_next.mpr ⟨rfl, rfl⟩

theorem sparesServices_execEntryExpiry (asleep : s.mergeAsleep) (k : SlotNo) (m : Moment) :
    Answers s.SparesServices (execEntryExpiry k m s) := by
  obtain ⟨shut, free, empty⟩ := asleep
  unfold execEntryExpiry
  rw [mergeAt_of_free free]
  dsimp only
  split
  next configured window => exact absurd (window.symm.trans (empty k _ configured)) (List.cons_ne_nil _ _)
  · exact answers_next.mpr ⟨rfl, rfl⟩

theorem sparesServices_execTrackingNotice (asleep : s.mergeAsleep) (p : Path) :
    Answers s.SparesServices (execTrackingNotice p s) := by
  obtain ⟨shut, free, -⟩ := asleep
  unfold execTrackingNotice
  rw [finishCascade_of_none free]
  dsimp only
  split
  next taken =>
    obtain ⟨rest, -, rfl⟩ := takeMessage_only taken
    split
    next takes => exact absurd (takes.symm.trans (taker_of_shutdown shut p)) (Option.some_ne_none _)
    · exact answers_next.mpr ⟨rfl, rfl⟩
  · exact answers_next.mpr ⟨rfl, rfl⟩

theorem sparesServices_execLeavingNotice (asleep : s.mergeAsleep) (p : Path) (m : Moment) :
    Answers s.SparesServices (execLeavingNotice p m s) := by
  obtain ⟨shut, free, -⟩ := asleep
  unfold execLeavingNotice
  rw [mergeAt_of_free free]
  dsimp only
  split
  next taken =>
    obtain ⟨rest, -, rfl⟩ := takeMessage_only taken
    split
    next takes => exact absurd (takes.symm.trans (taker_of_shutdown shut p)) (Option.some_ne_none _)
    · exact answers_next.mpr ⟨rfl, rfl⟩
  · exact answers_next.mpr ⟨rfl, rfl⟩

theorem sparesServices_execParkRequest (asleep : s.mergeAsleep) (m : Moment) :
    Answers s.SparesServices (execParkRequest m s) := by
  obtain ⟨shut, free, -⟩ := asleep
  unfold execParkRequest
  rw [mergeAt_of_free free]
  dsimp only
  split
  · rw [if_pos (show (s.tickTo m.now).thermal.shutdown = true from shut)]
    exact answers_next.mpr ⟨rfl, rfl⟩
  · exact answers_next.mpr ⟨rfl, rfl⟩

theorem sparesServices_execUnparkRequest (asleep : s.mergeAsleep) : Answers s.SparesServices (execUnparkRequest s) := by
  obtain ⟨shut, free, -⟩ := asleep
  unfold execUnparkRequest
  rw [finishCascade_of_none free]
  dsimp only
  split
  · rw [if_pos shut]
    exact answers_next.mpr ⟨rfl, rfl⟩
  · exact answers_next.mpr ⟨rfl, rfl⟩

theorem State.MergeKept.imp {P Q : State → Prop} (kept : s.MergeKept P) (weaker : ∀ t, P t → Q t) : s.MergeKept Q where
  copyArrival p m := (kept.copyArrival p m).imp weaker
  entryExpiry k m := (kept.entryExpiry k m).imp weaker
  trackingNotice p := (kept.trackingNotice p).imp weaker
  leavingNotice p m := (kept.leavingNotice p m).imp weaker
  parkRequest m := (kept.parkRequest m).imp weaker
  unparkRequest := kept.unparkRequest.imp weaker

theorem State.mergeKept_sparesServices (asleep : s.mergeAsleep) : s.MergeKept s.SparesServices where
  copyArrival := sparesServices_execCopyArrival asleep
  entryExpiry := sparesServices_execEntryExpiry asleep
  trackingNotice := sparesServices_execTrackingNotice asleep
  leavingNotice := sparesServices_execLeavingNotice asleep
  parkRequest := sparesServices_execParkRequest asleep
  unparkRequest := sparesServices_execUnparkRequest asleep

end Merge

/-! ### The shutdown law (R65, R170) -/

section Step
variable {s t : State}

theorem State.quietInShutdown_of_awake (awake : t.thermal.shutdown = false) : t.quietInShutdown := fun shut =>
  absurd (shut.symm.trans awake) (by decide)

/-- The lane side of the shutdown law stands with line and election unit. -/
theorem State.shutdownLaw_of_same (law : s.shutdownLaw) (interval : t.interval.running = s.interval.running)
    (loader : t.loader.phase = s.loader.phase) (thermal : t.thermal.shutdown = s.thermal.shutdown)
    (paths : s.thermal.shutdown = true → ∀ p, (s.path p).state = .parked → (t.path p).state = .parked)
    (cascading : s.thermal.shutdown = true → s.cascading = none → t.cascading = none)
    (config : t.config = s.config)
    (services : s.thermal.shutdown = true → ∀ k, (s.service k).window = [] → (s.service k).state = .dark →
      (t.service k).window = [] ∧ (t.service k).state = .dark)
    (quiet : s.StaysQuiet t) : t.shutdownLaw := by
  obtain ⟨timer, law⟩ := law
  have slot (k : SlotNo) : t.slotConfig k = s.slotConfig k := congrArg (fun q : Config => q.services.get k) config
  refine ⟨fun runs => loader.trans (timer (interval.symm.trans runs)), fun shut => ?_⟩
  have shut := thermal.symm.trans shut
  obtain ⟨phase, parked, free, dark, slots, flight, reception, lanes⟩ := law shut
  obtain ⟨-, slots, flight, reception, lanes⟩ := quiet ⟨shut, slots, flight, reception, lanes⟩
  refine ⟨loader.trans phase, fun p => paths shut p (parked p), cascading shut free, fun k c configured => ?_, slots,
    flight, reception, lanes⟩
  obtain ⟨empty, dark⟩ := dark k c (slot k ▸ configured)
  exact services shut k empty dark

theorem State.shutdownLaw_of_moves (law : s.shutdownLaw) (moves : s.MergeMoves t)
    (spares : s.thermal.shutdown = true → s.SparesServices t) : t.shutdownLaw := by
  refine State.shutdownLaw_of_same law (by rw [moves.rest]) (by rw [moves.rest]) (by rw [moves.rest])
    (fun _ p parked => by rw [moves.paths p]; exact parked) (fun shut free => (spares shut).2.trans free)
    (by rw [moves.rest]) (fun shut k empty dark => ?_) (.of_same (by rw [moves.rest]) (by rw [moves.rest])
      (by rw [moves.rest]))
  have same : t.service k = s.service k := congrArg (fun q => Quad.get q k) (spares shut).1
  rw [same]
  exact ⟨empty, dark⟩

theorem State.mergeKept_shutdownLaw (law : s.shutdownLaw) : s.MergeKept State.shutdownLaw := by
  have moved : s.MergeKept s.MergeMoves := .of_moves fun _ => id
  by_cases shut : s.thermal.shutdown = true
  · obtain ⟨-, -, free, dark, -⟩ := law.2 shut
    have spared := State.mergeKept_sparesServices (s := s) ⟨shut, free, fun k c at_ => (dark k c at_).1⟩
    exact (moved.both spared).imp fun t ⟨moves, spares⟩ => State.shutdownLaw_of_moves law moves fun _ => spares
  · exact moved.imp fun t moves => State.shutdownLaw_of_moves law moves fun shut' => absurd shut' shut

theorem State.kept_shutdownLaw : State.Kept State.shutdownLaw where
  path {s t} step law := by
    have rest := step.rest
    have service (k : SlotNo) : t.service k = s.service k := by rw [rest]; rfl
    exact State.shutdownLaw_of_same law (by rw [rest]) (by rw [rest]) (by rw [rest])
      (fun shut p parked => (step.paths p).parked parked (.inl shut)) (fun _ free => by rw [rest]; exact free)
        (by rw [rest])
      (fun _ k empty dark => by rw [service]; exact ⟨empty, dark⟩)
      (.of_same (by rw [rest]) (by rw [rest]) (by rw [rest]))
  lane {s t} step quiet law := by
    have rest := step.rest
    have service (k : SlotNo) : t.service k = s.service k := by rw [rest]; rfl
    have path (p : Path) : t.path p = s.path p := by rw [rest]; rfl
    exact State.shutdownLaw_of_same law (by rw [rest]) (by rw [rest]) (by rw [rest])
      (fun _ p parked => by rw [path]; exact parked) (fun _ free => by rw [rest]; exact free) (by rw [rest])
      (fun _ k empty dark => by rw [service]; exact ⟨empty, dark⟩) quiet
  thermal {s t} step law := by rw [step.rest]; exact law
  latch {s} law := by
    refine State.shutdownLaw_of_same law rfl rfl rfl (fun _ p parked => ?_) (fun _ => id) rfl (fun _ k empty dark => ?_)
      (.of_same rfl rfl rfl)
    · rw [show (latch s).path p = { s.path p with counters := .zero } from Quad.get_map ..]
      exact parked
    · rw [service_latch]
      split
      · exact ⟨empty, dark⟩
      · exact ⟨empty, dark⟩
  figures {s} law := by
    obtain ⟨i, only⟩ := computeFigures_only s
    have runs := running_computeFigures s
    rw [only] at runs ⊢
    exact State.shutdownLaw_of_same law runs rfl rfl (fun _ _ => id) (fun _ => id) rfl (fun _ _ empty dark =>
      ⟨empty, dark⟩)
      (.of_same rfl rfl rfl)
  publish {s} law := by
    obtain ⟨i, only⟩ := publish_only s
    have runs := running_publish s
    rw [only] at runs ⊢
    exact State.shutdownLaw_of_same law runs rfl rfl (fun _ _ => id) (fun _ => id) rfl (fun _ _ empty dark =>
      ⟨empty, dark⟩)
      (.of_same rfl rfl rfl)
  rates {s} y law := by obtain ⟨p, only⟩ := rateUpdatePort_only s y; rw [only]; exact law
  fitness {s} works law := by
    have rest := (laneStep_fitnessOnInterval works).rest
    refine ⟨?_, State.quietInShutdown_of_awake ?_⟩
    · rw [rest]
      exact law.1
    · rw [rest]
      simpa using (Bool.and_eq_true_iff.mp works).2
  shutDown {s} runs _ law := by
    have phase := law.1 runs
    have dark (k : SlotNo) (c : ServiceConfig) (configured : (shutDown s).slotConfig k = some c) :
        ((shutDown s).service k).window = [] ∧ ((shutDown s).service k).state = .dark := by
      have slot : (shutDown s).slotConfig k = s.slotConfig k := by
        obtain ⟨v, a, b, shut⟩ := shutDown_only s; rw [shut]; rfl
      rw [slot] at configured
      rw [service_shutDown, if_pos (by rw [configured]; rfl)]
      exact ⟨rfl, rfl⟩
    obtain ⟨v, a, b, shut⟩ := shutDown_only s
    rw [shut] at dark ⊢
    refine ⟨fun _ => phase, fun _ => ⟨phase, fun p => ?_, rfl, dark, rfl, rfl, rfl, fun x =>
      congrArg PortElection.lane (elect_shutDown _)⟩⟩
    have path : (s.paths.map fun _ u => u.stopped).get p = (s.path p).stopped := Quad.get_map ..
    refine (congrArg PathUnit.state path).trans ?_
    by_cases parked : (s.path p).state = .parked
    · rw [PathUnit.stopped_of_parked parked]; exact parked
    · rw [PathUnit.stopped_of_not_parked parked]
  reset s cause _ _ _ := shutdownLaw_resetBlocks s cause _
  load {s} boot held law := by
    refine ⟨fun runs => ?_, fun shut => ?_⟩
    · exact nomatch held.symm.trans (law.1 runs)
    · exact nomatch held.symm.trans (law.2 shut).1
  start {s} loading law := by
    have thermal : (startStation s).thermal = s.thermal := by rw [startStation_eq]
    have phase : (startStation s).loader.phase = .running := by rw [startStation_eq]
    refine ⟨fun _ => phase, fun shut => ?_⟩
    rw [thermal] at shut
    exact nomatch loading.symm.trans (law.2 shut).1

theorem step_keeps_shutdownLaw (s t : State) (law : s.shutdownLaw) (stepped : step s = .next t) : t.shutdownLaw :=
  State.kept_shutdownLaw.step (fun l => State.mergeKept_shutdownLaw (s := { s with pending := l }) law) law stepped

/-- Settles O60: what each part of a command leaves of a quiet station and of the parked stack. -/
theorem stepKeepsShutdownAndStackLaws : Obligations.StepKeepsShutdownAndStackLaws :=
  ⟨step_keeps_shutdownLaw, step_keeps_stackLaw⟩

end Step

end Sys2Proof.Machine
end

section
/-!
The queue, what every command keeps (O1, O2), numbers as bytes and bits, and the start of the station (O5).
-/
namespace Sys2Proof.Machine

/-! ### The queue -/

/-- Settles O1: by what a step is, the front of the queue given. -/
theorem stepRunsFrontCommand : Obligations.StepRunsFrontCommand := by
  refine ⟨fun c s rest => rfl, fun s empty => ?_⟩
  unfold step
  rw [empty]

/-- A queue that stands and a clock that does not run back are kept by every part of every command. -/
theorem State.kept_queueAndClock (q : List Instr) (n : Nat) : State.Kept fun t => t.pending = q ∧ n ≤ t.now where
  path step kept := by rw [step.rest]; exact kept
  lane step _ kept := by rw [step.rest]; exact kept
  thermal step kept := by rw [step.rest]; exact kept
  latch kept := kept
  figures {s} kept := by obtain ⟨i, only⟩ := computeFigures_only s; rw [only]; exact kept
  publish {s} kept := by obtain ⟨i, only⟩ := publish_only s; rw [only]; exact kept
  rates {s} x kept := by obtain ⟨p, only⟩ := rateUpdatePort_only s x; rw [only]; exact kept
  fitness {s} works kept := by rw [(laneStep_fitnessOnInterval works).rest]; exact kept
  shutDown {s} _ _ kept := by obtain ⟨v, a, b, shut⟩ := shutDown_only s; rw [shut]; exact kept
  reset _ _ _ _ kept := kept
  load _ _ kept := kept
  start {s} _ kept := by rw [startStation_eq]; exact kept

/-- Settles O2: the parts of every command, and the clock of the merge unit's. -/
theorem everyCommandAnswersNext : Obligations.EveryCommandAnswersNext := by
  intro c s
  refine (State.kept_queueAndClock s.pending s.now).exec (.of_moves fun t moves => ⟨?_, moves.clock⟩) ⟨rfl, le_refl _⟩ c
  rw [moves.rest]

/-! ### Numbers as bytes and bits (R106, R156) -/

theorem numBytes_one (v : Nat) : numBytes 1 v = [byte v] := by
  simp [numBytes, byte]

theorem numBytes_two (v : Nat) : numBytes 2 v = bytes2 v := by
  simp [numBytes, bytes2, byte, List.range_succ]

theorem numBytes_four (v : Nat) : numBytes 4 v = bytes4 v := by
  simp [numBytes, bytes4, byte, List.range_succ]

theorem length_numBytes (w v : Nat) : (numBytes w v).length = w := by simp [numBytes]

theorem crc_eq (bits : List Bool) : crc bits = checkOver bits := by
  have step (r : Half) (b : Bool) : crcStep r b = if r.getLsbD 15 ≠ b then (r <<< 1) ^^^ 0x1021#16 else r <<< 1 := by
    unfold crcStep
    rw [BitVec.msb_eq_getLsbD_last]
    simp
  unfold crc checkOver
  congr 1
  funext r b
  exact step r b

theorem flatMap_byteBits (bytes : List Byte) : bytes.flatMap byteBits = bitsOfBytes bytes := rfl

theorem candidateBytes_eq (c : Option Candidate) : candidateBytes c = placeBytes c := by
  cases c with
  | none => rfl
  | some c =>
    have input : numBytes 1 (([.a, .b, .c, .d] : List Input).idxOf c.input) = [byte c.input.code] := by
      rw [numBytes_one]; cases c.input <;> rfl
    have width : numBytes 1 (6 + ([.mhz6, .mhz7, .mhz8] : List Bandwidth).idxOf c.bandwidth)
      = [byte c.bandwidth.mhz] := by
      rw [numBytes_one]; cases c.bandwidth <;> rfl
    unfold candidateBytes placeBytes
    dsimp only
    rw [input, width, numBytes_four]
    cases c.expected with
    | none => rfl
    | some m => simp only [numBytes_one, numBytes_two]; rfl

theorem serviceBytes_eq (c : Option ServiceConfig) : serviceBytes c = slotBytes c := by
  cases c with
  | none => rfl
  | some c =>
    have tie : (if c.tieMode = .priority then 1 else 0) = c.tieMode.code := by cases c.tieMode <;> rfl
    have flag (b : Bool) : numBytes 1 (if b then 1 else 0) = [flagByte b] := by
      rw [numBytes_one]; cases b <;> rfl
    have priority (p : Path) : numBytes 1 (if c.contributors.get p then (c.priority.get p).val else 0) =
        [if c.contributors.get p then byte (c.priority.get p).val else 0] := by
      rw [numBytes_one]; split <;> rfl
    unfold serviceBytes slotBytes
    dsimp only
    simp only [tie, flag, priority, numBytes_one, numBytes_two]
    rfl

theorem portBytes_eq (c : Option PortConfig) : portBytes c = boundBytes c := by
  cases c with
  | none => rfl
  | some c =>
    have mode : ([.mark, .null, .omitting] : List Conditioning).idxOf c.conditioning = c.conditioning.code := by
      cases c.conditioning <;> rfl
    unfold portBytes boundBytes
    dsimp only
    simp only [mode, numBytes_one, numBytes_two]
    rfl

theorem Config.covered_eq (c : Config) : c.covered = c.sequence := by
  unfold Config.covered Config.sequence
  simp only [candidateBytes_eq, numBytes_one, funext serviceBytes_eq, funext portBytes_eq]
  rfl

theorem Config.checkValue_eq (c : Config) : c.checkValue = checkOver (bitsOfBytes c.sequence) := by
  rw [Config.checkValue, crc_eq, flatMap_byteBits, Config.covered_eq]

theorem length_placeBytes (c : Option Candidate) : (placeBytes c).length = 10 := by
  cases c with
  | none => rfl
  | some c => unfold placeBytes; dsimp only; cases c.expected <;> simp [length_numBytes]

theorem length_slotBytes (c : Option ServiceConfig) : (slotBytes c).length = 13 := by
  cases c with
  | none => rfl
  | some c => simp [slotBytes, length_numBytes]

theorem length_boundBytes (c : Option PortConfig) : (boundBytes c).length = 7 := by
  cases c with
  | none => rfl
  | some c => simp [boundBytes, length_numBytes]

theorem length_sequence (c : Config) : c.sequence.length = 241 := by
  simp [Config.sequence, length_numBytes, length_placeBytes, length_slotBytes, length_boundBytes]

/-! ### The start of the station (R182) -/

theorem Quad.mem_toList {α : Type} {q : Quad α} {x : α} : x ∈ q.toList ↔ ∃ i, q.get i = x := by
  constructor
  · intro member
    rcases List.mem_cons.mp member with rfl | member
    · exact ⟨0, rfl⟩
    rcases List.mem_cons.mp member with rfl | member
    · exact ⟨1, rfl⟩
    rcases List.mem_cons.mp member with rfl | member
    · exact ⟨2, rfl⟩
    obtain rfl := List.mem_singleton.mp member
    exact ⟨3, rfl⟩
  · rintro ⟨i, rfl⟩
    match i with
    | 0 => exact List.mem_cons_self
    | 1 => exact List.mem_cons_of_mem _ List.mem_cons_self
    | 2 => exact List.mem_cons_of_mem _ (List.mem_cons_of_mem _ List.mem_cons_self)
    | 3 => exact List.mem_cons_of_mem _ (List.mem_cons_of_mem _ (List.mem_cons_of_mem _ List.mem_cons_self))

theorem Config.starts_iff (c : Config) (p : Path) :
    c.starts p = true ↔ (∃ k v, c.services.get k = some v ∧ v.contributors.get p = true) ∧ c.candidates.get p ≠ [] := by
  unfold Config.starts
  rw [Bool.and_eq_true, bne_iff_ne, List.any_eq_true]
  refine and_congr_left fun _ => ⟨?_, ?_⟩
  · rintro ⟨o, member, any⟩
    obtain ⟨k, at_⟩ := Quad.mem_toList.mp member
    obtain ⟨v, rfl, gets⟩ := (Option.any_eq_true ..).mp any
    exact ⟨k, v, at_, gets⟩
  · rintro ⟨k, v, at_, gets⟩
    exact ⟨some v, Quad.mem_toList.mpr ⟨k, at_⟩, gets⟩

theorem startService_eq (c : Option ServiceConfig) :
    startService c = { Service.reset with contributors := (c.map ServiceConfig.contributors).getD (.fill false) } := by
  cases c <;> rfl

theorem startPort_eq (c : Option PortConfig) : startPort c =
    if c.isSome then { PortUnit.reset with sensing := true, activity := .active, activityTimer := some 5 } else
      .reset := by
  cases c <;> rfl

theorem FitnessUnit.afterLoading_eq (f : FitnessUnit) (i : Option IdentityFields) (r : LoadRecord) (c : Config) :
    f.afterLoading i.isSome r c =
      { f with
        state := if i = none then .unconfigured else .listen
        listenCount := 0
        faults :=
          { f.faults with
            loadCorrected := f.faults.loadCorrected || (r.corrected != [])
            loadFailed := f.faults.loadFailed || (r.failed != []) || !r.memoryAnswered }
        underCheck := [0, 1, 2, 3].find? fun k => (c.services.get k).isSome
        checkValue := if i = none then none else some (checkOver (bitsOfBytes c.sequence)) } := by
  unfold FitnessUnit.afterLoading FaultSet.withLoad
  rw [Config.checkValue_eq, ← Bool.or_assoc]
  cases i <;> rfl

/-- Settles O5: each block after the hand-overs. -/
theorem endOfLoadingStartsStation : Obligations.EndOfLoadingStartsStation := by
  intro s loading
  have answer : exec .endOfLoading s = .next (startStation s) := if_pos loading
  rw [startStation_eq] at answer
  refine ⟨_, answer, rfl, rfl, fun k => ?_, fun p => ?_, fun x => ?_, ?_, ?_, length_sequence _, rfl⟩
  · exact (Quad.get_map ..).trans (startService_eq _)
  · have path := Quad.get_map s.paths (fun p u => if s.loader.raw.validate.1.starts p
      then u.gaining (s.loader.raw.validate.1.candidates.get p) else u) p
    refine ⟨fun starts => path.trans (if_pos ((Config.starts_iff _ p).mpr starts)), fun idle => path.trans (if_neg ?_)⟩
    exact mt (Config.starts_iff _ p).mp idle
  · exact (Quad.get_map ..).trans (startPort_eq _)
  · exact ⟨_, rfl, fun p => ⟨Quad.get_fill .., Quad.get_fill ..⟩, fun k => Quad.get_map .., fun k => Quad.get_map ..,
      fun x => Quad.get_fill ..⟩
  · exact FitnessUnit.afterLoading_eq ..

end Sys2Proof.Machine
end

section
/-!
Resets and the reading of the image (chapter 10): O3, O4, O29.
-/
namespace Sys2Proof.Machine

/-! ### Resets -/

section Resets
variable {s : State} {cause : Cause} {count : Nat}

theorem blocksAtReset_resetBlocks (s : State) (cause : Cause) (count : Nat) :
    (resetBlocks s cause count).blocksAtReset :=
  ⟨rfl, rfl, rfl, rfl, rfl, rfl, rfl, rfl, rfl, rfl, rfl, rfl, rfl, rfl, rfl, rfl, rfl⟩

theorem blocksAtReset_beginLoading (s : State) (cause : Cause) (count : Nat) (boot : BootInputs) :
    (beginLoading (resetBlocks s cause count) boot).blocksAtReset :=
  ⟨rfl, rfl, rfl, rfl, rfl, rfl, rfl, rfl, rfl, rfl, rfl, rfl, rfl, rfl, rfl, rfl, rfl⟩

theorem blocksAtReset_restart (s : State) (cause : Cause) (boot : BootInputs) : (restart s cause boot).blocksAtReset :=
  blocksAtReset_beginLoading s cause _ boot

end Resets

/-- Settles O4: both events run the same restart. -/
theorem lineRestartProceedsOnEitherEvent : Obligations.LineRestartProceedsOnEitherEvent := by
  intro boot s
  have limit (waits : s.loader.releasing = true ∧ s.loader.releaseLimit ≠ none) :
      exec (.releaseLimitExpiry boot) s = .next (restart s .lineRestart boot) := if_pos waits
  have report (waits : s.loader.releasing = true) (reported : s.loader.releasedReport = true) :
      exec (.releasedReport boot) s = .next (restart s .lineRestart boot) := (if_pos reported).trans (if_pos waits)
  have none_ (idle : ¬ (s.loader.releasing = true ∧ s.loader.releaseLimit ≠ none)) :
      exec (.releaseLimitExpiry boot) s = .next s := if_neg idle
  refine ⟨fun waits reported runs => ⟨_, report waits reported, limit ⟨waits, runs⟩⟩, fun waits => ⟨_, limit waits,
      blocksAtReset_restart .., rfl, rfl, rfl, rfl, rfl, rfl, rfl, rfl, rfl, rfl⟩, fun waits =>
        ⟨_, report waits.1 waits.2,
      blocksAtReset_restart .., rfl, rfl, rfl, rfl, rfl, rfl, rfl⟩, fun idle => none_ fun waits => ?_,
    fun stopped => none_ fun waits => waits.2 stopped⟩
  exact Bool.false_ne_true (idle.symm.trans waits.1)

/-! ### The reading of the image (R174 to R177) -/

section Image
variable {i : Image}

theorem Image.mem_decodedAs {d : Decoding} {n : Nat} :
    n ∈ i.decodedAs d ↔ ∃ b, i.blocks[n]? = some b ∧ decodeBits b = d := by
  unfold Image.decodedAs
  rw [List.mem_filterMap]
  constructor
  · rintro ⟨⟨b, m⟩, member, decodes⟩
    split at decodes
    next is =>
      cases decodes
      exact ⟨b, List.mem_zipIdx_iff_getElem?.mp member, is⟩
    · cases decodes
  · rintro ⟨b, at_, is⟩
    exact ⟨(b, n), List.mem_zipIdx_iff_getElem?.mpr at_, if_pos is⟩

/-- The numbers of blocks rise along the image. -/
theorem Image.pairwise_decodedAs (i : Image) (d : Decoding) : (i.decodedAs d).Pairwise (· < ·) := by
  unfold Image.decodedAs
  refine List.Pairwise.filterMap _ ?_ (?_ : (i.blocks.zipIdx).Pairwise fun a b => a.2 < b.2)
  · rintro ⟨a, m⟩ ⟨b, n⟩ before x same y same'
    dsimp only at same same' before
    split at same
    · split at same'
      · cases same; cases same'; exact before
      · cases same'
    · cases same
  · have : i.blocks.zipIdx.Pairwise fun a b => a.2 < b.2 := by
      rw [← List.pairwise_map (f := Prod.snd) (R := (· < ·)), List.zipIdx_map_snd]
      exact List.pairwise_lt_range'
    exact this

theorem Image.formatWrong_iff : i.formatWrong = true ↔ ∃ f, (readData i.identity).map Config.identityFields = some f ∧
    f.format ≠ 1#8 := by
  unfold Image.formatWrong
  rw [Option.any_eq_true]
  simp [Image.identityRead]

/-- Block 0 that decodes is not among the failed ones. -/
theorem Image.zero_not_mem_failed (wrong : i.formatWrong = true) : 0 ∉ i.decodedAs .failed := by
  obtain ⟨f, read, -⟩ := Image.formatWrong_iff.mp wrong
  rintro member
  obtain ⟨b, at_, failed⟩ := Image.mem_decodedAs.mp member
  obtain rfl : i.identity = b := Option.some.inj at_
  rw [readData, failed] at read
  cases read

theorem Image.silent_iff : i.silent = true ↔ i.identity = BitVec.allOnes 72 := beq_iff_eq

theorem Image.record_of_silent (silent : i.identity = BitVec.allOnes 72) :
    i.record = ⟨false, [], [0], 0⟩ ∧ i.raw = ⟨none, none, .fill (.fill none), .fill none⟩ := by
  unfold Image.record Image.raw
  rw [if_pos (Image.silent_iff.mpr silent), if_pos (Image.silent_iff.mpr silent)]
  exact ⟨rfl, rfl⟩

theorem Image.record_of_answered (answered : i.identity ≠ BitVec.allOnes 72) : i.record =
    ⟨true, i.decodedAs .corrected, if i.formatWrong then 0 :: i.decodedAs .failed else i.decodedAs .failed, 0⟩ := by
  unfold Image.record
  rw [if_neg (mt Image.silent_iff.mp answered)]

/-- The failed blocks, block 0 of another format among them. -/
theorem Image.failed_spec (answered : i.identity ≠ BitVec.allOnes 72) : i.record.failed.Pairwise (· < ·) ∧
    ∀ n, n ∈ i.record.failed ↔ (∃ b, i.blocks[n]? = some b ∧ decodeBits b = .failed) ∨
      n = 0 ∧ ∃ f, (readData i.identity).map Config.identityFields = some f ∧ f.format ≠ 1#8 := by
  rw [Image.record_of_answered answered]
  dsimp only
  split
  next wrong =>
    refine ⟨List.pairwise_cons.mpr ⟨fun n member => Nat.pos_of_ne_zero fun zero => ?_, Image.pairwise_decodedAs ..⟩,
      fun n => ?_⟩
    · exact Image.zero_not_mem_failed wrong (zero ▸ member)
    · rw [List.mem_cons, Image.mem_decodedAs, or_comm]
      exact or_congr_right (iff_self_and.mpr fun _ => Image.formatWrong_iff.mp wrong)
  next right =>
    refine ⟨Image.pairwise_decodedAs .., fun n => ?_⟩
    rw [Image.mem_decodedAs]
    exact (or_iff_left fun both => right (Image.formatWrong_iff.mpr both.2)).symm

theorem Image.raw_of_answered (answered : i.identity ≠ BitVec.allOnes 72) :
    i.raw.identity = ((readData i.identity).map Config.identityFields).filter (fun f => f.format == 1#8) ∧
      i.raw.station = (readData i.station).map Config.stationFields ∧
      (∀ p j, (i.raw.candidates.get p).get j = (readData ((i.candidates.get p).get j)).map Config.candidateFields) ∧
      ∀ k, i.raw.services.get k = (readData (i.services.get k)).map Config.serviceFields := by
  unfold Image.raw
  rw [if_neg (mt Image.silent_iff.mp answered)]
  refine ⟨?_, rfl, fun p j => ?_, fun k => Quad.get_map ..⟩
  · unfold Image.formatWrong Image.identityRead
    cases (readData i.identity).map Config.identityFields with
    | none => rfl
    | some f =>
      by_cases right : f.format = 1#8
      · simp [right, Option.filter]
      · simp [right, Option.filter]
  · exact (congrArg (fun q : Quad _ => q.get j) (Quad.get_map ..)).trans (Quad.get_map ..)

end Image

/-- Settles O3: the two ways of a power-on reset leave every block at reset; the reading by its two lists. -/
theorem powerOnResetStartsAfresh : Obligations.PowerOnResetStartsAfresh := by
  refine ⟨fun pin boot s => ?_, fun boot s => ⟨fun held => if_pos held, fun other => if_neg other⟩,
    fun i => ?_⟩
  · obtain ⟨t, answer, fresh, queue, cause, count, releasing, limit, pinned, loads⟩ :
        ∃ t, exec (.powerOnReset pin boot) s = .next t ∧ t.blocksAtReset ∧ t.pending = s.pending ∧
          t.loader.cause = .powerOn ∧ t.loader.restartCount = 0 ∧ t.loader.releasing = false ∧
          t.loader.releaseLimit = none ∧ (pin = true → t.loader.phase = .held) ∧
          (pin = false → t.loader.phase = .loading ∧ t.loader.stationNumber = boot.straps ∧
            t.loader.record = boot.image.record ∧ t.loader.raw = boot.image.raw ∧
            t.thermal.reading = max (-40) (min boot.sensor 150)) := by
      cases pin with
      | true => exact ⟨_, rfl, blocksAtReset_resetBlocks .., rfl, rfl, rfl, rfl, rfl, fun _ => rfl, nofun⟩
      | false =>
        exact ⟨_, rfl, blocksAtReset_beginLoading .., rfl, rfl, rfl, rfl, rfl, nofun, fun _ =>
          ⟨rfl, rfl, rfl, rfl, rfl⟩⟩
    refine ⟨t, answer, fresh, queue, cause, count, releasing, limit, pinned, loads, ?_⟩
    obtain ⟨config, paths, services, -, -, -, -, -, -, interval, ports, line, election, fitness, reply, monitor,
      thermal⟩ :=
      fresh
    have path (p : Path) : t.path p = .reset := by rw [State.path, paths]; exact Quad.get_fill ..
    have service (k : SlotNo) : t.service k = .reset := by rw [State.service, services]; exact Quad.get_fill ..
    have port (x : Port) : t.port x = .reset := by rw [State.port, ports]; exact Quad.get_fill ..
    have elect (x : Port) : t.elect x = .reset := by rw [State.elect, election]; exact Quad.get_fill ..
    have slot (k : SlotNo) : t.slotConfig k = none := by rw [State.slotConfig, config]; exact Quad.get_fill ..
    have bound (x : Port) : t.portConfig x = none := by rw [State.portConfig, config]; exact Quad.get_fill ..
    have empty (k : TxSlot) : t.line.slots.get k = none := by
      rw [line]
      cases k with
      | lane x => exact Quad.get_fill ..
      | announce => rfl
      | report => rfl
    have peers (i : Station) : t.election.peers.get i = none := by rw [election]; exact Oct.get_fill ..
    refine ⟨fun p => ?_, fun k => ⟨slot k, ?_⟩, fun x => ⟨bound x, ?_⟩, fun x => ?_, peers, ?_⟩
    · rw [path]; exact ⟨rfl, rfl, rfl, rfl, rfl, rfl, rfl, rfl, rfl, rfl, rfl, rfl, rfl⟩
    · rw [service]; exact ⟨rfl, rfl⟩
    · rw [port]; exact ⟨rfl, rfl, rfl, rfl, rfl, rfl, rfl, rfl, rfl, rfl, rfl⟩
    · rw [elect]; exact ⟨rfl, rfl, rfl, rfl, rfl, rfl, rfl, rfl, rfl, rfl, rfl⟩
    · refine ⟨by rw [election]; rfl, by rw [line]; rfl, by rw [line]; rfl, by rw [line]; rfl, by rw [line]; rfl, empty,
        by rw [line]; rfl, by rw [interval]; rfl, ?_⟩
      rw [fitness, thermal, monitor, reply]
      exact ⟨rfl, rfl, rfl, rfl, rfl, rfl, rfl, rfl, rfl, rfl, rfl, rfl, rfl, rfl⟩
  · intro blocks identity wrong
    refine ⟨Image.record_of_silent, fun answered => ?_⟩
    have record := Image.record_of_answered answered
    obtain ⟨rising, failed⟩ := Image.failed_spec answered
    refine ⟨by rw [record], by rw [record], ?_, rising, fun n => ?_, failed, Image.raw_of_answered answered⟩
    · rw [record]; exact Image.pairwise_decodedAs ..
    · rw [record]; exact Image.mem_decodedAs

end Sys2Proof.Machine
end

section
/-!
The interval end whose reading ends the work of the station (R162, R170, R172): a reading of 125 °C, and any reading in
SHUTDOWN. Behind such a reading no taker acts, whatever the order (O28, O29).
-/
namespace Sys2Proof.Machine

section Order
variable {s t u : State} {sensor : Int} {boot : BootInputs} {order : EndOrder}

/-! ### Behind the reading nothing acts -/

theorem takeEnd_of_not_working (idle : s.working = false) {x : Taker} (other : x ≠ .thermal) :
    takeEnd sensor boot s x = s := by
  have none_ {t : State} : (if s.working then t else s) = s := if_neg (by rw [idle]; exact Bool.false_ne_true)
  cases x with
  | latch => exact none_
  | figures => exact none_
  | ageing => exact none_
  | fitness => exact none_
  | thermal => exact absurd rfl other

theorem foldl_takeEnd_of_not_working (idle : s.working = false) :
    ∀ takers : List Taker, (∀ x ∈ takers, x ≠ .thermal) → takers.foldl (takeEnd sensor boot) s = s
  | [], _ => rfl
  | x :: xs, others => by
    obtain ⟨other, others⟩ := List.forall_mem_cons.mp others
    rw [List.foldl_cons, takeEnd_of_not_working idle other]
    exact foldl_takeEnd_of_not_working idle xs others

theorem publishLatched_of_not_working (idle : s.working = false) : publishLatched s = s := by
  unfold publishLatched State.latchAwaits
  rw [idle]
  exact if_neg Bool.false_ne_true

/-- The states in which the reading of an interval end may be taken: behind some of the other takers, and behind the
publication where the order says so. -/
def readAfter (order : EndOrder) (sensor : Int) (boot : BootInputs) (s u : State) : Prop :=
  ∃ a b : List Taker, (∀ x ∈ a, x ≠ .thermal) ∧ (∀ x ∈ b, x ≠ .thermal) ∧
    u = if order.publishFirst then
        let p := publishLatched (a.foldl (takeEnd sensor boot) s)
        b.foldl (takeEnd sensor boot) (if order.startsBetween then trySend p else p)
      else a.foldl (takeEnd sensor boot) s

/-- An interval end whose reading ends the work of the station is that reading, behind what comes before it. -/
theorem exists_readAfter (running : s.interval.running = true) (unlatched : s.interval.latched = false)
    (ends : ∀ u, readAfter order sensor boot s u → (takeReading u sensor boot).working = false) :
    ∃ u, readAfter order sensor boot s u ∧ exec (.intervalEnd order sensor boot) s = .next
      (takeReading u sensor boot) := by
  obtain ⟨a, b, placed, others, laters⟩ := exists_takersInOrder_eq_append order.takers
  have filtered {p : Taker → Bool} {l : List Taker} (apart : ∀ x ∈ l, x ≠ .thermal) : ∀ x ∈ l.filter p, x ≠ .thermal :=
    fun x member => apart x (List.mem_filter.mp member).1
  have answer : exec (.intervalEnd order sensor boot) s = execIntervalEnd order sensor boot s := rfl
  rw [answer]
  unfold execIntervalEnd
  rw [if_pos ⟨running, unlatched⟩]
  extract_lets takers behind before published
  by_cases first : order.publishFirst = true
  · have behindEq : behind = a.filter (behindPublication order s) ++ .thermal :: b.filter
      (behindPublication order s) := by
      show takers.filter _ = _
      rw [show takers = a ++ .thermal :: b from placed, List.filter_append,
        List.filter_cons_of_pos (show behindPublication order s .thermal = true from first)]
    have beforeEq : before = (a.filter (fun t => !behindPublication order s t) ++
        b.filter fun t => !behindPublication order s t).foldl (takeEnd sensor boot) s := by
      show (takers.filter _).foldl _ _ = _
      rw [show takers = a ++ .thermal :: b from placed, List.filter_append,
        List.filter_cons_of_neg (by simpa [behindPublication] using first)]
    have reach : readAfter order sensor boot s ((a.filter (behindPublication order s)).foldl (takeEnd sensor boot)
        (if order.startsBetween then trySend published else published)) :=
      ⟨_, _, List.forall_mem_append.mpr ⟨filtered others, filtered laters⟩, filtered others, by
        rw [if_pos first, ← beforeEq]⟩
    refine ⟨_, reach, ?_⟩
    rw [if_neg (by rw [behindEq]; simp), takeEnds, behindEq, List.foldl_append, List.foldl_cons]
    have idle := ends _ reach
    rw [show takeEnd sensor boot _ .thermal = takeReading _ sensor boot from rfl,
      foldl_takeEnd_of_not_working idle _ (filtered laters), trySend_of_not_working idle]
  · have beforeEq : before = (b.filter fun t => !behindPublication order s t).foldl (takeEnd sensor boot)
        (takeReading ((a.filter fun t => !behindPublication order s t).foldl (takeEnd sensor boot) s) sensor boot) := by
      show (takers.filter _).foldl _ _ = _
      rw [show takers = a ++ .thermal :: b from placed, List.filter_append,
        List.filter_cons_of_pos (by simpa [behindPublication] using first), List.foldl_append, List.foldl_cons]
      rfl
    have behindOthers : ∀ x ∈ behind, x ≠ .thermal := by
      rintro x member rfl
      exact first (List.mem_filter.mp member).2
    have reach : readAfter order sensor boot s ((a.filter fun t => !behindPublication order s t).foldl
      (takeEnd sensor boot) s) :=
      ⟨_, [], filtered others, nofun, by rw [if_neg first]⟩
    refine ⟨_, reach, ?_⟩
    have idle := ends _ reach
    rw [foldl_takeEnd_of_not_working idle _ (filtered laters)] at beforeEq
    have publishedEq : published = before := by
      show publishLatched before = before
      rw [beforeEq, publishLatched_of_not_working idle]
    split
    · rw [beforeEq, trySend_of_not_working idle]
    · rw [publishedEq, takeEnds, beforeEq, trySend_of_not_working idle, ite_self,
        foldl_takeEnd_of_not_working idle _ behindOthers, trySend_of_not_working idle]

/-! ### In SHUTDOWN (R172, R188) -/

theorem readAfter_of_not_working (idle : s.working = false) (reach : readAfter order sensor boot s u) : u = s := by
  obtain ⟨a, b, others, laters, rfl⟩ := reach
  split
  · simp only [foldl_takeEnd_of_not_working idle a others, publishLatched_of_not_working idle,
      trySend_of_not_working idle, ite_self, foldl_takeEnd_of_not_working idle b laters]
  · exact foldl_takeEnd_of_not_working idle a others

theorem takeReading_of_shutdown (shut : s.thermal.shutdown = true) (sensor : Int) (boot : BootInputs) :
    takeReading s sensor boot =
      recoveryTest { s with thermal := { s.thermal with reading := max (-40) (min sensor 150) } } boot := if_pos shut

theorem working_of_shutdown (shut : s.thermal.shutdown = true) : s.working = false := by
  simp [State.working, shut]

theorem working_recoveryTest (shut : s.thermal.shutdown = true) (boot : BootInputs) :
    (recoveryTest s boot).working = false := by
  unfold recoveryTest
  split
  · split
    · rfl
    · exact working_of_shutdown shut
  · exact working_of_shutdown shut

end Order

/-- Settles O29: in SHUTDOWN an interval end is its reading, which is the recovery test. -/
theorem twentyCoolReadingsRestartStation : Obligations.TwentyCoolReadingsRestartStation := by
  intro order sensor boot s _ shut runs unlatched r
  have idle := working_of_shutdown shut
  obtain ⟨u, reach, answer⟩ := exists_readAfter (order := order) (sensor := sensor) (boot := boot) runs unlatched
    fun u reach => by
      rw [readAfter_of_not_working idle reach, takeReading_of_shutdown shut]
      exact working_recoveryTest (s := { s with thermal := { s.thermal with reading := r } }) shut boot
  rw [readAfter_of_not_working idle reach, takeReading_of_shutdown shut] at answer
  unfold recoveryTest at answer
  refine ⟨fun warm => ?_, fun cool few => ?_, fun cool many => ?_⟩
  · rw [if_neg (not_le.mpr warm)] at answer
    exact answer
  · rw [if_pos cool, if_neg (by dsimp only; omega)] at answer
    exact answer
  · rw [if_pos cool, if_pos (by dsimp only; omega)] at answer
    exact ⟨_, answer, blocksAtReset_restart .., rfl, rfl, rfl, rfl, rfl, rfl, rfl, rfl⟩

end Sys2Proof.Machine
end

section
/-!
A reading of 125 °C (R170): what the takers before it leave standing, and each block after the shutdown (O28).
-/
namespace Sys2Proof.Machine

/-! ### What an interval end leaves before its reading -/

/-- What the takers before the reading, and a publication among them, leave to a shutdown. -/
structure State.Awaits (s u : State) : Prop where
  paths : ∀ p, u.path p = { s.path p with counters := (u.path p).counters }
  counters : u.line.counters = s.line.counters
  rest : u = { s with
    interval := u.interval, paths := u.paths, services := u.services, ports := u.ports, election := u.election
    line := u.line, fitness := u.fitness }

section Awaits
variable {s t u : State} {sensor : Int} {boot : BootInputs} {order : EndOrder}

theorem State.Awaits.refl (s : State) : s.Awaits s := ⟨fun _ => rfl, rfl, rfl⟩

theorem State.Awaits.trans (first : s.Awaits t) (second : t.Awaits u) : s.Awaits u where
  paths p := by
    have later := second.paths p
    rw [first.paths p] at later
    exact later
  counters := second.counters.trans first.counters
  rest := by
    have before := first.rest
    have after := second.rest
    rw [before] at after
    exact after

/-- What leaves the paths alone and spares the thermal controller. -/
theorem State.SparesThermal.awaits (spares : s.SparesThermal t)
    (paths : ∀ p, t.path p = { s.path p with counters := (t.path p).counters }) : s.Awaits t := by
  obtain ⟨thermal, requests, -, -, -, counters, rest⟩ := spares
  rw [thermal, requests] at rest
  exact ⟨paths, counters, rest⟩

theorem awaits_takeEnd {x : Taker} (other : x ≠ .thermal) (s : State) : s.Awaits (takeEnd sensor boot s x) := by
  refine (sparesThermal_takeEnd sensor boot s other).awaits fun p => ?_
  have of_paths {t : State} (same : t.paths = s.paths) :
    t.path p = { s.path p with counters := (t.path p).counters } := by
    rw [State.path, same]; rfl
  have of_working {t : State} (paths : s.working = true → t.path p = { s.path p with counters := (t.path p).counters })
    :
      (if s.working then t else s).path p
        = { s.path p with counters := ((if s.working then t else s).path p).counters } := by
    split
    next works => exact paths works
    · rfl
  cases x with
  | latch =>
    refine of_working fun _ => ?_
    rw [show (latch s).path p = { s.path p with counters := .zero } from Quad.get_map ..]
  | figures => exact of_working fun _ => of_paths (by obtain ⟨i, only⟩ := computeFigures_only s; rw [only])
  | ageing => exact of_working fun _ => of_paths (by rw [(laneStep_ageOnInterval s).rest])
  | fitness => exact of_working fun works => of_paths (by rw [(laneStep_fitnessOnInterval works).rest])
  | thermal => exact absurd rfl other

theorem awaits_foldl_takeEnd : ∀ (takers : List Taker), (∀ x ∈ takers, x ≠ .thermal) → ∀ s : State,
    s.Awaits (takers.foldl (takeEnd sensor boot) s)
  | [], _, s => .refl s
  | x :: xs, others, s => by
    obtain ⟨other, others⟩ := List.forall_mem_cons.mp others
    exact (awaits_takeEnd other s).trans (awaits_foldl_takeEnd xs others _)

/-- A frame that is placed leaves the line's state and counters. -/
theorem line_evaluate (s : State) (x : Port) :
    (evaluate s x).line.state = s.line.state ∧ (evaluate s x).line.counters = s.line.counters := by
  unfold evaluate
  split
  · split
    · dsimp only
      split
      · split
        · exact ⟨rfl, rfl⟩
        · exact ⟨rfl, rfl⟩
      · exact ⟨rfl, rfl⟩
    · exact ⟨rfl, rfl⟩
  · exact ⟨rfl, rfl⟩

theorem line_electOnPublication (s : State) : (electOnPublication s).line.state = s.line.state ∧
    (electOnPublication s).line.counters = s.line.counters := by
  have evaluated (xs : List Port) : ∀ t : State, (xs.foldl evaluate t).line.state = t.line.state ∧
      (xs.foldl evaluate t).line.counters = t.line.counters := by
    induction xs with
    | nil => exact fun t => ⟨rfl, rfl⟩
    | cons x xs ih =>
      intro t
      obtain ⟨state, counters⟩ := ih (evaluate t x)
      obtain ⟨first, firstCounters⟩ := line_evaluate t x
      exact ⟨state.trans first, counters.trans firstCounters⟩
  unfold electOnPublication
  split
  · exact ⟨rfl, rfl⟩
  · exact evaluated four s

theorem line_publishLatched (s : State) : (publishLatched s).line.state = s.line.state ∧
    (publishLatched s).line.counters = s.line.counters := by
  unfold publishLatched
  split
  · obtain ⟨i, filled⟩ := computeFigures_only s
    obtain ⟨j, done⟩ := publish_only (computeFigures s)
    obtain ⟨p, rated⟩ := rateUpdates_only four (publish (computeFigures s))
    have elected := line_electOnPublication (four.foldl rateUpdatePort (publish (computeFigures s)))
    rw [rated, done, filled] at elected ⊢
    exact elected
  · exact ⟨rfl, rfl⟩

theorem awaits_publishLatched (s : State) : s.Awaits (publishLatched s) := by
  obtain ⟨i, p, l, e, only⟩ := publishLatched_only s
  obtain ⟨-, counters⟩ := line_publishLatched s
  rw [only] at counters ⊢
  exact ⟨fun _ => rfl, counters, rfl⟩

theorem awaits_trySend (s : State) : s.Awaits (trySend s) := by
  obtain ⟨l, only⟩ := trySend_only s
  have counters := (sparesThermal_trySend s).kept.2.1
  rw [only] at counters ⊢
  exact ⟨fun _ => rfl, counters, rfl⟩

theorem awaits_readAfter (reach : readAfter order sensor boot s u) : s.Awaits u := by
  obtain ⟨a, b, others, laters, rfl⟩ := reach
  split
  · dsimp only
    refine ((awaits_foldl_takeEnd (sensor := sensor) (boot := boot) a others s).trans (awaits_publishLatched _)).trans
      (.trans ?_ (awaits_foldl_takeEnd (sensor := sensor) (boot := boot) b laters _))
    split
    · exact awaits_trySend _
    · exact .refl _
  · exact awaits_foldl_takeEnd a others s

/-! ### The state of the line -/

theorem lineState_withdrawFrame (s : State) (x : Port) : (withdrawFrame s x).line.state = s.line.state := by
  unfold withdrawFrame
  dsimp only
  split
  · split
    · rfl
    · rfl
  · rfl

theorem lineState_placeRelease (s : State) (x : Port) (r : ReleaseReason) :
    (placeRelease s x r).line.state = s.line.state := by
  unfold placeRelease placeLane
  split
  · rfl
  · rfl

theorem lineState_unfitPort (s : State) (x : Port) : (unfitPort s x).line.state = s.line.state := by
  have drives : (if (s.elect x).mark = some .restart then
      (placeRelease (standDown s x .disabled) x .restart).updElect x fun e => { e with releaseOut := true }
      else placeRelease (standDown s x .disabled) x .unfit).line.state = s.line.state := by
    split
    · exact lineState_placeRelease (standDown s x .disabled) x .restart
    · exact lineState_placeRelease (standDown s x .disabled) x .unfit
  unfold unfitPort
  dsimp only
  split
  · exact drives
  · exact drives
  · exact lineState_withdrawFrame s x
  · rfl

theorem lineState_fitnessOnInterval (s : State) : (fitnessOnInterval s).line.state = s.line.state := by
  have ports (xs : List Port) : ∀ t : State, (xs.foldl unfitPort t).line.state = t.line.state := by
    induction xs with
    | nil => exact fun _ => rfl
    | cons x xs ih => exact fun t => (ih _).trans (lineState_unfitPort t x)
  unfold fitnessOnInterval electionFit electionUnfit
  dsimp only
  split
  · split
    · rfl
    · rfl
  · exact ports four _
  · rfl

theorem lineState_takeEnd {x : Taker} (other : x ≠ .thermal) (s : State) :
    (takeEnd sensor boot s x).line.state = s.line.state := by
  have of_working {t : State} (same : t.line.state = s.line.state) :
    (if s.working then t else s).line.state = s.line.state := by
    split
    · exact same
    · rfl
  cases x with
  | latch => exact of_working rfl
  | figures => exact of_working (by obtain ⟨i, only⟩ := computeFigures_only s; rw [only])
  | ageing =>
    refine of_working ?_
    unfold ageOnInterval
    dsimp only
    split
    · rfl
    · rfl
  | fitness => exact of_working (lineState_fitnessOnInterval s)
  | thermal => exact absurd rfl other

theorem lineState_foldl_takeEnd : ∀ (takers : List Taker), (∀ x ∈ takers, x ≠ .thermal) → ∀ s : State,
    (takers.foldl (takeEnd sensor boot) s).line.state = s.line.state
  | [], _, _ => rfl
  | x :: xs, others, s => by
    obtain ⟨other, others⟩ := List.forall_mem_cons.mp others
    exact (lineState_foldl_takeEnd xs others _).trans (lineState_takeEnd other s)

theorem trySend_of_state (busy : s.line.state ≠ .idle) : trySend s = s := by
  unfold trySend
  exact if_neg fun may => busy may.2.1

theorem lineState_readAfter (reach : readAfter order sensor boot s u)
    (keeps : order.publishFirst = false ∨ order.startsBetween = false ∨ s.line.state ≠ .idle) :
    u.line.state = s.line.state := by
  obtain ⟨a, b, others, laters, rfl⟩ := reach
  split
  next first =>
    dsimp only
    have published : (publishLatched (a.foldl (takeEnd sensor boot) s)).line.state = s.line.state :=
      (line_publishLatched _).1.trans (lineState_foldl_takeEnd a others s)
    refine (lineState_foldl_takeEnd b laters _).trans ?_
    split
    next between =>
      have busy : s.line.state ≠ .idle := by
        obtain off | off | busy := keeps
        · exact absurd (first.symm.trans off) (by decide)
        · exact absurd (between.symm.trans off) (by decide)
        · exact busy
      rw [trySend_of_state (by rw [published]; exact busy)]
      exact published
    · exact published
  · exact lineState_foldl_takeEnd a others s

theorem published_readAfter (reach : readAfter order sensor boot s u) (apart : order.publishFirst = false) :
    u.interval.published = s.interval.published := by
  obtain ⟨a, b, others, laters, rfl⟩ := reach
  rw [if_neg (by rw [apart]; decide)]
  exact (State.sparesThermal_foldl (fun t x member => sparesThermal_takeEnd sensor boot t (others x member)) s).kept.1

/-! ### The signals of a shutdown (R59) -/

/-- The configured slots, among some, whose service is bound to a port. -/
def State.naming (s : State) (x : Port) (ks : List SlotNo) : List SlotNo :=
  ks.filter fun k => (s.slotConfig k).any fun c => c.port = some x

theorem signals_shutService (s : State) (k : SlotNo) (x : Port) :
    (shutService s k).portSignals.get x = s.portSignals.get x ++ List.replicate (s.naming x [k]).length .dark ∧
      (shutService s k).electionSignals.get x = s.electionSignals.get x ++ List.replicate
        (s.naming x [k]).length .dark := by
  unfold shutService State.naming
  rw [List.filter_cons, List.filter_nil]
  cases s.slotConfig k with
  | none => exact ⟨(List.append_nil _).symm, (List.append_nil _).symm⟩
  | some c =>
    dsimp only
    cases port : c.port with
    | none =>
      rw [if_neg (by simp [port])]
      exact ⟨(List.append_nil _).symm, (List.append_nil _).symm⟩
    | some y =>
      by_cases here : x = y
      · subst here
        rw [if_pos (by simp [port])]
        exact ⟨Quad.get_update_self .., Quad.get_update_self ..⟩
      · rw [if_neg (by simpa [port] using fun same => here same.symm)]
        exact ⟨(Quad.get_update_of_ne _ _ here).trans (List.append_nil _).symm,
          (Quad.get_update_of_ne _ _ here).trans (List.append_nil _).symm⟩

theorem signals_shutServices (x : Port) : ∀ (ks : List SlotNo) (s : State),
    (ks.foldl shutService s).portSignals.get x = s.portSignals.get x ++ List.replicate (s.naming x ks).length .dark ∧
      (ks.foldl shutService s).electionSignals.get x =
        s.electionSignals.get x ++ List.replicate (s.naming x ks).length .dark
  | [], _ => ⟨(List.append_nil _).symm, (List.append_nil _).symm⟩
  | k :: ks, s => by
    obtain ⟨port, election⟩ := signals_shutServices x ks (shutService s k)
    obtain ⟨first, firstElection⟩ := signals_shutService s k x
    have naming : (shutService s k).naming x ks = s.naming x ks := by
      obtain ⟨v, a, b, only⟩ := shutService_only s k
      rw [only]; rfl
    have count : (s.naming x [k]).length + (s.naming x ks).length = (s.naming x (k :: ks)).length := by
      unfold State.naming
      rw [show k :: ks = [k] ++ ks from rfl, List.filter_append, List.length_append]
    rw [naming, first] at port
    rw [naming, firstElection] at election
    rw [List.append_assoc, List.replicate_append_replicate, count] at port election
    exact ⟨port, election⟩

theorem signals_shutDown (s : State) (x : Port) :
    (shutDown s).portSignals.get x = s.portSignals.get x ++ List.replicate (s.naming x four).length .dark ∧
      (shutDown s).electionSignals.get x = s.electionSignals.get x ++ List.replicate (s.naming x four).length .dark :=
  signals_shutServices x four s

/-! ### The shutdown itself -/

theorem PathUnit.stopped_spec (u : PathUnit) : u.stopped.state = .parked ∧
    (u.state ≠ .parked → u.stopped.timer = none ∧ u.stopped.selection = none ∧ u.stopped.measurements = none ∧
      u.stopped.decoded = none ∧ u.stopped.counter = none) ∧
    u.stopped.lastFailure = u.lastFailure ∧ u.stopped.attempts = u.attempts ∧
    u.stopped.candidateIndex = u.candidateIndex ∧
    u.stopped.outbox = u.outbox ++ (if u.state = .tracking then [.leaving] else []) ∧ u.stopped.inbox = u.inbox := by
  by_cases parked : u.state = .parked
  · rw [PathUnit.stopped_of_parked parked, if_neg (by rw [parked]; decide), List.append_nil]
    exact ⟨parked, fun other => absurd parked other, rfl, rfl, rfl, rfl, rfl⟩
  · rw [PathUnit.stopped_of_not_parked parked]
    refine ⟨rfl, fun _ => ⟨rfl, rfl, rfl, rfl, rfl⟩, rfl, rfl, rfl, ?_, rfl⟩
    dsimp only
    split
    · rfl
    · exact (List.append_nil _).symm

theorem takeReading_of_hot (awake : u.thermal.shutdown = false) (hot : 125 ≤ sensor) : takeReading u sensor boot =
    shutDown { u with thermal := { u.thermal with reading := min sensor 150 } } := by
  have clamped : clampInt sensor (-40) 150 = min sensor 150 := by unfold clampInt; omega
  unfold takeReading
  rw [clamped]
  dsimp only
  rw [if_neg (by rw [awake]; decide), if_pos (by omega)]

end Awaits

/-- Settles O28: the shutdown of what the takers before the reading leave; behind it nothing acts. -/
theorem hotReadingShutsDown : Obligations.HotReadingShutsDown := by
  intro order sensor boot s open_ hot
  obtain ⟨-, awake, running, unlatched⟩ := open_
  have cool {u : State} (reach : readAfter order sensor boot s u) : u.thermal.shutdown = false := by
    rw [(awaits_readAfter reach).rest]; exact awake
  obtain ⟨u, reach, answer⟩ := exists_readAfter (order := order) (sensor := sensor) (boot := boot) running unlatched
    fun u reach => by
      obtain ⟨v, a, b, shut⟩ := shutDown_only { u with thermal := { u.thermal with reading := min sensor 150 } }
      rw [takeReading_of_hot (cool reach) hot, shut]
      exact working_of_shutdown rfl
  rw [takeReading_of_hot (cool reach) hot] at answer
  have awaits := awaits_readAfter reach
  have state := lineState_readAfter reach
  have published := published_readAfter reach
  obtain ⟨paths, counters, rest⟩ := awaits
  let w : State := { u with thermal := { u.thermal with reading := min sensor 150 } }
  have slot (k : SlotNo) : w.slotConfig k = s.slotConfig k := by
    change u.slotConfig k = _; rw [rest]; rfl
  have bound (x : Port) : w.portConfig x = s.portConfig x := by
    change u.portConfig x = _; rw [rest]; rfl
  have naming (x : Port) : w.naming x four = s.naming x four := by unfold State.naming; simp only [slot]
  have signals (x : Port) := signals_shutDown w x
  have services (k : SlotNo) := service_shutDown (s := w) k
  have answer : exec (.intervalEnd order sensor boot) s = .next (shutDown w) := answer
  obtain ⟨v, a, b, shut⟩ := shutDown_only w
  rw [shut] at answer signals services
  refine ⟨_, answer, ?_, fun p => ?_, fun k c configured => ?_, fun x c binds => ?_, fun x => ?_, rfl, rfl, counters,
    state,
    fun x => ?_, fun k => ?_, rfl, rfl, rfl, rfl, rfl, rfl, rfl, rfl, ?_, published, ?_, rfl, ?_⟩
  · rw [show w.thermal = { s.thermal with reading := min sensor 150 } by
      change { u.thermal with reading := min sensor 150 } = _; rw [rest]]
  · have path : (w.paths.map fun _ u => u.stopped).get p = (u.path p).stopped := Quad.get_map ..
    have spec := PathUnit.stopped_spec (u.path p)
    rw [paths p] at path spec
    obtain ⟨parked, cleared, failure, attempts, index, sent, inbox⟩ := spec
    refine ⟨(congrArg PathUnit.state path).trans parked, fun other => ?_,
      (congrArg PathUnit.lastFailure path).trans failure,
      (congrArg PathUnit.attempts path).trans attempts, (congrArg PathUnit.candidateIndex path).trans index,
      (congrArg PathUnit.outbox path).trans sent, (congrArg PathUnit.inbox path).trans inbox⟩
    obtain ⟨timer, selection, measurements, decoded, counter⟩ := cleared other
    exact ⟨(congrArg PathUnit.timer path).trans timer, (congrArg PathUnit.selection path).trans selection,
      (congrArg PathUnit.measurements path).trans measurements, (congrArg PathUnit.decoded path).trans decoded,
      (congrArg PathUnit.counter path).trans counter⟩
  · have service := services k
    rw [if_pos (by rw [slot, configured]; rfl)] at service
    refine ⟨congrArg Service.window service, congrArg Service.front service, congrArg Service.refN service,
      congrArg Service.lastSelected service, congrArg Service.state service, fun p => ?_⟩
    exact (congrArg (fun v : Service => v.tracking.get p) service).trans (Quad.get_fill ..)
  · have port := port_map_shutDown (s := w) (x := x)
    rw [if_pos (by rw [bound, binds]; rfl)] at port
    exact ⟨congrArg PortUnit.fifo port, congrArg PortUnit.due port, congrArg PortUnit.driversOn port,
      congrArg PortUnit.onLane port, congrArg PortUnit.sensing port, congrArg PortUnit.activityTimer port⟩
  · have elect := elect_shutDown (x := x) w.election
    exact ⟨congrArg PortElection.lane elect, congrArg PortElection.settle elect, congrArg PortElection.yieldWait elect,
      congrArg PortElection.holdTimer elect, congrArg PortElection.mark elect⟩
  · obtain ⟨port, election⟩ := signals x
    rw [naming x] at port election
    have sent : w.portSignals = s.portSignals ∧ w.electionSignals = s.electionSignals := by
      change u.portSignals = _ ∧ u.electionSignals = _; rw [rest]; exact ⟨rfl, rfl⟩
    rw [sent.1] at port
    rw [sent.2] at election
    exact ⟨port, election⟩
  · cases k with
    | lane x => exact Quad.get_fill ..
    | announce => rfl
    | report => rfl
  · change { u.loader with releasing := false, releaseLimit := none, releasedReport := false } = _
    rw [rest]
  · change u.monitor.source = _
    rw [rest]
  · obtain ⟨i, q, k, p, e, l, f, same⟩ : ∃ i q k p e l f, u = { s with
        interval := i, paths := q, services := k, ports := p, election := e, line := l, fitness := f } :=
      ⟨_, _, _, _, _, _, _, rest⟩
    subst same
    rfl

end Sys2Proof.Machine
end

section
/-!
What settles the thermal controller's outstanding request (R165, R168, R171): O25.
-/
namespace Sys2Proof.Machine

theorem PathUnit.stopAwaited_iff (u : PathUnit) :
    u.stopAwaited = true ↔ u.state ≠ .parked ∨ .stop ∈ u.inbox ∨ .unpark ∈ u.inbox := by
  have parks (o : PathOrder) : o.parks.isSome = true ↔ o = .stop ∨ o = .unpark := by
    cases o <;> simp [PathOrder.parks]
  unfold PathUnit.stopAwaited
  rw [Bool.or_eq_true, bne_iff_ne, List.any_eq_true]
  refine or_congr_right ⟨?_, ?_⟩
  · rintro ⟨o, waits, moves⟩
    obtain rfl | rfl := (parks o).mp moves
    · exact .inl waits
    · exact .inr waits
  · rintro (waits | waits)
    · exact ⟨_, waits, rfl⟩
    · exact ⟨_, waits, rfl⟩

section Answers
variable {s : State} {p : Path} {rest : List Answer}

theorem execParkAcknowledgement_of_parked (waits : s.answers = .parked p :: rest) : execParkAcknowledgement s =
    if s.thermal.shutdown then .next { s with answers := rest }
    else if (s.path p).stopAwaited then .next s
    else if s.thermal.outstanding = some (.park p) then .next (pushParked { s with answers := rest } p)
    else .next { s with answers := rest } := by
  unfold execParkAcknowledgement
  rw [waits]

theorem execParkRefusal_of_refused (waits : s.answers = .parkRefused p :: rest) : execParkRefusal s =
    if s.thermal.shutdown = false ∧ s.thermal.outstanding = some (.park p) then
      .next { s with answers := rest, thermal := { s.thermal with outstanding := none } }
    else .next { s with answers := rest } := by
  unfold execParkRefusal
  rw [waits]

theorem execUnparkAcknowledgement_of_answer {a : Answer} (waits : s.answers = a :: rest)
    (unparks : a.unparkOf = some p) :
    execUnparkAcknowledgement s =
      if s.thermal.shutdown = false ∧ s.thermal.outstanding = some (.unpark p) then
        .next { s with answers := rest, thermal := { s.thermal with outstanding := none } }
      else .next { s with answers := rest } := by
  unfold execUnparkAcknowledgement
  rw [waits]
  dsimp only
  rw [unparks]

/-- R166: the push, told field by field. -/
theorem pushParked_eq (s : State) (p : Path) : pushParked s p = { s with
    thermal := { s.thermal with stack := p :: s.thermal.stack, outstanding := none, cool := 0 }
    fitness :=
      { s.fitness with
        faults := { s.fitness.faults with thermalShed := s.fitness.faults.thermalShed || s.thermal.stack.isEmpty } }
          } := by
  unfold pushParked
  cases s.thermal.stack with
  | nil => rw [if_pos rfl, List.isEmpty_nil, Bool.or_true]; rfl
  | cons q rest => rw [if_neg (List.cons_ne_nil _ _), List.isEmpty_cons, Bool.or_false]

end Answers

/-- Settles O25: by the answer that waits, the state of the controller, and its outstanding request. -/
theorem answersSettleOutstandingRequest : Obligations.AnswersSettleOutstandingRequest := by
  intro p a rest s waits taken
  have off {r : Request} (stands : s.thermal.shutdown = true ∨ s.thermal.outstanding ≠ some r) :
      ¬ (s.thermal.shutdown = false ∧ s.thermal.outstanding = some r) := by
    rintro ⟨awake, out⟩
    obtain shut | other := stands
    · exact absurd (shut.symm.trans awake) (by decide)
    · exact other out
  refine ⟨?_, ?_, ?_, ?_⟩
  · rintro rfl awake awaited
    have answer := execParkAcknowledgement_of_parked waits
    rw [if_neg (by rw [awake]; decide)] at answer
    refine ⟨fun awaits => ?_, fun settled => ?_⟩
    · rw [if_pos ((PathUnit.stopAwaited_iff _).mpr awaits)] at answer
      exact answer
    · rw [if_neg (mt (PathUnit.stopAwaited_iff _).mp settled)] at answer
      refine ⟨fun out => ?_, fun other => ?_⟩
      · rw [if_pos out, pushParked_eq] at answer
        exact answer
      · rw [if_neg other] at answer
        exact answer
  · rintro rfl shut
    have answer := execParkAcknowledgement_of_parked waits
    rw [if_pos shut] at answer
    exact answer
  · rintro rfl
    have answer := execParkRefusal_of_refused waits
    refine ⟨fun awake out => ?_, fun stands => ?_⟩
    · rw [if_pos ⟨awake, out⟩] at answer
      exact answer
    · rw [if_neg (off stands)] at answer
      exact answer
  · intro which
    have unparks : a.unparkOf = some p := by obtain rfl | rfl := which <;> rfl
    have answer := execUnparkAcknowledgement_of_answer waits unparks
    refine ⟨fun awake out => ?_, fun stands => ?_⟩
    · rw [if_pos ⟨awake, out⟩] at answer
      exact answer
    · rw [if_neg (off stands)] at answer
      exact answer

end Sys2Proof.Machine
end

section
/-!
The checker's scan and the merge unit's selection (R51, R52, R153): both take the copy of least key, and no two paths
have one key (O24).
-/
namespace Sys2Proof.Machine

namespace CheckInputs

/-- Rank first, the sticky path before the others, then priority and path (R51, R52). -/
def key (i : CheckInputs) (p : Path) (a : Status) : Nat :=
  a.rank * 64 + (if i.tieMode = .sticky ∧ i.last = some p then 0 else 32) + (3 - (i.priority.get p).val) * 4 + p.val

theorem eq_of_key_eq {i : CheckInputs} {p q : Path} {a b : Status} (same : i.key p a = i.key q b) : p = q := by
  unfold key at same
  split at same <;> split at same <;> exact Fin.ext (by omega)

theorem goesBefore_iff {i : CheckInputs} {p q : Path} (below : p < q) (a b : Status) :
    i.goesBefore p a q b = true ↔ i.key q b < i.key p a := by
  have sticky (r : Path) : (i.tieMode == .sticky && i.last == some r) = true ↔ i.tieMode = .sticky ∧
    i.last = some r := by
    rw [Bool.and_eq_true, beq_iff_eq, beq_iff_eq]
  have apart : ¬ ((i.tieMode = .sticky ∧ i.last = some p) ∧ i.tieMode = .sticky ∧ i.last = some q) := fun both =>
    ne_of_lt below (Option.some.inj (both.1.2.symm.trans both.2.2))
  unfold goesBefore key
  dsimp only
  simp only [sticky]
  split
  · simp only [true_iff]
    split <;> split <;> omega
  · split
    · simp only [Bool.false_eq_true, false_iff, not_lt]
      split <;> split <;> omega
    · split
      next stickyP =>
        rw [if_neg fun stickyQ => apart ⟨stickyP, stickyQ⟩]
        simp only [Bool.false_eq_true, false_iff, not_lt]
        omega
      · split
        · simp only [true_iff]
          omega
        · simp only [decide_eq_true_eq]
          have : p.val < q.val := below
          omega

/-- The best of some copies: one of them, and none has a lesser key. -/
def Best (i : CheckInputs) (held : Path → Status → Prop) : Option (Path × Status) → Prop
  | none => ∀ p a, ¬ held p a
  | some (p, a) => held p a ∧ ∀ q b, held q b → i.key p a ≤ i.key q b

theorem best_scan {i : CheckInputs} {held : Path → Status → Prop} {best : Option (Path × Status)} {q : Path}
    (above : ∀ p a, held p a → p < q) (law : i.Best held best) :
    i.Best (fun p a => held p a ∨ p = q ∧ i.statuses.get q = some a) (i.scan best q) := by
  unfold scan
  split
  next none_ =>
    have idle (p : Path) (a : Status) : held p a ∨ p = q ∧ i.statuses.get q = some a ↔ held p a :=
      or_iff_left fun both => (Option.some_ne_none _ (both.2.symm.trans none_)).elim
    simp only [idle]
    exact law
  next st present =>
    refine ⟨.inr ⟨rfl, present⟩, ?_⟩
    rintro p b (holds | ⟨rfl, same⟩)
    · exact absurd holds (law p b)
    · rw [Option.some.inj (present.symm.trans same)]
  next p a st present =>
    obtain ⟨holds, least⟩ := law
    have before := goesBefore_iff (i := i) (above p a holds) a st
    split
    next goes =>
      have less := before.mp goes
      refine ⟨.inr ⟨rfl, present⟩, ?_⟩
      rintro r b (held | ⟨rfl, same⟩)
      · exact less.le.trans (least r b held)
      · rw [Option.some.inj (present.symm.trans same)]
    next stays =>
      have less := not_lt.mp (mt before.mpr stays)
      refine ⟨.inl holds, ?_⟩
      rintro r b (held | ⟨rfl, same⟩)
      · exact least r b held
      · rw [← Option.some.inj (present.symm.trans same)]
        exact less

theorem best_foldl_scan {i : CheckInputs} {ps : List Path} (rising : ps.Pairwise (· < ·)) :
    ∀ {held : Path → Status → Prop} {best : Option (Path × Status)}, (∀ q ∈ ps, ∀ p a, held p a → p < q) →
      i.Best held best → i.Best (fun p a => held p a ∨ p ∈ ps ∧ i.statuses.get p = some a) (ps.foldl i.scan best) := by
  induction ps with
  | nil =>
    intro held best _ law
    simpa using law
  | cons q ps ih =>
    intro held best above law
    obtain ⟨lowest, rising⟩ := List.pairwise_cons.mp rising
    have first := best_scan (above q List.mem_cons_self) law
    have rest := ih rising (fun r later p a holds => ?_) first
    · have same (p : Path) (a : Status) :
          (held p a ∨ p = q ∧ i.statuses.get q = some a) ∨ p ∈ ps ∧ i.statuses.get p = some a ↔
            held p a ∨ p ∈ q :: ps ∧ i.statuses.get p = some a := by
        rw [or_assoc, List.mem_cons, or_and_right]
        refine or_congr_right (or_congr_left (and_congr_right fun here => ?_))
        rw [here]
      simp only [same] at rest
      exact rest
    · obtain holds | ⟨rfl, -⟩ := holds
      · exact above r (List.mem_cons_of_mem _ later) p a holds
      · exact lowest r later

/-- The checker's selection is the path of the least key among the copies present. -/
theorem select_spec (i : CheckInputs) :
    (i.select = none ∧ ∀ p, i.statuses.get p = none) ∨ ∃ p a, i.select = some p ∧ i.statuses.get p = some a ∧
      ∀ q b, i.statuses.get q = some b → i.key p a ≤ i.key q b := by
  have law := best_foldl_scan (i := i) (held := fun _ _ => False) (best := none) four_pairwise_lt (fun _ _ _ _ =>
    False.elim)
    fun _ _ => id
  unfold select
  cases scanned : four.foldl i.scan none with
  | none =>
    rw [scanned] at law
    refine .inl ⟨rfl, fun p => ?_⟩
    by_contra present
    obtain ⟨a, at_⟩ := Option.ne_none_iff_exists'.mp present
    exact law p a (.inr ⟨mem_four p, at_⟩)
  | some best =>
    obtain ⟨p, a⟩ := best
    rw [scanned] at law
    obtain ⟨holds, least⟩ := law
    obtain holds | ⟨-, at_⟩ := holds
    · exact holds.elim
    · exact .inr ⟨p, a, rfl, at_, fun q b present => least q b (.inr ⟨mem_four q, present⟩)⟩

end CheckInputs

/-- The selected copy has the least key (R51, R52). -/
theorem key_le_of_selectCopy {c : ServiceConfig} {last : Option Path} {copies : Quad (Option Copy)} {p q : Path}
    {copy d : Copy} (selected : selectCopy c last copies = some (p, copy)) (held : copies.get q = some d) :
    CheckInputs.key ⟨statusesOf copies, c.tieMode, c.priority, last⟩ p copy.status ≤
      CheckInputs.key ⟨statusesOf copies, c.tieMode, c.priority, last⟩ q d.status := by
  obtain ⟨-, spec⟩ := selectionTakesBestRankThenTieBreak c last copies
  obtain ⟨-, best, sticky, priority⟩ := spec p copy selected
  have ranks : copy.status.rank ≤ d.status.rank := best q d held
  unfold CheckInputs.key
  dsimp only
  obtain less | same := lt_or_eq_of_le ranks
  · split <;> split <;> omega
  · by_cases named : c.tieMode = .sticky ∧ last = some q
    · obtain rfl := sticky named.1 q d named.2 held same.symm
      rw [same]
    · rw [if_neg named]
      by_cases own : c.tieMode = .sticky ∧ last = some p
      · rw [if_pos own]
        omega
      · rw [if_neg own]
        have first := priority ?_ q d held same.symm
        · omega
        · by_cases tie : c.tieMode = .priority
          · exact .inl tie
          · have isSticky : c.tieMode = .sticky := by
              cases mode : c.tieMode with
              | sticky => rfl
              | priority => exact absurd mode tie
            refine .inr fun r e lastIs present => lt_of_le_of_ne (best r e present) fun equal => ?_
            have here := sticky isSticky r e lastIs present equal.symm
            exact own ⟨isSticky, here ▸ lastIs⟩

/-- Settles O24: both selections have the least key. -/
theorem checkerAgreesWithSelection : Obligations.CheckerAgreesWithSelection := by
  intro c last copies
  obtain ⟨present, spec⟩ := selectionTakesBestRankThenTieBreak c last copies
  have status (p : Path) : (statusesOf copies).get p = (copies.get p).map Copy.status := Quad.get_map ..
  obtain ⟨none_, absent⟩ | ⟨p, a, chosen, at_, least⟩ :=
    CheckInputs.select_spec ⟨statusesOf copies, c.tieMode, c.priority, last⟩
  · rw [none_]
    cases selected : selectCopy c last copies with
    | none => rfl
    | some x =>
      obtain ⟨held, -⟩ := spec x.1 x.2 selected
      have := absent x.1
      rw [status, held] at this
      exact nomatch this
  · rw [status] at at_
    obtain ⟨d, held, rfl⟩ := Option.map_eq_some_iff.mp at_
    obtain ⟨⟨q, copy⟩, selected⟩ := Option.ne_none_iff_exists'.mp
      (present ⟨p, by rw [held]; exact Option.some_ne_none _⟩)
    obtain ⟨heldQ, -⟩ := spec q copy selected
    have one := least q copy.status (by rw [status, heldQ]; rfl)
    have other := key_le_of_selectCopy selected held
    rw [chosen, selected, CheckInputs.eq_of_key_eq (le_antisymm one other)]
    rfl

end Sys2Proof.Machine
end

section
/-!
The merge unit told exactly (chapter 3): a resolution, the cascade as a relation, the re-evaluation that turns a
service DARK, and the service that takes a path's message (R37, R38, R47, R53 to R55).
-/
namespace Sys2Proof.Machine

/-! ### One resolution -/

section Resolve
variable {s t u : State} {k : SlotNo} {c : ServiceConfig} {e : Entry} {rest : List Entry} {p : Path} {copy : Copy}

theorem ServiceCounters.resolve_eq (v : Service) (e : Entry) (rest : List Entry) (p : Path) (copy : Copy)
    (forced : Bool) :
    { v with
      window := rest
      front := some e.position
      lastSelected := some p
      counters := v.counters.resolve p copy e.copies (missingBefore v e) forced } = v.resolvedTo e rest p copy
        forced := by
  unfold ServiceCounters.resolve Service.resolvedTo missingBefore
  have bad (x y : Nat) : (if (copy.status == .uncorrectable) = true then x else y) =
      if copy.status = .uncorrectable then x else y := by
    simp only [beq_iff_eq]
  simp only [bad]
  rfl

theorem State.output_eq (s : State) (c : ServiceConfig) (copy : Copy) : s.output c copy = { s with
    ports :=
      match c.port with
      | some x =>
        match s.portConfig x with
        | some q => s.ports.set x ((s.port x).condition q.depth q.conditioning copy.status copy.packet)
        | none => s.ports
      | none => s.ports } := by
  unfold State.output State.toPort
  cases c.port with
  | none => rfl
  | some x =>
    dsimp only
    cases s.portConfig x with
    | none => rfl
    | some q => rfl

theorem State.handToChecker_eq (awake : s.thermal.shutdown = false)
    (selected : selectCopy c last copies = some (p, copy)) :
    s.handToChecker k ⟨statusesOf copies, c.tieMode, c.priority, last⟩ p = { s with
      fitness :=
        if s.fitness.underCheck = some k then { s.fitness with checked := min (s.fitness.checked + 1) 65535 }
        else s.fitness } := by
  have agrees : CheckInputs.select ⟨statusesOf copies, c.tieMode, c.priority, last⟩ = some p := by
    rw [checkerAgreesWithSelection, selected]; rfl
  unfold State.handToChecker FitnessUnit.check
  by_cases checks : s.fitness.underCheck = some k
  · rw [if_pos ⟨checks, awake⟩, if_pos checks, if_pos agrees]
    rfl
  · rw [if_neg fun both => checks both.1, if_neg checks]

/-- A head with a selection resolves as `State.resolved` tells. -/
theorem resolveHead_eq (awake : s.thermal.shutdown = false) (configured : s.slotConfig k = some c)
    (window : (s.service k).window = e :: rest)
    (selected : selectCopy c (s.service k).lastSelected e.copies = some (p, copy)) (forced : Bool) :
    resolveHead s k forced = s.resolved k c e rest p copy forced := by
  unfold resolveHead
  rw [configured, window]
  dsimp only
  rw [selected]
  dsimp only
  rw [State.handToChecker_eq awake selected, State.output_eq]
  unfold State.resolved
  rw [← ServiceCounters.resolve_eq]
  rfl

theorem service_resolved_self : (s.resolved k c e rest p copy forced).service k =
    (s.service k).resolvedTo e rest p copy forced := Quad.get_set_self ..

theorem service_resolved_of_ne {j : SlotNo} (other : j ≠ k) :
    (s.resolved k c e rest p copy forced).service j = s.service j := Quad.get_set_of_ne _ _ other

theorem Entry.ready_iff {now : Nat} : e.ready now = true ↔
    e.expiryTime ≤ now ∨ ∀ q, e.awaited.get q = true → (e.copies.get q).isSome = true := by
  unfold Entry.ready Entry.complete
  rw [Bool.or_eq_true, decide_eq_true_eq, or_comm, List.all_eq_true]
  refine or_congr_right ⟨fun all q awaits => ?_, fun all q _ => ?_⟩
  · simpa [awaits] using all q (mem_four q)
  · cases awaits : e.awaited.get q with
    | false => rfl
    | true => simpa using all q awaits

theorem Entry.ready_eq_false_iff {now : Nat} : e.ready now = false ↔
    now < e.expiryTime ∧ ∃ q, e.awaited.get q = true ∧ e.copies.get q = none := by
  rw [← Bool.not_eq_true, Entry.ready_iff]
  push Not
  simp only [ne_eq, Bool.not_eq_true, Option.isSome_eq_false_iff,
    Option.isNone_iff_eq_none]

theorem selects_of_copy (held : ∃ q, (e.copies.get q).isSome = true) (c : ServiceConfig) (last : Option Path) :
    ∃ p copy, selectCopy c last e.copies = some (p, copy) := by
  obtain ⟨q, held⟩ := held
  obtain ⟨⟨p, copy⟩, selected⟩ := Option.ne_none_iff_exists'.mp (selectCopy_ne_none (c := c) (last := last)
    (Option.isSome_iff_ne_none.mp held))
  exact ⟨p, copy, selected⟩

/-! ### The cascade (R47) -/

/-- A working station's configured service, each of whose entries holds a copy. -/
structure State.Resolves (s : State) (k : SlotNo) (c : ServiceConfig) : Prop where
  awake : s.thermal.shutdown = false
  configured : s.slotConfig k = some c
  held : ∀ e ∈ (s.service k).window, ∃ p, (e.copies.get p).isSome = true

theorem State.Resolves.resolved (law : s.Resolves k c) (window : (s.service k).window = e :: rest) :
    (s.resolved k c e rest p copy forced).Resolves k c where
  awake := law.awake
  configured := law.configured
  held d member := by
    rw [service_resolved_self] at member
    exact law.held d (by rw [window]; exact List.mem_cons_of_mem _ member)

/-- With fuel for its whole window a cascade drains it. -/
theorem drains_cascade : ∀ (n : Nat) {s : State}, s.Resolves k c → (s.service k).window.length ≤ n →
    State.Drains k c s (cascade n s k)
  | 0, s, _, few => by
    have empty : (s.service k).window = [] := List.eq_nil_of_length_eq_zero (Nat.le_zero.mp few)
    exact .ends s fun e rest window => (List.cons_ne_nil _ _ (window.symm.trans empty)).elim
  | n + 1, s, law, few => by
    unfold cascade
    split
    next e rest window =>
      split
      next ready =>
        obtain ⟨p, copy, selected⟩ := selects_of_copy (law.held e (by rw [window]; exact List.mem_cons_self)) c _
        rw [resolveHead_eq law.awake law.configured window selected]
        refine .takes s _ e rest p copy window (Entry.ready_iff.mp ready) selected
          (drains_cascade n (law.resolved window) ?_)
        rw [service_resolved_self]
        rw [window] at few
        exact Nat.le_of_succ_le_succ few
      next waits =>
        refine .ends s fun d behind same => ?_
        obtain rfl : e = d := (List.cons.inj (window.symm.trans same)).1
        exact Entry.ready_eq_false_iff.mp (Bool.eq_false_iff.mpr waits)
    next empty => exact .ends s fun e rest window => (List.cons_ne_nil _ _ (window.symm.trans empty)).elim

theorem testHead_none (s : State) (k : SlotNo) (rest : AfterCascade) :
    testHead s k none rest = cascade (s.service k).window.length s k := by
  unfold testHead
  exact if_neg fun both => Bool.false_ne_true both.1

theorem drains_testHead (law : s.Resolves k c) (rest : AfterCascade) : State.Drains k c s (testHead s k none rest) := by
  rw [testHead_none]
  exact drains_cascade _ law le_rfl

/-- Where a head is resolved, and where a cascade ends, is settled by the state. -/
theorem State.Drains.unique (first : State.Drains k c s t) : ∀ {u}, State.Drains k c s u → t = u := by
  have ready {s : State} {e : Entry} {rest : List Entry} (window : (s.service k).window = e :: rest)
      (goes : e.expiryTime ≤ s.now ∨ ∀ q, e.awaited.get q = true → (e.copies.get q).isSome = true)
      (stays : ∀ e rest, (s.service k).window = e :: rest →
        s.now < e.expiryTime ∧ ∃ p, e.awaited.get p = true ∧ e.copies.get p = none) : False := by
    exact Bool.false_ne_true ((Entry.ready_eq_false_iff.mpr (stays e rest window)).symm.trans
      (Entry.ready_iff.mpr goes))
  induction first with
  | ends s stays =>
    intro u second
    cases second with
    | ends => rfl
    | takes _ _ e rest p copy window goes => exact (ready window goes stays).elim
  | takes s t e rest p copy window goes selected _ ih =>
    intro u second
    cases second with
    | ends _ stays => exact (ready window goes stays).elim
    | takes _ _ e' rest' p' copy' window' _ selected' later =>
      obtain ⟨rfl, rfl⟩ := List.cons.inj (window.symm.trans window')
      obtain ⟨rfl, rfl⟩ := Prod.mk.inj (Option.some.inj (selected.symm.trans selected'))
      exact ih later

/-- What a drained cascade leaves as it was. -/
theorem State.Drains.frame (drained : State.Drains k c s t) :
    (t.service k).state = (s.service k).state ∧ (t.service k).tracking = (s.service k).tracking ∧
      (t.service k).refN = (s.service k).refN ∧ (t.service k).contributors = (s.service k).contributors ∧
      (∀ j, j ≠ k → t.service j = s.service j) ∧
      t = { s with services := t.services, ports := t.ports, fitness := t.fitness } := by
  induction drained with
  | ends s => exact ⟨rfl, rfl, rfl, rfl, fun _ _ => rfl, rfl⟩
  | takes s t e rest p copy _ _ _ _ ih =>
    rw [service_resolved_self] at ih
    obtain ⟨state, tracking, ref, contributors, others, only⟩ := ih
    refine ⟨state, tracking, ref, contributors, fun j other => (others j other).trans (service_resolved_of_ne other),
      ?_⟩
    rw [only]
    rfl

/-- The front is set once a head has been resolved, and stands where it was set. -/
theorem State.Drains.front (drained : State.Drains k c s t) (set_ : (s.service k).front ≠ none) :
    (t.service k).front ≠ none := by
  induction drained with
  | ends => exact set_
  | takes s t e rest p copy _ _ _ _ ih =>
    exact ih (by rw [service_resolved_self]; exact Option.some_ne_none _)

theorem State.Drains.window (drained : State.Drains k c s t) :
    ∃ n, (t.service k).window = (s.service k).window.drop n := by
  induction drained with
  | ends => exact ⟨0, rfl⟩
  | takes s t e rest p copy window _ _ _ ih =>
    obtain ⟨n, drop⟩ := ih
    rw [service_resolved_self] at drop
    exact ⟨n + 1, by rw [drop, window]; rfl⟩

end Resolve

/-! ### The state of a service (R38) -/

section Review
variable {s : State} {k : SlotNo} {c : ServiceConfig}

/-- A service that is LIVE, or DARK with nothing in it, can only turn DARK. -/
theorem review_eq_turnedDark (configured : s.slotConfig k = some c)
    (dark : (s.service k).state = .dark → (∀ p, (s.service k).tracking.get p = false) ∧ (s.service k).window = []) :
    review s k = s.turnedDark k c := by
  unfold review State.turnedDark
  dsimp only
  by_cases turns : (s.service k).state = .live ∧ (s.service k).window = [] ∧ ∀ p, (s.service k).tracking.get p = false
  · have now : (s.service k).stateNow = .dark := Service.stateNow_eq_dark_iff.mpr ⟨turns.2.2, turns.2.1⟩
    rw [if_pos turns, if_neg (by rw [now, turns.1]; decide), configured, now]
    have service : (s.services.get k).stateNow = .dark := now
    simp only [State.updService, Quad.update, service]
    cases port : c.port with
    | none => simp only [Option.bind_some, port]; rfl
    | some x => simp only [Option.bind_some, port]; rfl
  · rw [if_neg turns, if_pos]
    cases state : (s.service k).state with
    | dark => exact Service.stateNow_eq_dark_iff.mpr (dark state)
    | live =>
      cases now : (s.service k).stateNow with
      | live => rfl
      | dark =>
        obtain ⟨untracked, empty⟩ := Service.stateNow_eq_dark_iff.mp now
        exact absurd ⟨state, empty, untracked⟩ turns

theorem reviewAtEnd_of_free (free : s.cascading = none) : reviewAtEnd s k = review s k :=
  if_neg (by rw [free]; exact Bool.false_ne_true)

end Review

/-! ### The taker of a message (R37) -/

section Taker
variable {s t : State} {k : SlotNo} {c : ServiceConfig} {p : Path}

theorem State.serviceOf_of_servedIn (serves : s.servedIn p k c) : s.serviceOf p = some k := by
  obtain ⟨-, -, configured, contributes, alone⟩ := serves
  unfold State.serviceOf
  have here : ((s.slotConfig k).isSome && (s.service k).contributors.get p) = true := by
    rw [configured, contributes]; rfl
  cases found : four.find? fun k => (s.slotConfig k).isSome && (s.service k).contributors.get p with
  | none => exact absurd here (List.find?_eq_none.mp found k (mem_four k))
  | some j =>
    obtain ⟨at_, gets⟩ := State.configured_of_serviceOf found
    by_contra other
    exact Bool.false_ne_true ((alone j (fun same => other (congrArg some same)) at_).symm.trans gets)

theorem State.serviceOf_of_servedNowhere (nowhere : s.servedNowhere p) : s.serviceOf p = none := by
  refine List.find?_eq_none.mpr fun k _ both => ?_
  obtain ⟨at_, gets⟩ := Bool.and_eq_true_iff.mp both
  exact Bool.false_ne_true ((nowhere k at_).symm.trans gets)

theorem State.taker_of_servedIn (serves : s.servedIn p k c) : s.taker p = some (k, c) := by
  have served := State.serviceOf_of_servedIn serves
  obtain ⟨awake, -, configured, -, -⟩ := serves
  unfold State.taker
  rw [if_neg (by rw [awake]; exact Bool.false_ne_true), served, Option.bind_some, configured]
  rfl

theorem State.taker_of_none (none_ : s.thermal.shutdown = true ∨ s.servedNowhere p) : s.taker p = none := by
  obtain shut | nowhere := none_
  · exact taker_of_shutdown shut p
  · unfold State.taker
    rw [State.serviceOf_of_servedNowhere nowhere]
    exact ite_self _

theorem State.takeMessage_of_outbox {m : PathMessage} {rest : List PathMessage} (sent : (s.path p).outbox = m :: rest) :
    s.takeMessage p = some (m, s.updPath p fun u => { u with outbox := rest }) := by
  unfold State.takeMessage
  rw [sent]

end Taker

end Sys2Proof.Machine
end

section
/-!
The arrival of copies and notices at a service (R41 to R48): O17, O18, O19, O20.
-/
namespace Sys2Proof.Machine

/-! ### What a command has taken -/

section Taken
variable {s : State} {k : SlotNo} {c : ServiceConfig} {p : Path}

/-- The station once the merge unit has taken the front message of a path. -/
def State.tookFrom (s : State) (p : Path) (rest : List PathMessage) : State := s.updPath p fun u =>
    { u with outbox := rest }

theorem execCopyArrival_of_outbox {now : Nat} {cut : Option Nat} {r : Record} {rest : List PathMessage}
    (free : s.cascading = none) (sent : (s.path p).outbox = .record r :: rest) :
    execCopyArrival p ⟨now, cut⟩ s =
      match (s.tickTo now |>.tookFrom p rest).taker p with
      | some (k, c) =>
        if ((s.tickTo now |>.tookFrom p rest).service k).tracking.get p then
          .next (reviewAtEnd (arrive (s.tickTo now |>.tookFrom p rest) k c r cut) k)
        else .next (s.tickTo now |>.tookFrom p rest)
      | none => .next (s.tickTo now |>.tookFrom p rest) := by
  unfold execCopyArrival
  rw [mergeAt_of_free free]
  dsimp only
  rw [State.takeMessage_of_outbox (s := s.tickTo now) sent]
  rfl

theorem execTrackingNotice_of_outbox {stay : Nat} {rest : List PathMessage} (free : s.cascading = none)
    (sent : (s.path p).outbox = .tracking stay :: rest) : execTrackingNotice p s =
      match (s.tookFrom p rest).taker p with
      | some (k, _) =>
        .next (review
          ({ s.tookFrom p rest with mergeStays := s.mergeStays.set p stay }.updService k
            fun v => { v with tracking := v.tracking.set p true }) k)
      | none => .next (s.tookFrom p rest) := by
  unfold execTrackingNotice
  rw [finishCascade_of_none free]
  dsimp only
  rw [State.takeMessage_of_outbox sent]
  rfl

theorem execLeavingNotice_of_outbox {now : Nat} {cut : Option Nat} {rest : List PathMessage}
    (free : s.cascading = none) (sent : (s.path p).outbox = .leaving :: rest) :
    execLeavingNotice p ⟨now, cut⟩ s =
      match (s.tickTo now |>.tookFrom p rest).taker p with
      | some (k, _) =>
        if ((s.tickTo now |>.tookFrom p rest).service k).tracking.get p then
          .next (reviewAtEnd (testHead ((s.tickTo now |>.tookFrom p rest).updService k fun v =>
            v.without p) k cut .nothing) k)
        else .next (s.tickTo now |>.tookFrom p rest)
      | none => .next (s.tickTo now |>.tookFrom p rest) := by
  unfold execLeavingNotice
  rw [mergeAt_of_free free]
  dsimp only
  rw [State.takeMessage_of_outbox (s := s.tickTo now) sent]
  rfl

/-- A LIVE service with a path in its tracking set stays as it is. -/
theorem review_of_live {q : Path} (live : (s.service k).state = .live) (tracks : (s.service k).tracking.get q = true) :
    review s k = s := by
  unfold review
  refine if_pos ?_
  rw [live]
  cases now : (s.service k).stateNow with
  | live => rfl
  | dark =>
    obtain ⟨untracked, -⟩ := Service.stateNow_eq_dark_iff.mp now
    exact (Bool.false_ne_true ((untracked q).symm.trans tracks)).elim

theorem reviewAtEnd_of_live {q : Path} (live : (s.service k).state = .live)
    (tracks : (s.service k).tracking.get q = true) : reviewAtEnd s k = s := by
  unfold reviewAtEnd
  rw [review_of_live live tracks]
  exact ite_self _

/-- R38: a DARK service that a path joins turns LIVE, and says so. -/
theorem review_of_joining {q : Path} (configured : s.slotConfig k = some c) (dark : (s.service k).state = .dark)
    (tracks : (s.service k).tracking.get q = true) : review s k =
      match c.port with
      | some x => (s.updService k fun v => { v with state := .live }).signalService x .live
      | none => s.updService k fun v => { v with state := .live } := by
  have now : (s.service k).stateNow = .live := by
    cases now : (s.service k).stateNow with
    | live => rfl
    | dark =>
      obtain ⟨untracked, -⟩ := Service.stateNow_eq_dark_iff.mp now
      exact (Bool.false_ne_true ((untracked q).symm.trans tracks)).elim
  unfold review
  dsimp only
  have service : (s.services.get k).stateNow = .live := now
  rw [if_neg (by rw [now, dark]; decide), configured, now]
  simp only [State.updService, Quad.update, service]
  cases port : c.port with
  | none => simp only [Option.bind_some, port]
  | some x => simp only [Option.bind_some, port]

end Taken

/-- Settles O17: the taker of the notice, and the re-evaluation of the service that it joins. -/
theorem trackingNoticeJoinsService : Obligations.TrackingNoticeJoinsService := by
  intro p k c stay rest s sent free taken
  have answer : exec (.trackingNotice p) s = _ := execTrackingNotice_of_outbox free sent
  refine ⟨fun serves => ?_, fun none_ => ?_⟩
  · intro joined
    rw [State.taker_of_servedIn (s := s.tookFrom p rest) (k := k) (c := c) serves] at answer
    obtain ⟨-, -, configured, -, -⟩ := serves
    rw [answer]
    dsimp only
    generalize joins : (({ s.tookFrom p rest with mergeStays := s.mergeStays.set p stay } : State).updService k fun v =>
      { v with tracking := v.tracking.set p true }) = t
    have service : t.service k = { s.service k with tracking := (s.service k).tracking.set p true } := by
      rw [← joins, State.service_updService_self]; rfl
    have tracks : (t.service k).tracking.get p = true := by rw [service]; exact Quad.get_set_self ..
    have lives : t.updService k (fun v => { v with state := .live }) = joined := by
      rw [← joins, State.updService_updService]; rfl
    cases state : (s.service k).state with
    | live =>
      rw [review_of_live (by rw [service]; exact state) tracks, ← lives]
      refine congrArg _ (congrArg (fun q => { t with services := q }) ?_)
      have same : { t.service k with state := .live } = t.service k := by
        rw [service, ← state]
      exact ((congrArg (t.services.set k) same).trans (Quad.set_get ..)).symm
    | dark =>
      rw [review_of_joining (c := c) (by rw [← joins]; exact configured) (by rw [service]; exact state) tracks, lives]
      cases c.port with
      | none => rfl
      | some x => rfl
  · rw [State.taker_of_none (s := s.tookFrom p rest) none_] at answer
    exact answer

/-! ### The tests of an arriving copy (R42 to R44) -/

section Arrive
variable {s : State} {k : SlotNo} {c : ServiceConfig} {n : Nat} {r : Record} {cut : Option Nat}

theorem distance_self (hn : 0 < n) (q : Position) : distance n q q = 0 := by
  have residue := distance_eq_sub_emod hn q q
  rw [sub_self, Int.zero_emod] at residue
  exact_mod_cast residue

theorem arrive_of_same (same : (s.service k).refN = some r.n) :
    arrive s k c r cut = afterModeCheck s k c r.n r cut := by
  unfold arrive
  rw [same]
  exact if_pos rfl

/-- R41, R43: with the reference N unset or the same the copy goes on to the late test. -/
theorem arrive_of_known (known : (s.service k).refN = none ∨ (s.service k).refN = some r.n) :
    arrive s k c r cut = afterModeCheck (s.updService k fun v => { v with refN := some r.n }) k c r.n r cut := by
  obtain none_ | same := known
  · unfold arrive
    rw [none_]
  · have here : s.updService k (fun v => { v with refN := some r.n }) = s := by
      have stays : { s.service k with refN := some r.n } = s.service k := by rw [← same]
      exact congrArg (fun q => { s with services := q }) ((congrArg (s.services.set k) stays).trans (Quad.set_get ..))
    rw [arrive_of_same same, here]

theorem arrive_of_other {m : Nat} (known : (s.service k).refN = some m) (other : r.n ≠ m) :
    arrive s k c r cut = s.updPath r.path fun u =>
      { u with inbox := u.inbox ++ [.refusal, .modeMismatch (s.mergeStays.get r.path)] } := by
  unfold arrive
  rw [known]
  dsimp only
  rw [if_neg other, State.sendPath, State.sendPath, State.updPath_updPath]
  exact State.updPath_congr _ _ (by simp only [List.append_assoc]; rfl)

theorem afterModeCheck_of_late (late : (s.service k).late n r.position = true) :
    afterModeCheck s k c n r cut = lateCopy s k r.path := if_pos late

theorem find_of_apart {before after : List Entry} {e : Entry} {q : Position}
    (apart : ∀ d ∈ before, samePosition n d.position q = false) (here : samePosition n e.position q = true) :
    (before ++ e :: after).find? (fun d => samePosition n d.position q) = some e := by
  have missed : before.find? (fun d => samePosition n d.position q) = none :=
    List.find?_eq_none.mpr fun d member => by rw [apart d member]; exact Bool.false_ne_true
  rw [List.find?_append, missed, Option.none_or, List.find?_cons_of_pos]
  exact here

/-- R42: a position already held by the path's copy. -/
theorem afterModeCheck_of_held {before after : List Entry} {e : Entry}
    (window : (s.service k).window = before ++ e :: after)
    (apart : ∀ d ∈ before, samePosition n d.position r.position = false)
      (here : samePosition n e.position r.position = true)
    (held : (e.copies.get r.path).isSome = true) : afterModeCheck s k c n r cut = lateCopy s k r.path := by
  unfold afterModeCheck
  dsimp only
  split
  · rfl
  · rw [window, find_of_apart apart here]
    exact if_pos held

theorem storeCopy_of_apart {before after : List Entry} {e : Entry}
    (apart : ∀ d ∈ before, samePosition n d.position r.position = false)
      (here : samePosition n e.position r.position = true) :
    storeCopy n r (before ++ e :: after) =
      before ++ { e with copies := e.copies.set r.path (some ⟨r.status, r.packet⟩) } :: after := by
  induction before with
  | nil => exact if_pos here
  | cons d before ih =>
    obtain ⟨other, apart⟩ := List.forall_mem_cons.mp apart
    rw [List.cons_append, List.cons_append, storeCopy, if_neg (by rw [other]; decide), ih apart]

/-- R43: the copy goes into the entry of its position, the head among them tested. -/
theorem afterModeCheck_of_open {before after : List Entry} {e : Entry}
    (recent : (s.service k).late n r.position = false)
    (window : (s.service k).window = before ++ e :: after)
    (apart : ∀ d ∈ before, samePosition n d.position r.position = false)
      (here : samePosition n e.position r.position = true)
    (lacks : e.copies.get r.path = none) : afterModeCheck s k c n r cut =
      let stored := s.updService k fun v =>
        { v with window := before ++ { e with copies := e.copies.set r.path (some ⟨r.status, r.packet⟩) } :: after }
      if before = [] then testHead stored k cut .nothing else stored := by
  have stores : (s.updService k fun v => { v with window := storeCopy n r v.window }) = s.updService k fun v =>
      { v with window := before ++ { e with copies := e.copies.set r.path (some ⟨r.status, r.packet⟩) } :: after } :=
    State.updService_congr _ _ (by rw [window, storeCopy_of_apart apart here])
  have headed : heads n r.position (before ++ e :: after) = decide (before = []) := by
    cases before with
    | nil => exact here
    | cons d before => exact apart d List.mem_cons_self
  unfold afterModeCheck
  dsimp only
  rw [if_neg (by rw [recent]; decide), window, find_of_apart apart here]
  dsimp only
  rw [if_neg (by rw [lacks]; decide), stores, headed]
  simp only [decide_eq_true_eq]

theorem find_of_absent {w : List Entry} (apart : ∀ d ∈ w, samePosition n d.position r.position = false) :
    w.find? (fun d => samePosition n d.position r.position) = none :=
  List.find?_eq_none.mpr fun d member => by simp [apart d member]

theorem afterModeCheck_of_absent (recent : (s.service k).late n r.position = false)
    (apart : ∀ d ∈ (s.service k).window, samePosition n d.position r.position = false) :
    afterModeCheck s k c n r cut =
      if (s.service k).admits n r.position then openOrForce s k c n r cut else lateCopy s k r.path := by
  unfold afterModeCheck
  dsimp only
  rw [if_neg (by rw [recent]; decide), find_of_absent apart]

theorem openOrForce_of_room (room : (s.service k).window.length < 48) :
    openOrForce s k c n r cut = openEntry s k c n r cut :=
  if_pos room

/-- R40, R44: the entry that an arriving copy opens. -/
theorem opensFor_openEntry (law : s.Resolves k c) (hn : 0 < r.n) (order : (s.service k).ordered r.n)
    (apart : ∀ d ∈ (s.service k).window, samePosition r.n d.position r.position = false)
    (recent : (s.service k).late r.n r.position = false) (admitted : (s.service k).admits r.n r.position = true) :
    s.OpensFor k c r.path r (openEntry s k c r.n r none) := by
  obtain ⟨before, after, split_, placed, older, younger⟩ :=
    Service.insertEntry_between (e := s.entryFor k c r.path r) hn order apart recent admitted
  refine ⟨before, after, split_, older, younger, ?_⟩
  intro opened
  have opens : (s.updService k fun v =>
      { v with
        window := (s.service k).insertEntry r.n (s.entryFor k c r.path r)
        counters := { v.counters with
          windowPeak := max v.counters.windowPeak ((s.service k).insertEntry r.n (s.entryFor k c r.path r)).length } })
            =
      opened := State.updService_congr _ _ (by rw [length_insertEntry, placed])
  have headed : heads r.n r.position ((s.service k).insertEntry r.n (s.entryFor k c r.path r)) = decide
    (before = []) := by
    rw [placed]
    cases before with
    | nil => exact (samePosition_iff ..).mpr (distance_self hn _)
    | cons d before => exact apart d (by rw [split_]; exact List.mem_cons_self)
  have entry : ({ position := r.position, openTime := s.now, expiryTime := s.now + c.w * 1000
                  awaited := (s.service k).tracking
                  copies := (Quad.fill none).set r.path (some ⟨r.status, r.packet⟩) } :
                    Entry) = s.entryFor k c r.path r := by
    rw [State.entryFor, Nat.mul_comm]
  have result : openEntry s k c r.n r none = if before = [] then testHead opened k none .nothing else opened := by
    unfold openEntry
    dsimp only
    rw [entry, headed, opens]
    simp only [decide_eq_true_eq]
  rw [result]
  refine ⟨fun first => ?_, fun behind => if_neg behind⟩
  rw [if_pos first]
  refine drains_testHead (s := opened) ⟨law.awake, law.configured, fun e member => ?_⟩ .nothing
  have service : (opened.service k).window = before ++ s.entryFor k c r.path r :: after := by
    rw [State.service_updService_self]
  rw [service] at member
  rcases List.mem_append.mp member with old | new
  · exact law.held e (by rw [split_]; exact List.mem_append_left _ old)
  · rcases List.mem_cons.mp new with rfl | old
    · exact ⟨r.path, by rw [State.entryFor, Quad.get_set_self]; rfl⟩
    · exact law.held e (by rw [split_]; exact List.mem_append_right _ old)

end Arrive

end Sys2Proof.Machine
end

section
/-!
What becomes of an arriving copy (R41 to R47): O18, O19 and O20.
-/
namespace Sys2Proof.Machine

section Arrival
variable {s t : State} {k : SlotNo} {c : ServiceConfig} {p : Path} {r : Record}

/-- A LIVE service with a path in its tracking set: no re-evaluation of its state changes it. -/
def State.LiveFor (s : State) (k : SlotNo) (p : Path) : Prop :=
  (s.service k).state = .live ∧ (s.service k).tracking.get p = true

theorem Service.live_of_tracks {v : Service} (follows : v.stateFollows) (tracks : v.tracking.get p = true) :
    v.state = .live := by
  cases state : v.state with
  | live => rfl
  | dark => exact (Bool.false_ne_true (((follows.mp state).1 p).symm.trans tracks)).elim

theorem State.LiveFor.settled (live : s.LiveFor k p) : reviewAtEnd s k = s := reviewAtEnd_of_live live.1 live.2

theorem State.LiveFor.of_service (live : s.LiveFor k p) (state : (t.service k).state = (s.service k).state)
    (tracking : (t.service k).tracking = (s.service k).tracking) : t.LiveFor k p :=
  ⟨state.trans live.1, by rw [tracking]; exact live.2⟩

theorem State.LiveFor.updService {f : Service → Service} (live : s.LiveFor k p)
    (state : (f (s.service k)).state = (s.service k).state)
    (tracking : (f (s.service k)).tracking = (s.service k).tracking) : (s.updService k f).LiveFor k p :=
  live.of_service (by rw [State.service_updService_self]; exact state)
    (by rw [State.service_updService_self]; exact tracking)

theorem State.LiveFor.drained (live : s.LiveFor k p) (drains : State.Drains k c s t) : t.LiveFor k p := by
  obtain ⟨state, tracking, -⟩ := drains.frame
  exact live.of_service state tracking

theorem State.LiveFor.opened (live : s.LiveFor k p) (opens : s.OpensFor k c p r t) : t.LiveFor k p := by
  obtain ⟨before, after, -, -, -, first, behind⟩ := opens
  have there := State.LiveFor.updService (f := fun v =>
    { v with
      window := before ++ s.entryFor k c p r :: after
      counters := { v.counters with windowPeak := max v.counters.windowPeak (v.window.length + 1) } }) live rfl rfl
  by_cases empty : before = []
  · exact there.drained (first empty)
  · rw [behind empty]
    exact there

theorem State.LiveFor.late (live : s.LiveFor k p) (q : Path) : (lateCopy s k q).LiveFor k p :=
  State.LiveFor.updService (f := fun v =>
    { v with counters := { v.counters with late := v.counters.late.update q inc16 } })
    live rfl rfl

/-- The copy that the merge unit takes from a tracked path of a service. -/
theorem copyArrival_of_tracked {now : Nat} {cut : Option Nat} {rest : List PathMessage} (serves : s.servedIn p k c)
    (sent : (s.path p).outbox = .record r :: rest) (tracks : (s.service k).tracking.get p = true) :
    exec (.copyArrival p ⟨now, cut⟩) s =
      .next (reviewAtEnd (arrive (s.tickTo now |>.tookFrom p rest) k c r cut) k) := by
  have answer : exec (.copyArrival p ⟨now, cut⟩) s = _ := execCopyArrival_of_outbox serves.2.1 sent
  rw [State.taker_of_servedIn (s := s.tickTo now |>.tookFrom p rest) (k := k) (c := c) serves] at answer
  rw [answer]
  exact if_pos tracks

theorem Service.late_of_none {v : Service} {n : Nat} {q : Position} (unset : v.front = none) : v.late n q = false := by
  unfold Service.late
  rw [unset]

theorem Service.late_of_front {v : Service} {n : Nat} {q f : Position} (front : v.front = some f) :
    v.late n q = !newer n q f := by
  unfold Service.late
  rw [front]

theorem Service.late_eq_false {v : Service} {n : Nat} {q : Position}
    (newer_ : ∀ f, v.front = some f → newer n q f = true) : v.late n q = false := by
  cases front : v.front with
  | none => exact Service.late_of_none front
  | some f => rw [Service.late_of_front front, newer_ f front]; rfl

theorem Service.admits_of {v : Service} {n : Nat} {q : Position}
    (place : v.front ≠ none ∨ v.window = [] ∨
      ∃ h t l, v.window = h :: t ∧ v.window.getLast? = some l ∧
        (newer n q h.position = true ∨ newer n l.position q = true)) :
    v.admits n q = true := by
  unfold Service.admits
  cases front : v.front with
  | some f => rfl
  | none =>
    obtain set_ | empty | ⟨h, t, l, window, last, near⟩ := place
    · exact absurd front set_
    · rw [empty]
    · rw [window] at last ⊢
      dsimp only
      rw [last]
      exact Bool.or_eq_true_iff.mpr near

theorem Service.not_admits_of {v : Service} {n : Nat} {q : Position} {h l : Entry} {t : List Entry}
    (unset : v.front = none) (window : v.window = h :: t) (last : v.window.getLast? = some l)
    (behindHead : newer n q h.position = false) (behindTail : newer n l.position q = false) : v.admits n q = false := by
  unfold Service.admits
  rw [unset, window]
  rw [window] at last
  dsimp only
  rw [last, behindHead]
  exact behindTail

theorem Service.ordered_of_orderLaw {v : Service} {n : Nat} (law : v.orderLaw)
    (known : v.refN = none ∨ v.refN = some n) :
    v.ordered n := by
  obtain ⟨unset, set_⟩ := law
  obtain none_ | same := known
  · obtain ⟨empty, noFront⟩ := unset none_
    refine ⟨by rw [empty]; exact List.Pairwise.nil, fun f front => ?_⟩
    exact (Option.some_ne_none _ (front.symm.trans noFront)).elim
  · exact (set_ n same).2.1

theorem Record.inRange.pos (inRange : r.inRange) : 0 < r.n := Nat.lt_of_lt_of_le (by decide) inRange.1.1

end Arrival

/-- Settles O18: the mode check, the late test and the place of the position in the window, one after another. -/
theorem copyIsRefusedStoredOrOpened : Obligations.CopyIsRefusedStoredOrOpened := by
  intro p k c now r rest s serves sent same sound
  intro v arrives taken known late
  subst same
  refine ⟨fun untracked => ?_, fun tracks => ?_⟩
  · have answer : arrives = _ := execCopyArrival_of_outbox serves.2.1 sent
    rw [State.taker_of_servedIn (s := s.tickTo now |>.tookFrom r.path rest) (k := k) (c := c) serves] at answer
    rw [answer]
    exact if_neg fun is => Bool.false_ne_true (untracked.symm.trans is)
  have answer : arrives = .next (reviewAtEnd (arrive taken k c r none) k) := copyArrival_of_tracked serves sent tracks
  have live : taken.LiveFor k r.path := ⟨Service.live_of_tracks sound.1 tracks, tracks⟩
  refine ⟨fun n ref other => ?_, fun ref => ?_⟩
  · rw [answer, arrive_of_other (s := taken) ref other]
    exact congrArg _ (State.LiveFor.settled (p := r.path) live)
  have liveKnown : known.LiveFor k r.path := live.updService rfl rfl
  have service : known.service k = { v with refN := some r.n } := State.service_updService_self ..
  have result : arrives = .next (reviewAtEnd (afterModeCheck known k c r.n r none) k) := by
    rw [answer, arrive_of_known (s := taken) ref]
  have lates (is : afterModeCheck known k c r.n r none = lateCopy known k r.path) : arrives = .next late := by
    rw [result, is, (liveKnown.late r.path).settled]
    rfl
  refine ⟨fun f front old => lates ?_, fun before e after window apart here held => lates ?_,
    fun h t l unset window last apart behindHead behindTail => lates ?_, fun recent => ⟨?_, ?_⟩⟩
  · refine afterModeCheck_of_late ?_
    rw [service, Service.late_of_front (v := { v with refN := some r.n }) front, old]
    rfl
  · exact afterModeCheck_of_held (by rw [service]; exact window) apart here held
  · rw [afterModeCheck_of_absent (by rw [service]; exact Service.late_of_none unset) (by rw [service]; exact apart)]
    refine if_neg ?_
    rw [service, Service.not_admits_of (v := { v with refN := some r.n }) unset window last behindHead behindTail]
    exact Bool.false_ne_true
  · intro before e after window apart here lacks stored
    have notLate : (known.service k).late r.n r.position = false := by rw [service]; exact Service.late_eq_false recent
    have stores := afterModeCheck_of_open (c := c) (cut := none) notLate (by rw [service]; exact window) apart here
      lacks
    have liveStored : stored.LiveFor k r.path := liveKnown.updService rfl rfl
    have drains : State.Drains k c stored (testHead stored k none .nothing) := by
      refine drains_testHead (s := stored) ⟨serves.1, serves.2.2.1, fun d member => ?_⟩ .nothing
      rw [show (stored.service k).window = _ from congrArg Service.window (State.service_updService_self ..)] at member
      have held := sound.2
      rw [window] at held
      rcases List.mem_append.mp member with old | behind
      · exact held d (List.mem_append_left _ old)
      · rcases List.mem_cons.mp behind with rfl | behind
        · exact ⟨r.path, by rw [Quad.get_set_self]; rfl⟩
        · exact held d (List.mem_append_right _ (List.mem_cons_of_mem _ behind))
    rw [result, stores]
    refine ⟨fun behind => ?_, fun head => ⟨_, drains, ?_⟩⟩
    · rw [if_neg behind]
      exact congrArg _ liveStored.settled
    · rw [if_pos head]
      exact congrArg _ (liveStored.drained drains).settled
  · intro inRange law apart place room
    have notLate : (known.service k).late r.n r.position = false := by rw [service]; exact Service.late_eq_false recent
    have admitted : (known.service k).admits r.n r.position = true := by rw [service]; exact Service.admits_of place
    have opens : known.OpensFor k c r.path r (openEntry known k c r.n r none) :=
      opensFor_openEntry ⟨serves.1, serves.2.2.1, by rw [service]; exact sound.2⟩ inRange.pos
        (by rw [service]; exact (Service.ordered_of_orderLaw (v := v) law ref :)) (by rw [service]; exact apart) notLate
          admitted
    refine ⟨_, opens, ?_⟩
    rw [result, afterModeCheck_of_absent notLate (by rw [service]; exact apart), if_pos admitted,
      openOrForce_of_room (by rw [service]; exact room), (liveKnown.opened opens).settled]

/-! ### The only tracking path, and a full window -/

section Sole
variable {s t : State} {k : SlotNo} {c : ServiceConfig} {p : Path} {r : Record}

theorem ports_resolved_of_bound {e : Entry} {rest : List Entry} {copy : Copy} {forced : Bool} {x : Port}
    {q : PortConfig}
    (port : c.port = some x) (config : s.portConfig x = some q) : (s.resolved k c e rest p copy forced).ports =
      s.ports.set x ((s.port x).condition q.depth q.conditioning copy.status copy.packet) := by
  simp only [State.resolved, port, config]

theorem ports_resolved_of_unbound {e : Entry} {rest : List Entry} {copy : Copy} {forced : Bool}
    (unbound : ∀ x, c.port = some x → s.portConfig x = none) :
      (s.resolved k c e rest p copy forced).ports = s.ports := by
  cases port : c.port with
  | none => simp only [State.resolved, port]
  | some x => simp only [State.resolved, port, unbound x port]

theorem selectCopy_mem {last : Option Path} {copies : Quad (Option Copy)} {q : Path} {copy : Copy}
    (selected : selectCopy c last copies = some (q, copy)) : copies.get q = some copy :=
  mem_presentCopies.mp (mem_tiedCopies.mp (selectCopy_mem_tiedCopies selected)).1

/-- The only copy of an entry is the one selected. -/
theorem selectCopy_sole (last : Option Path) (copy : Copy) :
    selectCopy c last ((Quad.fill none).set p (some copy)) = some (p, copy) := by
  obtain ⟨⟨q, d⟩, selected⟩ := Option.ne_none_iff_exists'.mp (selectCopy_ne_none (c := c) (last := last) (p := p)
    (copies := (Quad.fill none).set p (some copy)) (by rw [Quad.get_set_self]; exact Option.some_ne_none _))
  have held := selectCopy_mem selected
  rw [Quad.get_set] at held
  split at held
  next same => rw [selected, same, Option.some.inj held]
  next => rw [Quad.get_fill] at held; exact (Option.some_ne_none _ held.symm).elim

/-- The head of a copy of the only tracking path is complete, and nothing waits behind it. -/
theorem opensFor_sole (opens : s.OpensFor k c p r t) (empty : (s.service k).window = [])
    (tracking : (s.service k).tracking = (Quad.fill false).set p true) :
    t = (s.updService k fun v =>
      { v with
        window := [s.entryFor k c p r]
        counters := { v.counters with windowPeak := max v.counters.windowPeak 1 } }).resolved k c
          (s.entryFor k c p r) [] p
      ⟨r.status, r.packet⟩ false := by
  obtain ⟨before, after, split_, -, -, first, -⟩ := opens
  rw [empty] at split_
  obtain ⟨rfl, rfl⟩ := List.append_eq_nil_iff.mp split_.symm
  have drains := first rfl
  rw [show (s.updService k fun v => { v with
      window := [] ++ s.entryFor k c p r :: []
      counters := { v.counters with windowPeak := max v.counters.windowPeak (v.window.length + 1) } }) =
      s.updService k fun v => { v with
        window := [s.entryFor k c p r]
        counters := { v.counters with windowPeak := max v.counters.windowPeak 1 } } from
    State.updService_congr _ _ (by rw [empty]; rfl)] at drains
  refine drains.unique (.takes _ _ (s.entryFor k c p r) [] p ⟨r.status, r.packet⟩ ?_ (.inr fun q awaits => ?_) ?_
    (.ends _ fun e rest window => ?_))
  · rw [State.service_updService_self]
  · have awaits : ((s.service k).tracking).get q = true := awaits
    rw [tracking, Quad.get_set] at awaits
    split at awaits
    next same => rw [same, State.entryFor, Quad.get_set_self]; rfl
    next => rw [Quad.get_fill] at awaits; exact (Bool.false_ne_true awaits).elim
  · exact selectCopy_sole ..
  · rw [service_resolved_self] at window
    exact (List.cons_ne_nil _ _ window.symm).elim

end Sole

section Opening
variable {s : State} {k : SlotNo} {c : ServiceConfig} {r : Record}

/-- A copy of a new position, which passes every test while the window has room, opens its entry. -/
theorem arrive_of_room (law : s.Resolves k c) (live : s.LiveFor k r.path) (hn : 0 < r.n)
    (ref : (s.service k).refN = none ∨ (s.service k).refN = some r.n) (order : (s.service k).ordered r.n)
    (recent : (s.service k).late r.n r.position = false)
    (apart : ∀ d ∈ (s.service k).window, samePosition r.n d.position r.position = false)
    (admitted : (s.service k).admits r.n r.position = true) (room : (s.service k).window.length < 48) :
    ∃ t, (s.updService k fun v => { v with refN := some r.n }).OpensFor k c r.path r t ∧
      reviewAtEnd (arrive s k c r none) k = t := by
  generalize knowing : (s.updService k fun v => { v with refN := some r.n }) = known
  have service : known.service k = { s.service k with refN := some r.n } := by
    rw [← knowing]; exact State.service_updService_self ..
  have lawKnown : known.Resolves k c := by
    refine ⟨by rw [← knowing]; exact law.awake, by rw [← knowing]; exact law.configured, ?_⟩
    rw [service]
    exact law.held
  have liveKnown : known.LiveFor k r.path := live.of_service (by rw [service]) (by rw [service])
  have opens := opensFor_openEntry lawKnown hn (by rw [service]; exact order) (by rw [service]; exact apart)
    (by rw [service]; exact recent) (by rw [service]; exact admitted)
  refine ⟨_, opens, ?_⟩
  rw [arrive_of_known ref, knowing,
    afterModeCheck_of_absent (by rw [service]; exact recent) (by rw [service]; exact apart),
    if_pos (by rw [service]; exact admitted), openOrForce_of_room (by rw [service]; exact room),
    (liveKnown.opened opens).settled]

end Opening

/-- Settles O19: the copy opens an entry that is complete, and its resolution is told field by field. -/
theorem soleTrackerCopyResolvesAtOnce : Obligations.SoleTrackerCopyResolvesAtOnce := by
  intro p k c now r rest s serves sent same low high v empty tracking state ref recent bad missed
  subst same
  have tracks : (s.service k).tracking.get r.path
    = true := by rw [show (s.service k).tracking = _ from tracking]; exact Quad.get_set_self ..
  have answer := copyArrival_of_tracked (now := now) (cut := none) serves sent tracks
  generalize taking : (s.tickTo now |>.tookFrom r.path rest) = taken at answer
  have service : taken.service k = v := by rw [← taking]; rfl
  have emptyTaken : (taken.service k).window = [] := by rw [service]; exact empty
  have hn : 0 < r.n := Nat.lt_of_lt_of_le (by decide) low
  obtain ⟨t, opens, settled⟩ := arrive_of_room (s := taken) (c := c)
    ⟨by rw [← taking]; exact serves.1, by rw [← taking]; exact serves.2.2.1,
      by rw [emptyTaken]; exact List.forall_mem_nil _⟩
    ⟨by rw [service]; exact state, by rw [service]; exact tracks⟩ hn (by rw [service]; exact ref)
    ⟨by rw [emptyTaken]; exact List.Pairwise.nil, fun _ _ => by rw [emptyTaken]; exact List.forall_mem_nil _⟩
    (by rw [service]; exact Service.late_eq_false recent) (by rw [emptyTaken]; exact List.forall_mem_nil _)
    (Service.admits_of (.inr (.inl emptyTaken))) (by rw [emptyTaken]; decide)
  have sole := opensFor_sole opens (by rw [State.service_updService_self]; exact emptyTaken)
    (by rw [State.service_updService_self, service]; exact tracking)
  have copies (e : State) : ∀ q, q ≠ r.path → ((e.entryFor k c r.path r).copies.get q).isSome = false := fun q
    other => by
    rw [State.entryFor, Quad.get_set_of_ne _ _ other, Quad.get_fill]; rfl
  refine ⟨t, answer.trans (congrArg _ settled), ?_⟩
  subst sole taking
  refine ⟨?_, rfl, fun x q port config => ?_, fun unbound => ?_, ?_, fun q other => ?_, fun j other => ?_, rfl⟩
  · rw [service_resolved_self, State.service_updService_self, State.service_updService_self, service]
    unfold Service.resolvedTo
    have unselected (e : State) (u : Quad Nat) : (Quad.tabulate fun q =>
        if q ≠ r.path ∧ ((e.entryFor k c r.path r).copies.get q).isSome = true then min (u.get q + 1) 65535 else u.get
          q) = u := by
      refine Quad.ext_get fun q => ?_
      rw [Quad.get_tabulate]
      exact if_neg fun both => Bool.false_ne_true ((copies e q both.1).symm.trans both.2)
    have gap : (match v.front, some r.n with
        | some f, some n => distance n r.position f - 1
        | _, _ => 0) = missed := by
      show _ = match v.front with | some f => distance r.n r.position f - 1 | none => 0
      cases v.front with
      | none => rfl
      | some f => rfl
    simp only [unselected]
    rw [← gap, ← empty]
    rfl
  · exact ports_resolved_of_bound port config
  · exact ports_resolved_of_unbound unbound
  · exact State.path_updPath_self ..
  · exact State.path_updPath_of_ne _ _ other
  · exact (service_resolved_of_ne other).trans
      ((State.service_updService_of_ne _ _ other).trans (State.service_updService_of_ne _ _ other))

section Full
variable {s t : State} {k : SlotNo} {c : ServiceConfig} {r : Record} {e : Entry} {rest : List Entry}

theorem State.Drains.cascading (drained : State.Drains k c s t) : t.cascading = s.cascading := by
  obtain ⟨-, -, -, -, -, only⟩ := drained.frame
  rw [only]

theorem State.Drains.only (drained : State.Drains k c s t) :
    t = { s with services := t.services, ports := t.ports, fitness := t.fitness } := drained.frame.2.2.2.2.2

theorem State.Resolves.drained (law : s.Resolves k c) (drained : State.Drains k c s t) : t.Resolves k c where
  awake := by rw [drained.only]; exact law.awake
  configured := by rw [drained.only]; exact law.configured
  held d member := by
    obtain ⟨n, drop⟩ := drained.window
    rw [drop] at member
    exact law.held d (List.mem_of_mem_drop member)

/-- R45: with the window full the head is resolved first, with the cascade that follows. -/
theorem openOrForce_of_full (law : s.Resolves k c) (full : (s.service k).window.length = 48)
    (free : s.cascading = none) :
    openOrForce s k c r.n r none =
      openAfterForce (testHead (resolveHead s k true) k none (.opens r)) k c r.n r none := by
  unfold openOrForce
  rw [if_neg (by rw [full]; decide)]
  refine if_neg ?_
  obtain still | ⟨cuts, -⟩ := cascading_testHead (k := k) (s := resolveHead s k true)
    ((cascading_resolveHead s k true).trans free) none (.opens r)
  · rw [still]; decide
  · exact absurd rfl cuts

end Full

/-- Settles O20: the forced resolution, and the late test of the copy against the front that it leaves. -/
theorem fullWindowForcesOneResolution : Obligations.FullWindowForcesOneResolution := by
  intro p k c now r rest e behind best copy s serves sent same inRange v tracks sound order window full ref apart recent
    admitted selected taken
  subst same
  have answer : exec (.copyArrival r.path ⟨now, none⟩) s = .next (reviewAtEnd (arrive taken k c r none) k) :=
    copyArrival_of_tracked serves sent tracks
  have law : taken.Resolves k c := ⟨serves.1, serves.2.2.1, sound.2⟩
  have live : taken.LiveFor k r.path := ⟨Service.live_of_tracks sound.1 tracks, tracks⟩
  have forces : resolveHead taken k true = taken.resolved k c e behind best copy true :=
    resolveHead_eq law.awake law.configured window selected true
  generalize forcing : taken.resolved k c e behind best copy true = forced at forces
  have lawForced : forced.Resolves k c := by rw [← forcing]; exact law.resolved window
  have service : forced.service k = v.resolvedTo e behind best copy
    true := by rw [← forcing]; exact service_resolved_self
  have drains := drains_testHead lawForced (.opens r)
  have lawful : (forced.service k).lawful := by
    rw [← forces]
    exact ((draining_resolveHead taken k true).lawful ⟨show (s.service k).window.length ≤ 48 from full.le, sound.2,
      order⟩).1
  have drained : forced.Draining k (testHead forced k none (.opens r)) := draining_testHead ..
  have arrives : arrive taken k c r none = openAfterForce (testHead forced k none (.opens r)) k c r.n r none := by
    rw [arrive_of_same (s := taken) ref, afterModeCheck_of_absent (s := taken) recent apart,
      if_pos (show (taken.service k).admits r.n r.position = true from admitted),
      openOrForce_of_full law full serves.2.1, forces]
  rw [answer, arrives]
  generalize testHead forced k none (.opens r) = u at drains drained
  have liveDrained : u.LiveFor k r.path := State.LiveFor.drained (live.of_service (by rw [service]; rfl)
    (by rw [service]; rfl)) drains
  have set_ : (u.service k).front ≠ none := drains.front (by rw [service]; exact Option.some_ne_none _)
  obtain ⟨front, fronted⟩ := Option.ne_none_iff_exists'.mp set_
  refine ⟨u, drains, front, fronted, fun old => ?_, fun newer_ => ?_⟩
  · have late : (u.service k).late r.n r.position = true := by rw [Service.late_of_front fronted, old]; rfl
    unfold openAfterForce
    rw [if_pos late, (liveDrained.late r.path).settled]
    rfl
  · have notLate : (u.service k).late r.n r.position = false := by rw [Service.late_of_front fronted, newer_]; rfl
    have lawU := lawForced.drained drains
    have refU : (u.service k).refN = some r.n := by rw [drains.frame.2.2.1, service]; exact ref
    have orderU := Service.ordered_of_orderLaw (drained.lawful lawful).1.2.2 (.inr refU)
    have apartU : ∀ d ∈ (u.service k).window, samePosition r.n d.position r.position = false := fun d member => by
      obtain ⟨n, drop⟩ := drains.window
      rw [drop, service] at member
      exact apart d
        (by rw [show _ = e :: behind from window]; exact List.mem_cons_of_mem _ (List.mem_of_mem_drop member))
    have opens := opensFor_openEntry lawU inRange.pos orderU apartU notLate (Service.admits_of (.inl set_))
    refine ⟨_, opens, ?_⟩
    unfold openAfterForce
    rw [if_neg (by rw [notLate]; exact Bool.false_ne_true), (liveDrained.opened opens).settled]

end Sys2Proof.Machine
end

section
/-!
Cascades left off and finished (log 40): a cut cascade and its rest are the cascade whole.
-/
namespace Sys2Proof.Machine

section Cut
variable {s t u : State} {k : SlotNo} {c : ServiceConfig} {r : Record} {n m : Nat}

/-! ### The fuel of a cascade -/

theorem cascade_of_waiting (waits : s.headReady k = false) (n : Nat) : cascade n s k = s := by
  unfold State.headReady at waits
  cases n with
  | zero => rfl
  | succ n =>
    unfold cascade
    split at waits
    next e rest window => rw [if_neg (by rw [waits]; exact Bool.false_ne_true)]
    next => rfl

theorem cascade_succ_of_ready (ready : s.headReady k = true) (n : Nat) :
    cascade (n + 1) s k = cascade n (resolveHead s k false) k := by
  unfold State.headReady at ready
  rw [cascade]
  split at ready
  next e rest window => exact if_pos ready
  next => exact absurd ready Bool.false_ne_true

theorem window_of_ready (ready : s.headReady k = true) : ∃ e rest, (s.service k).window = e :: rest := by
  unfold State.headReady at ready
  split at ready
  next e rest window => exact ⟨e, rest, window⟩
  next => exact absurd ready Bool.false_ne_true

theorem cascade_add (n m : Nat) (s : State) : cascade (n + m) s k = cascade m (cascade n s k) k := by
  induction n generalizing s with
  | zero => rw [Nat.zero_add]; rfl
  | succ n ih =>
    cases ready : s.headReady k with
    | false => rw [cascade_of_waiting ready, cascade_of_waiting ready, cascade_of_waiting ready]
    | true => rw [Nat.succ_add, cascade_succ_of_ready ready, cascade_succ_of_ready ready, ih]

/-- Fuel for every entry of the window is enough. -/
theorem cascade_of_length_le (configured : s.slotConfig k = some c) (enough : (s.service k).window.length ≤ n) :
    cascade n s k = cascade (s.service k).window.length s k := by
  induction n generalizing s with
  | zero => rw [Nat.le_zero.mp enough]
  | succ n ih =>
    cases ready : s.headReady k with
    | false => rw [cascade_of_waiting ready, cascade_of_waiting ready]
    | true =>
      obtain ⟨e, rest, window⟩ := window_of_ready ready
      have shorter : ((resolveHead s k false).service k).window = rest := (window_resolveHead configured window false).1
      rw [window] at enough ⊢
      rw [cascade_succ_of_ready ready, List.length_cons, cascade_succ_of_ready ready, ← shorter]
      refine ih ?_ (by rw [shorter]; exact Nat.le_of_succ_le_succ enough)
      obtain ⟨f, p, v, same⟩ := resolveHead_only s k false
      rw [same]
      exact configured

theorem slotConfig_cascade (n : Nat) (s : State) (k j : SlotNo) : (cascade n s k).slotConfig j = s.slotConfig j := by
  obtain ⟨f, p, v, same⟩ := cascade_only n s k
  rw [same]
  rfl

/-- However far a cascade has come, what is left of it is the cascade of what is left. -/
theorem cascade_resume (configured : s.slotConfig k = some c) (n : Nat) :
    cascade ((cascade n s k).service k).window.length (cascade n s k) k = cascade (s.service k).window.length s k := by
  have shorter : ((cascade n s k).service k).window.length ≤ (s.service k).window.length := by
    obtain ⟨m, drop⟩ := (draining_cascade n s k).window
    rw [drop, List.length_drop]
    exact Nat.sub_le ..
  rw [← cascade_of_length_le ((slotConfig_cascade ..).trans configured) shorter, ← cascade_add,
    cascade_of_length_le configured (Nat.le_add_left ..)]

/-- A cut leaves the cascade off, or comes too late for it. -/
theorem testHead_cut (free : s.cascading = none) (configured : s.slotConfig k = some c) (cut : Option Nat)
    (rest : AfterCascade) :
    ((testHead s k cut rest).cascading = none ∧ testHead s k cut rest = testHead s k none rest) ∨
      ((testHead s k cut rest).cascading = some ⟨k, rest⟩ ∧
        testHead { testHead s k cut rest with cascading := none } k none .nothing = testHead s k none rest) := by
  rw [testHead_none s k rest]
  cases cut with
  | none => exact .inl ⟨(cascading_testHead_none ..).trans free, testHead_none ..⟩
  | some n =>
    have still : (cascade n s k).cascading = none := (cascading_cascade ..).trans free
    have whole := cascade_resume configured n
    unfold testHead
    dsimp only [Option.getD_some]
    generalize cascade n s k = t at still whole
    cases ready : t.headReady k with
    | false =>
      rw [if_neg fun both => Bool.false_ne_true both.2, ← whole, cascade_of_waiting ready]
      exact .inl ⟨still, rfl⟩
    | true =>
      rw [if_pos ⟨rfl, rfl⟩, ← whole]
      have here : { t with cascading := none } = t := by rw [← still]
      refine .inr ⟨rfl, ?_⟩
      show cascade _ { t with cascading := none } k = _
      rw [here]
      rfl

/-! ### Cut and finished is the whole (R154) -/

/-- Cut, re-evaluated and finished, a step of the merge unit is the step that no cut interrupts. -/
def State.FinishesTo (k : SlotNo) (s t : State) : Prop := finishCascade (reviewAtEnd s k) = reviewAtEnd t k

theorem State.FinishesTo.of_free (free : s.cascading = none) : s.FinishesTo k s :=
  finishCascade_of_none ((cascading_reviewAtEnd ..).trans free)

theorem reviewAtEnd_of_cascading {a : Cascade} (left : s.cascading = some a) : reviewAtEnd s k = s :=
  if_pos (by rw [left]; rfl)

theorem finishesTo_testHead (free : s.cascading = none) (configured : s.slotConfig k = some c) (cut : Option Nat) :
    (testHead s k cut .nothing).FinishesTo k (testHead s k none .nothing) := by
  obtain ⟨still, same⟩ | ⟨left, resumes⟩ := testHead_cut free configured cut .nothing
  · rw [← same]
    exact .of_free still
  · unfold State.FinishesTo
    rw [reviewAtEnd_of_cascading left, reviewAtEnd_of_free ((cascading_testHead_none ..).trans free), ← resumes,
      finishCascade]
    rw [left]

theorem finishesTo_openEntry (free : s.cascading = none) (configured : s.slotConfig k = some c) (r : Record)
    (cut : Option Nat) :
    (openEntry s k c r.n r cut).FinishesTo k (openEntry s k c r.n r none) := by
  unfold openEntry
  dsimp only
  split
  · exact finishesTo_testHead (by exact free) (by exact configured) cut
  · exact .of_free free

theorem finishesTo_openAfterForce (free : s.cascading = none) (configured : s.slotConfig k = some c) (r : Record)
    (cut : Option Nat) : (openAfterForce s k c r.n r cut).FinishesTo k (openAfterForce s k c r.n r none) := by
  unfold openAfterForce
  split
  · exact .of_free free
  · exact finishesTo_openEntry free configured r cut

theorem slotConfig_testHead (s : State) (k j : SlotNo) (cut : Option Nat) (rest : AfterCascade) :
    (testHead s k cut rest).slotConfig j = s.slotConfig j := by
  obtain ⟨f, p, v, a, same⟩ := testHead_only s k cut rest
  rw [same]
  rfl

theorem slotConfig_resolveHead (s : State) (k j : SlotNo) (forced : Bool) :
    (resolveHead s k forced).slotConfig j = s.slotConfig j := by
  obtain ⟨f, p, v, same⟩ := resolveHead_only s k forced
  rw [same]
  rfl

theorem finishesTo_openOrForce (free : s.cascading = none) (configured : s.slotConfig k = some c) (r : Record)
    (cut : Option Nat) : (openOrForce s k c r.n r cut).FinishesTo k (openOrForce s k c r.n r none) := by
  unfold openOrForce
  split
  · exact finishesTo_openEntry free configured r cut
  · dsimp only
    have freeForced : (resolveHead s k true).cascading = none := (cascading_resolveHead ..).trans free
    have configuredForced : (resolveHead s k true).slotConfig k = some c := (slotConfig_resolveHead ..).trans configured
    generalize resolveHead s k true = forced at freeForced configuredForced
    have freeWhole : (testHead forced k none (.opens r)).cascading = none := (cascading_testHead_none ..).trans
      freeForced
    have configuredWhole : (testHead forced k none (.opens r)).slotConfig k = some c :=
      (slotConfig_testHead ..).trans configuredForced
    simp only [freeWhole, Option.isSome_none, Bool.false_eq_true, if_false, Option.map_none]
    obtain ⟨still, same⟩ | ⟨left, resumes⟩ := testHead_cut freeForced configuredForced cut (.opens r)
    · simp only [still, Option.isSome_none, Bool.false_eq_true, if_false]
      rw [same]
      exact finishesTo_openAfterForce freeWhole configuredWhole r _
    · simp only [left, Option.isSome_some, if_true]
      unfold State.FinishesTo
      have configuredCut : (testHead forced k cut (.opens r)).slotConfig k = some c :=
        (slotConfig_testHead ..).trans configuredForced
      rw [reviewAtEnd_of_cascading left,
        reviewAtEnd_of_free (by exact (cascading_openAfterForce_none ..).trans freeWhole), ← resumes, finishCascade,
          left]
      dsimp only
      rw [configuredCut]

theorem finishesTo_afterModeCheck (free : s.cascading = none) (configured : s.slotConfig k = some c) (r : Record)
    (cut : Option Nat) : (afterModeCheck s k c r.n r cut).FinishesTo k (afterModeCheck s k c r.n r none) := by
  unfold afterModeCheck
  dsimp only
  split
  · exact .of_free free
  · split
    · split
      · exact .of_free free
      · split
        · exact finishesTo_testHead (by exact free) (by exact configured) cut
        · exact .of_free free
    · split
      · exact finishesTo_openOrForce free configured r cut
      · exact .of_free free

theorem finishesTo_arrive (free : s.cascading = none) (configured : s.slotConfig k = some c) (r : Record)
    (cut : Option Nat) : (arrive s k c r cut).FinishesTo k (arrive s k c r none) := by
  unfold arrive
  split
  · exact finishesTo_afterModeCheck (by exact free) (by exact configured) r cut
  · split
    next m _ same =>
      rw [← same]
      exact finishesTo_afterModeCheck free configured r cut
    next => exact .of_free free

/-! ### The four commands that a cut may interrupt -/

/-- Whatever state an answer is, the whole command gives the state that finishing it leaves. -/
def FinishesAnswer (whole cut : Answered) : Prop := ∃ t, cut = .next t ∧ whole = .next (finishCascade t)

theorem FinishesAnswer.of_free (free : s.cascading = none) : FinishesAnswer (.next s) (.next s) :=
  ⟨s, rfl, by rw [finishCascade_of_none free]⟩

theorem FinishesAnswer.of_review (finishes : s.FinishesTo k t) :
    FinishesAnswer (.next (reviewAtEnd t k)) (.next (reviewAtEnd s k)) := ⟨_, rfl, by rw [finishes]⟩

theorem FinishesAnswer.whole {whole cut : Answered} (finishes : FinishesAnswer whole cut) (executed : cut = .next t) :
    whole = .next (finishCascade t) := by
  obtain ⟨u, same, result⟩ := finishes
  rw [result, Host.Outcome.next.inj (same.symm.trans executed)]

theorem finishes_copyArrival (p : Path) (now : Nat) (cut : Option Nat) (s : State) :
    FinishesAnswer (execCopyArrival p ⟨now, none⟩ s) (execCopyArrival p ⟨now, cut⟩ s) := by
  unfold execCopyArrival
  have free : (s.mergeAt ⟨now, cut⟩).cascading = none := cascading_mergeAt ..
  rw [show s.mergeAt ⟨now, none⟩ = s.mergeAt ⟨now, cut⟩ from rfl]
  dsimp only
  generalize s.mergeAt ⟨now, cut⟩ = m at free
  split
  next r t taken =>
    have freeTaken : t.cascading = none := (cascading_takeMessage taken).trans free
    split
    next k c taker =>
      split
      · exact .of_review (finishesTo_arrive freeTaken (State.taker_spec taker).2.1 r cut)
      · exact .of_free freeTaken
    next => exact .of_free freeTaken
  next => exact .of_free free

theorem finishes_entryExpiry (k : SlotNo) (now : Nat) (cut : Option Nat) (s : State) :
    FinishesAnswer (execEntryExpiry k ⟨now, none⟩ s) (execEntryExpiry k ⟨now, cut⟩ s) := by
  unfold execEntryExpiry
  have free : (s.mergeAt ⟨now, cut⟩).cascading = none := cascading_mergeAt ..
  rw [show s.mergeAt ⟨now, none⟩ = s.mergeAt ⟨now, cut⟩ from rfl]
  dsimp only
  generalize s.mergeAt ⟨now, cut⟩ = t at free
  split
  next c e rest configured window =>
    split
    · exact .of_review (finishesTo_testHead free configured cut)
    · exact .of_free free
  next => exact .of_free free

theorem finishes_leavingNotice (p : Path) (now : Nat) (cut : Option Nat) (s : State) :
    FinishesAnswer (execLeavingNotice p ⟨now, none⟩ s) (execLeavingNotice p ⟨now, cut⟩ s) := by
  unfold execLeavingNotice
  have free : (s.mergeAt ⟨now, cut⟩).cascading = none := cascading_mergeAt ..
  rw [show s.mergeAt ⟨now, none⟩ = s.mergeAt ⟨now, cut⟩ from rfl]
  dsimp only
  generalize s.mergeAt ⟨now, cut⟩ = m at free
  split
  next t taken =>
    have freeTaken : t.cascading = none := (cascading_takeMessage taken).trans free
    split
    next k c taker =>
      split
      · exact .of_review (finishesTo_testHead (c := c) (by exact freeTaken) (by exact (State.taker_spec taker).2.1) cut)
      · exact .of_free freeTaken
    next => exact .of_free freeTaken
  next => exact .of_free free

theorem finishes_parkRequest (now : Nat) (cut : Option Nat) (s : State) :
    FinishesAnswer (execParkRequest ⟨now, none⟩ s) (execParkRequest ⟨now, cut⟩ s) := by
  unfold execParkRequest
  have free : (s.mergeAt ⟨now, cut⟩).cascading = none := cascading_mergeAt ..
  rw [show s.mergeAt ⟨now, none⟩ = s.mergeAt ⟨now, cut⟩ from rfl]
  dsimp only
  generalize s.mergeAt ⟨now, cut⟩ = t at free
  split
  next p rest requests =>
    split
    · exact .of_free free
    · split
      next k serves =>
        split
        next many =>
          obtain ⟨c, configured⟩ := Option.isSome_iff_exists.mp (State.configured_of_serviceOf serves).1
          generalize leaving : State.updService { t with requests := rest } k (fun v =>
            { v.without p with contributors := v.contributors.set p false }) = left
          have freeLeft : left.cascading = none := by rw [← leaving]; exact free
          have configuredLeft : left.slotConfig k = some c := by rw [← leaving]; exact configured
          have freeWhole : (testHead left k none (.stops p)).cascading = none := (cascading_testHead_none ..).trans
            freeLeft
          simp only [cascading_reviewAtEnd]
          rw [if_neg (by rw [freeWhole]; exact Bool.false_ne_true)]
          obtain ⟨still, same⟩ | ⟨cuts, resumes⟩ := testHead_cut freeLeft configuredLeft cut (.stops p)
          · rw [if_neg (by rw [still]; exact Bool.false_ne_true), same]
            exact .of_free ((cascading_reviewAtEnd ..).trans freeWhole)
          · rw [if_pos (by rw [cuts]; rfl), reviewAtEnd_of_cascading cuts, reviewAtEnd_of_free freeWhole, ← resumes]
            refine ⟨_, rfl, ?_⟩
            rw [finishCascade, cuts]
        next => exact .of_free free
      next => exact .of_free free
  next => exact .of_free free

end Cut

end Sys2Proof.Machine
end

section
/-!
Expiry and leaving (R46 to R50), park and unpark (R56, R57): O21 and O22.
-/
namespace Sys2Proof.Machine

section Leaving
variable {s t u : State} {k : SlotNo} {c : ServiceConfig} {p : Path} {n : Nat}

/-- A cascade that would take more heads than the cut allows stops at the cut, before a head that is ready. -/
theorem cascade_of_drains (law : s.Resolves k c) (drained : State.Drains k c s u)
    (more : (u.service k).window.length + n < (s.service k).window.length) :
    ((cascade n s k).service k).window = (s.service k).window.drop n ∧ (cascade n s k).headReady k = true := by
  induction n generalizing s with
  | zero =>
    cases drained with
    | ends => exact absurd more (lt_irrefl _)
    | takes _ _ e rest p copy window goes =>
      refine ⟨rfl, ?_⟩
      show s.headReady k = true
      unfold State.headReady
      rw [window]
      exact Entry.ready_iff.mpr goes
  | succ n ih =>
    cases drained with
    | ends => exact absurd more (by omega)
    | takes _ _ e rest p copy window goes selected later =>
      have ready : s.headReady k = true := by
        unfold State.headReady
        rw [window]
        exact Entry.ready_iff.mpr goes
      rw [cascade_succ_of_ready ready, resolveHead_eq law.awake law.configured window selected]
      have shorter : ((s.resolved k c e rest p copy false).service k).window
        = rest := by rw [service_resolved_self]; rfl
      obtain ⟨drop, still⟩ := ih (law.resolved window) later (by
        rw [shorter]
        rw [window, List.length_cons] at more
        omega)
      exact ⟨by rw [drop, shorter, window]; rfl, still⟩

/-- A re-evaluation after a drained cascade: a DARK service had nothing in it. -/
theorem reviewAtEnd_of_drains (configured : s.slotConfig k = some c) (free : s.cascading = none)
    (drained : State.Drains k c s t)
    (dark : (s.service k).state = .dark → (∀ p, (s.service k).tracking.get p = false) ∧ (s.service k).window = []) :
    reviewAtEnd t k = t.turnedDark k c := by
  obtain ⟨state, tracking, -, -, -, only⟩ := drained.frame
  rw [reviewAtEnd_of_free (drained.cascading.trans free)]
  refine review_eq_turnedDark (by rw [only]; exact configured) fun is => ?_
  obtain ⟨n, drop⟩ := drained.window
  obtain ⟨untracked, empty⟩ := dark (state.symm.trans is)
  exact ⟨by rw [tracking]; exact untracked, by rw [drop, empty, List.drop_nil]⟩

/-- A path that leaves a service takes nothing from its window (R46, R49). -/
theorem Service.sound_left {v w : Service} (sound : v.sound) (state : w.state = v.state)
    (tracking : w.tracking = v.tracking.set p false)
    (window : w.window = v.window.map fun e => { e with awaited := e.awaited.set p false }) :
    (w.state = .dark → (∀ q, w.tracking.get q = false) ∧ w.window = []) ∧
      ∀ e ∈ w.window, ∃ q, (e.copies.get q).isSome = true := by
  obtain ⟨follows, held⟩ := sound
  refine ⟨fun dark => ?_, fun e member => ?_⟩
  · obtain ⟨untracked, empty⟩ := follows.mp (state.symm.trans dark)
    refine ⟨fun q => ?_, by rw [window, empty]; rfl⟩
    rw [tracking, Quad.get_set]
    split
    · rfl
    · exact untracked q
  · rw [window] at member
    obtain ⟨d, old, rfl⟩ := List.mem_map.mp member
    exact held d old

theorem execEntryExpiry_of_free {m : Moment} (free : s.cascading = none) (configured : s.slotConfig k = some c) :
    execEntryExpiry k m s =
      match (s.service k).window with
      | e :: _ =>
        if e.expiryTime ≤ max s.now m.now ∧ s.thermal.shutdown = false then
          .next (reviewAtEnd (testHead (s.tickTo m.now) k m.cut .nothing) k)
        else .next (s.tickTo m.now)
      | [] => .next (s.tickTo m.now) := by
  unfold execEntryExpiry
  rw [mergeAt_of_free free]
  dsimp only
  rw [show (s.tickTo m.now).slotConfig k = some c from configured,
    show ((s.tickTo m.now).service k).window = (s.service k).window from rfl]
  cases (s.service k).window with
  | nil => rfl
  | cons e rest => rfl

end Leaving

/-- Settles O21: a cascade drains the window of ready heads; a cut leaves off what finishing it resumes. -/
theorem expiryAndLeavingResolveReadyHeads : Obligations.ExpiryAndLeavingResolveReadyHeads := by
  refine ⟨fun k c now s configured free => ?_, fun p k m s => ?_, fun p k now n s t => ⟨?_, ?_, ?_, ?_⟩⟩
  · intro v moment
    have answer (cut : Option Nat) : exec (.entryExpiry k ⟨now, cut⟩) s = _ := execEntryExpiry_of_free free configured
    refine ⟨fun e rest window due awake sound => ?_, fun e rest n window due awake sound t u drained executed more =>
      ?_,
      fun idle cut => ?_, fun p rest serves sent => ⟨fun untracked cut => ?_, fun tracks sound => ?_⟩⟩
    · have law : State.Resolves { s with now := moment } k c := ⟨awake, configured, sound.2⟩
      have drains := drains_testHead law .nothing
      refine ⟨_, drains, ?_⟩
      rw [answer, show (s.service k).window = _ from window]
      dsimp only
      rw [if_pos ⟨due, awake⟩]
      exact congrArg _ (reviewAtEnd_of_drains (s := { s with now := moment }) configured free drains sound.1.mp)
    · have law : State.Resolves { s with now := moment } k c := ⟨awake, configured, sound.2⟩
      obtain ⟨drop, ready⟩ := cascade_of_drains law drained more
      rw [answer, show (s.service k).window = _ from window] at executed
      dsimp only at executed
      rw [if_pos ⟨due, awake⟩] at executed
      have cuts : testHead (s.tickTo now) k (some n) .nothing =
          { cascade n (s.tickTo now) k with cascading := some ⟨k, .nothing⟩ } := by
        unfold testHead
        exact if_pos ⟨rfl, ready⟩
      rw [cuts, reviewAtEnd_of_cascading rfl] at executed
      obtain rfl := Host.Outcome.next.inj executed
      exact ⟨rfl, drop⟩
    · rw [answer]
      obtain empty | ⟨e, rest, window, waits⟩ | shut := idle
      · rw [show (s.service k).window = _ from empty]; rfl
      · rw [show (s.service k).window = _ from window]
        exact if_neg fun both => absurd both.1 (not_le.mpr waits)
      · split
        · exact if_neg fun both => Bool.false_ne_true (both.2.symm.trans shut)
        · rfl
    · have answer : exec (.leavingNotice p ⟨now, cut⟩) s = _ := execLeavingNotice_of_outbox free sent
      rw [answer, State.taker_of_servedIn (s := s.tickTo now |>.tookFrom p rest) (k := k) (c := c) serves]
      exact if_neg fun is => Bool.false_ne_true (untracked.symm.trans is)
    · intro left
      have answer : exec (.leavingNotice p ⟨now, none⟩) s = _ := execLeavingNotice_of_outbox free sent
      rw [answer, State.taker_of_servedIn (s := s.tickTo now |>.tookFrom p rest) (k := k) (c := c) serves]
      have service : left.service k = { v with
          tracking := v.tracking.set p false, window := v.window.map fun e =>
            { e with awaited := e.awaited.set p false } } :=
        State.service_updService_self ..
      obtain ⟨dark, held⟩ := Service.sound_left (w := left.service k) (p := p) sound (by rw [service]) (by rw [service])
        (by rw [service])
      have drains := drains_testHead (s := left) ⟨serves.1, configured, held⟩ .nothing
      refine ⟨_, drains, (if_pos tracks).trans ?_⟩
      exact congrArg _ (reviewAtEnd_of_drains (s := left) configured free drains dark)
  · have again : finishCascade (finishCascade s) = finishCascade s := finishCascade_of_none (cascading_finishCascade s)
    have moment : State.mergeAt (finishCascade s) = State.mergeAt s := by
      funext m
      unfold State.mergeAt
      rw [again]
    refine ⟨?_, ?_, ?_, ?_, ?_, ?_, cascading_finishCascade s⟩
    · show execCopyArrival p m s = execCopyArrival p m (finishCascade s)
      unfold execCopyArrival
      rw [moment]
    · show execEntryExpiry k m s = execEntryExpiry k m (finishCascade s)
      unfold execEntryExpiry
      rw [moment]
    · show execTrackingNotice p s = execTrackingNotice p (finishCascade s)
      unfold execTrackingNotice
      rw [again]
    · show execLeavingNotice p m s = execLeavingNotice p m (finishCascade s)
      unfold execLeavingNotice
      rw [moment]
    · show execParkRequest m s = execParkRequest m (finishCascade s)
      unfold execParkRequest
      rw [moment]
    · show execUnparkRequest s = execUnparkRequest (finishCascade s)
      unfold execUnparkRequest
      rw [again]
  all_goals intro executed
  · exact (finishes_copyArrival p now (some n) s).whole executed
  · exact (finishes_entryExpiry k now (some n) s).whole executed
  · exact (finishes_leavingNotice p now (some n) s).whole executed
  · exact (finishes_parkRequest now (some n) s).whole executed

/-! ### Park and unpark (R56, R57) -/

section Parking
variable {s : State} {k : SlotNo} {c : ServiceConfig} {p : Path} {now : Nat} {cut : Option Nat} {rest : List Request}

theorem Quad.two_le_count_of_ne {q : Quad Bool} {i j : Fin 4} (first : q.get i = true) (second : q.get j = true)
    (apart : i ≠ j) : 2 ≤ q.count := by
  obtain ⟨q0, q1, q2, q3⟩ := q
  revert q0 q1 q2 q3 i j
  decide

/-- The station once the merge unit has taken a request. -/
def State.tookRequest (s : State) (rest : List Request) : State := { s with requests := rest }

def State.answered (s : State) (a : Answer) : State := { s with answers := s.answers ++ [a] }

theorem execParkRequest_of_front (free : s.cascading = none) (asked : s.requests = .park p :: rest)
    (awake : s.thermal.shutdown = false) : execParkRequest ⟨now, cut⟩ s =
      match (s.tickTo now |>.tookRequest rest).serviceOf p with
      | some k =>
        if 2 ≤ (s.service k).contributors.count then
          let left := (s.tickTo now |>.tookRequest rest).updService k fun v =>
            { v.without p with contributors := v.contributors.set p false }
          let settled := reviewAtEnd (testHead left k cut (.stops p)) k
          if settled.cascading.isSome then .next settled else .next (stopParked settled p)
        else .next ((s.tickTo now |>.tookRequest rest).answered (.parkRefused p))
      | none => .next ((s.tickTo now |>.tookRequest rest).answered (.parkRefused p)) := by
  unfold execParkRequest
  rw [mergeAt_of_free free]
  dsimp only
  rw [show (s.tickTo now).requests = .park p :: rest from asked]
  exact if_neg (by rw [show (s.tickTo now).thermal.shutdown = false from awake]; exact Bool.false_ne_true)

theorem execUnparkRequest_of_front (free : s.cascading = none) (asked : s.requests = .unpark p :: rest)
    (awake : s.thermal.shutdown = false) : execUnparkRequest s =
      match (s.tookRequest rest).configuredServiceOf p with
      | some k =>
        if (s.service k).contributors.get p then .next ((s.tookRequest rest).answered (.unparkRefused p))
        else
          let joined := (s.tookRequest rest).updService k fun v => { v with contributors := v.contributors.set p true }
          .next { (joined.disregardSent p).sendPath p .unpark with answers := joined.answers ++ [.unparked p] }
      | none => .next ((s.tookRequest rest).answered (.unparkRefused p)) := by
  unfold execUnparkRequest
  rw [finishCascade_of_none free]
  dsimp only
  rw [asked]
  exact if_neg (by rw [awake]; exact Bool.false_ne_true)

theorem State.configuredServiceOf_of_unique (configured : s.slotConfig k = some c)
    (contributes : c.contributors.get p = true)
    (alone : ∀ j d, j ≠ k → s.slotConfig j = some d → d.contributors.get p = false) :
      s.configuredServiceOf p = some k := by
  cases found : s.configuredServiceOf p with
  | none =>
    have missed := List.find?_eq_none.mp found k (mem_four k)
    rw [configured] at missed
    exact absurd contributes missed
  | some j =>
    obtain ⟨d, at_, gets⟩ := State.configured_of_configuredServiceOf found
    by_contra other
    exact Bool.false_ne_true ((alone j d (fun same => other (congrArg some same)) at_).symm.trans gets)

theorem State.configuredServiceOf_eq_none (nowhere : ∀ j c, s.slotConfig j = some c → c.contributors.get p = false) :
    s.configuredServiceOf p = none := by
  cases found : s.configuredServiceOf p with
  | none => rfl
  | some j =>
    obtain ⟨d, at_, gets⟩ := State.configured_of_configuredServiceOf found
    exact (Bool.false_ne_true ((nowhere j d at_).symm.trans gets)).elim

end Parking

theorem answers_turnedDark (s : State) (k : SlotNo) (c : ServiceConfig) : (s.turnedDark k c).answers = s.answers := by
  unfold State.turnedDark
  dsimp only
  split <;> rfl

/-- Settles O22: the taker of each request, and the cascade and re-evaluation behind a park. -/
theorem parkAndUnparkRequestsAreAnswered : Obligations.ParkAndUnparkRequestsAreAnswered := by
  refine ⟨fun p now cut rest s asked free => ?_, fun p rest s asked free => ?_,
    fun p now cut m rest s sent free nowhere => ?_⟩
  · intro moment refused
    have answer (cut : Option Nat) (awake : s.thermal.shutdown = false) : exec (.parkRequest ⟨now, cut⟩) s = _ :=
      execParkRequest_of_front free asked awake
    refine ⟨fun shut => ?_, fun awake nowhere => ?_, fun k c serves =>
      ⟨fun sole => ?_, fun ⟨q, other, contributes⟩ sound => ?_⟩⟩
    · show execParkRequest ⟨now, cut⟩ s = _
      unfold execParkRequest
      rw [mergeAt_of_free free]
      dsimp only
      rw [show (s.tickTo now).requests = .park p :: rest from asked]
      exact if_pos shut
    · rw [answer cut awake, State.serviceOf_of_servedNowhere (s := s.tickTo now |>.tookRequest rest) nowhere]
      rfl
    · rw [answer cut serves.1, State.serviceOf_of_servedIn (s := s.tickTo now |>.tookRequest rest) (c := c) serves]
      refine if_neg fun many => ?_
      obtain ⟨q, other, contributes⟩ := Quad.exists_other_of_two_le_count many p
      exact Bool.false_ne_true ((sole q other).symm.trans contributes)
    · intro taken left
      have service : left.service k = { s.service k with
          contributors := (s.service k).contributors.set p false
          tracking := (s.service k).tracking.set p false
          window := (s.service k).window.map fun e => { e with awaited := e.awaited.set p false } } :=
        State.service_updService_self ..
      obtain ⟨dark, held⟩ := Service.sound_left (w := left.service k) (p := p) sound (by rw [service]) (by rw [service])
        (by rw [service])
      have drains := drains_testHead (s := left) ⟨serves.1, serves.2.2.1, held⟩ (.stops p)
      have settles := reviewAtEnd_of_drains (s := left) serves.2.2.1 free drains dark
      refine ⟨_, drains, ?_⟩
      intro stopped
      have stays : stopParked ((testHead left k none (.stops p)).turnedDark k c) p =
          { stopped with answers := s.answers ++ [.parked p] } := by
        have answers : ((testHead left k none (.stops p)).turnedDark k c).answers = s.answers := by
          rw [answers_turnedDark, drains.only]
          rfl
        unfold stopParked
        rw [answers]
        rfl
      rw [answer none serves.1, State.serviceOf_of_servedIn (s := s.tickTo now |>.tookRequest rest) (c := c) serves]
      dsimp only
      rw [if_pos (Quad.two_le_count_of_ne contributes serves.2.2.2.1 other)]
      show (if (reviewAtEnd (testHead left k none (.stops p)) k).cascading.isSome = true then _ else
        Host.Outcome.next (stopParked (reviewAtEnd (testHead left k none (.stops p)) k) p)) = _
      rw [cascading_reviewAtEnd, drains.cascading, show left.cascading = none from free, settles, stays]
      rfl
  · intro refused
    refine ⟨fun shut => ?_, fun awake nowhere => ?_, fun k c awake configured contributes alone =>
      ⟨fun there => ?_, fun lacks => ?_⟩⟩
    · show execUnparkRequest s = _
      unfold execUnparkRequest
      rw [finishCascade_of_none free]
      dsimp only
      rw [asked]
      exact if_pos shut
    all_goals have answer : exec .unparkRequest s = _ := execUnparkRequest_of_front free asked awake
    · rw [answer, State.configuredServiceOf_eq_none (s := s.tookRequest rest) nowhere]
      rfl
    all_goals rw [answer, State.configuredServiceOf_of_unique (s := s.tookRequest rest) configured contributes alone]
    · exact if_pos there
    · intro answered joined
      refine (if_neg fun is => Bool.false_ne_true (lacks.symm.trans is)).trans ?_
      show Host.Outcome.next
        { (joined.disregardSent p).sendPath p .unpark with answers := s.answers ++ [Answer.unparked p] } = _
      unfold State.disregardSent State.sendPath
      rw [State.updPath_updPath]
      rfl
  · intro disregarded
    cases m with
    | record r =>
      have answer : exec (.copyArrival p ⟨now, cut⟩) s = _ := execCopyArrival_of_outbox free sent
      rw [State.taker_of_none (s := s.tickTo now |>.tookFrom p rest) (.inr nowhere)] at answer
      exact answer
    | tracking stay =>
      have answer : exec (.trackingNotice p) s = _ := execTrackingNotice_of_outbox free sent
      rw [State.taker_of_none (s := s.tookFrom p rest) (.inr nowhere)] at answer
      exact answer
    | leaving =>
      have answer : exec (.leavingNotice p ⟨now, cut⟩) s = _ := execLeavingNotice_of_outbox free sent
      rw [State.taker_of_none (s := s.tickTo now |>.tookFrom p rest) (.inr nowhere)] at answer
      exact answer

end Sys2Proof.Machine
end

section
/-!
The lane ports (chapter 5): conditioning and the FIFO, signals and lane sensing, readback, due events
(R81 to R97): O36, O37, O38 and O39.
-/
namespace Sys2Proof.Machine

/-! ### The FIFO (R81 to R84) -/

section Fifo
variable {u : PortUnit} {d : Nat} {q : Packet}

theorem deviation_eq_fillDeviation (d fill : Nat) : deviation d fill = fillDeviation d fill := by
  unfold deviation fillDeviation
  omega

/-- R83, R84: a packet enters at the tail, and raises the peak unless it pushes the head out. -/
theorem PortUnit.enter_eq (u : PortUnit) (d : Nat) (q : Packet) : u.enter d q =
    if u.fifo.length < d then
      { u with
        fifo := u.fifo ++ [q]
        peak := max u.peak (fillDeviation d (u.fifo.length + 1))
        counters := { u.counters with entered := min (u.counters.entered + 1) 65535 } }
    else
      { u with
        fifo := u.fifo.drop 1 ++ [q]
        counters :=
          { u.counters with
            entered := min (u.counters.entered + 1) 65535
            overflow := min (u.counters.overflow + 1) 65535 } } := by
  unfold PortUnit.enter PortUnit.notePeak
  dsimp only
  rw [deviation_eq_fillDeviation, List.length_append, List.drop_one]
  rfl

end Fifo

/-- Settles O36: conditioning by status and mode, then the entry of `PortUnit.enter_eq`. -/
theorem conditionedPacketEntersFifo : Obligations.ConditionedPacketEntersFifo := by
  intro u d st q room full enters
  have enter (u : PortUnit) (q : Packet) : u.enter d q = enters u q := PortUnit.enter_eq u d q
  refine ⟨fun mode sound => ?_, enter _ _, enter _ _, rfl⟩
  cases st with
  | clean => exact enter u q
  | corrected n => exact enter u q
  | uncorrectable => exact absurd rfl sound

/-! ### Signals and lane sensing (R89, R96) -/

section Sensing
variable {s : State} {x : Port}

theorem PortUnit.takeServiceState_of_same {u : PortUnit} {v : ServiceState} (same : v = u.recorded) :
    u.takeServiceState v = u := if_pos same.symm

theorem PortUnit.takeServiceState_of_other {u : PortUnit} {v : ServiceState} (other : v ≠ u.recorded)
    (unsettled : v = .live ∨ u.rEst = none) : u.takeServiceState v = { u with recorded := v } := by
  unfold PortUnit.takeServiceState
  rw [if_neg other.symm]
  obtain rfl | none_ := unsettled
  · rfl
  · rw [none_]
    cases v <;> rfl

theorem PortUnit.takeServiceState_of_dark {u : PortUnit} {r : Nat} (other : .dark ≠ u.recorded)
    (settled : u.rEst = some r) :
    u.takeServiceState .dark = { u with recorded := .dark, rOut := some (max 1000 (min r 40000)) } := by
  unfold PortUnit.takeServiceState
  rw [if_neg other.symm, settled]
  dsimp only
  rw [show clampNat (r : Int) 1000 40000 = max 1000 (min r 40000) by unfold clampNat clampInt; omega]

theorem execPortServiceStateSignal_of_waiting {v : ServiceState} {rest : List ServiceState}
    (waits : s.portSignals.get x = v :: rest) : execPortServiceStateSignal x s =
      if s.thermal.shutdown then .next { s with portSignals := s.portSignals.set x rest }
      else .next ({ s with portSignals := s.portSignals.set x rest }.updPort x fun u => u.takeServiceState v) := by
  unfold execPortServiceStateSignal
  rw [waits]

/-- A change of a port that changes nothing. -/
theorem State.updPort_of_id {f : PortUnit → PortUnit} (same : f (s.port x) = s.port x) : s.updPort x f = s :=
  congrArg (fun q => { s with ports := q }) ((congrArg (s.ports.set x) same).trans (Quad.set_get ..))

end Sensing

/-- Settles O38: the signal by what it changes, and the sensing timer by whether it runs. -/
theorem portTakesSignalsAndSensesLane : Obligations.PortTakesSignalsAndSensesLane := by
  intro x s u
  refine ⟨fun v rest waits => ?_, fun senses => ⟨?_, fun runs => ?_⟩, fun idle => ⟨?_, ?_⟩, fun stopped => ?_,
    fun none_ => ?_⟩
  · intro taken
    have answer : exec (.portServiceStateSignal x) s = _ := execPortServiceStateSignal_of_waiting waits
    refine ⟨fun shut => ?_, fun awake same => ?_, fun awake other unsettled => ?_, fun r awake other dark settled => ?_⟩
    · rw [answer, shut]; rfl
    all_goals rw [answer, awake, if_neg Bool.false_ne_true]
    · exact congrArg _ (State.updPort_of_id (PortUnit.takeServiceState_of_same same))
    · exact congrArg _ (State.updPort_congr _ _ (PortUnit.takeServiceState_of_other other unsettled))
    · subst dark
      exact congrArg _ (State.updPort_congr _ _ (PortUnit.takeServiceState_of_dark other settled))
  · refine (if_pos senses).trans (congrArg _ (State.updPort_congr _ _ ?_))
    by_cases quiet : (s.port x).activity = .quiet
    · simp only [quiet, if_true]
    · simp only [quiet, if_false, List.append_nil]
  · refine (if_pos ⟨senses, runs⟩).trans (congrArg _ (State.updPort_congr _ _ ?_))
    by_cases active : (s.port x).activity = .active
    · simp only [active, if_true]
    · simp only [active, if_false, List.append_nil]
  · exact if_neg fun is => Bool.false_ne_true (idle.symm.trans is)
  · exact if_neg fun both => Bool.false_ne_true (idle.symm.trans both.1)
  · exact if_neg fun both => both.2 stopped
  · show execDueEvent x s = _
    unfold execDueEvent
    split
    next c r configured due =>
      obtain unbound | unscheduled := none_
      · exact (Option.some_ne_none _ (configured.symm.trans unbound)).elim
      · exact (Option.some_ne_none _ (due.symm.trans unscheduled)).elim
    next => rfl

/-! ### Readback (R95, R97, R98) -/

section Readback
variable {s : State} {x : Port} {u : PortUnit} {l : OnLane} {read : Header} {starts : Quad Bool}

theorem readbackAgrees_iff {sent : Header} :
    readbackAgrees sent read starts = true ↔ read = sent ∧ starts = ⟨true, false, false, false⟩ := by
  unfold readbackAgrees
  rw [Bool.and_eq_true, beq_iff_eq, beq_iff_eq, eq_comm]

theorem execReadbackComparison_of_judged (sent : (s.port x).onLane = some l) (on_ : (s.port x).driversOn = true)
    (fresh : l.judged = false) : execReadbackComparison x read starts s =
      .next (s.updPort x fun u => u.judge l (readbackAgrees l.packet.header read starts)) := by
  unfold execReadbackComparison
  rw [sent]
  exact if_pos ⟨on_, fresh⟩

theorem PortUnit.judge_of_first (first : u.mismatch = 0) :
    u.judge l false = { u with onLane := some { l with judged := true }, mismatch := 1 } := by
  unfold PortUnit.judge
  dsimp only
  rw [if_neg Bool.false_ne_true, first]
  rfl

theorem PortUnit.judge_of_second (again : u.mismatch ≠ 0) : u.judge l false = { u.silenced with
    mismatch := 0
    counters := { u.counters with contentionEvents := min (u.counters.contentionEvents + 1) 65535 }
    notices := u.notices ++ .contention :: (if u.finishOrder then [.finished] else []) } := by
  unfold PortUnit.judge
  dsimp only
  rw [if_neg Bool.false_ne_true, if_neg (by omega)]
  unfold PortUnit.contend
  dsimp only
  cases u.finishOrder <;> rfl

theorem PortUnit.endPacket_of_order (sent : u.onLane = some l) (order : u.finishOrder = true) :
    u.endPacket = { u.silenced with notices := u.notices ++ [.finished] } := by
  unfold PortUnit.endPacket
  rw [sent]
  exact if_pos order

theorem PortUnit.endPacket_of_free (free : u.onLane = none ∨ u.finishOrder = false) :
    u.endPacket = { u with onLane := none } := by
  unfold PortUnit.endPacket
  split
  next none_ => exact (congrArg (fun l => { u with onLane := l }) none_ :)
  next l sent =>
    obtain none_ | unordered := free
    · exact (Option.some_ne_none _ (sent.symm.trans none_)).elim
    · exact if_neg fun is => Bool.false_ne_true (unordered.symm.trans is)

end Readback

/-- Settles O39: one judgement by whether the comparison agrees and by the mismatch count. -/
theorem readbackJudgesPacketOnce : Obligations.ReadbackJudgesPacketOnce := by
  intro x read starts l s sent u agrees
  refine ⟨fun on_ fresh => ?_, fun idle => ?_, fun free => ?_, fun order => ?_⟩
  · have answer : exec (.readbackComparison x read starts) s = _ := execReadbackComparison_of_judged sent on_ fresh
    refine ⟨fun agree => ?_, fun differ first => ?_, fun differ again => ?_⟩
    · rw [answer, readbackAgrees_iff.mpr agree]
      rfl
    all_goals rw [answer, Bool.eq_false_iff.mpr fun is => differ (readbackAgrees_iff.mp is)]
    · exact congrArg _ (State.updPort_congr _ _ (PortUnit.judge_of_first first))
    · exact congrArg _ (State.updPort_congr _ _ (PortUnit.judge_of_second again))
  · show execReadbackComparison x read starts s = _
    unfold execReadbackComparison
    rw [sent]
    refine if_neg fun ⟨on_, fresh⟩ => ?_
    obtain off | judged := idle
    · exact Bool.false_ne_true (off.symm.trans on_)
    · exact Bool.false_ne_true (fresh.symm.trans judged)
  · exact congrArg _ (State.updPort_congr _ _ (PortUnit.endPacket_of_free (.inr free)))
  · exact congrArg _ (State.updPort_congr _ _ (PortUnit.endPacket_of_order sent order))

/-! ### A due event (R90, R91, R133) -/

section Due
variable {s : State} {x : Port} {c : PortConfig} {r : Nat} {u : PortUnit}

theorem PortElection.admissible_iff {e : PortElection} :
    e.admissible = true ↔ e.lane = .claiming ∧ e.settle = .expired ∧ e.activity = .quiet := by
  unfold PortElection.admissible
  rw [Bool.and_eq_true, Bool.and_eq_true, beq_iff_eq, beq_iff_eq, beq_iff_eq, and_assoc]

theorem PortUnit.sendOne_cons {d : Nat} {q : Packet} {rest : List Packet} (fifo : u.fifo = q :: rest) :
    u.sendOne d = (q, { u with
      fifo := rest
      peak := max u.peak (fillDeviation d rest.length)
      onLane := some ⟨q, false⟩
      counters := { u.counters with sent := min (u.counters.sent + 1) 65535 } }) := by
  unfold PortUnit.sendOne PortUnit.notePeak
  rw [fifo]
  dsimp only
  rw [deviation_eq_fillDeviation]
  rfl

theorem PortUnit.sendOne_nil {d : Nat} (fifo : u.fifo = []) : u.sendOne d = (nullPacket, { u with
    onLane := some ⟨nullPacket, false⟩
    counters := { u.counters with stuffed := min (u.counters.stuffed + 1) 65535 } }) := by
  unfold PortUnit.sendOne
  rw [fifo]
  rfl

theorem PortUnit.discardOne_cons {d : Nat} {q : Packet} {rest : List Packet} (fifo : u.fifo = q :: rest) :
    u.discardOne d = (some q, { u with
      fifo := rest
      peak := max u.peak (fillDeviation d rest.length)
      counters := { u.counters with shadowDiscards := min (u.counters.shadowDiscards + 1) 65535 } }) := by
  unfold PortUnit.discardOne PortUnit.notePeak
  rw [fifo]
  dsimp only
  rw [deviation_eq_fillDeviation]
  rfl

theorem PortUnit.discardOne_nil {d : Nat} (fifo : u.fifo = []) : u.discardOne d = (none, u) := by
  unfold PortUnit.discardOne
  rw [fifo]

/-- What a port sends at its due event, offered to the monitor output. -/
def State.sendsDue (s : State) (x : Port) (c : PortConfig) (u : PortUnit) : State :=
  (s.updPort x fun _ => (u.sendOne c.depth).2).offerFrom (.port x) (u.sendOne c.depth).1

/-- What a port in shadow discards at its due event, offered to the monitor output. -/
def State.discardsDue (s : State) (x : Port) (c : PortConfig) (u : PortUnit) : State :=
  match (u.discardOne c.depth).1 with
  | some q => (s.updPort x fun _ => (u.discardOne c.depth).2).offerFrom (.port x) q
  | none => s.updPort x fun _ => (u.discardOne c.depth).2

/-- The port behind the end of a packet still on the lane, with its next due event scheduled (R90). -/
def PortUnit.rescheduled (u : PortUnit) : PortUnit := { u with due := u.rOut }

/-- What a due event does at a station whose port has been admitted, if it could be, and rescheduled. -/
def State.takesDue (t : State) (x : Port) (c : PortConfig) : State :=
  if (t.elect x).lane.drives ∧ (t.port x).driversOn then t.sendsDue x c (t.port x) else t.discardsDue x c (t.port x)

theorem execDueEvent_eq (configured : s.portConfig x = some c) (due : (s.port x).due = some r) : execDueEvent x s =
    let ended := s.updPort x PortUnit.endPacket
    .next (((if (ended.elect x).admissible then admitPort ended x else ended).updPort x PortUnit.rescheduled).takesDue x
      c) := by
  unfold execDueEvent
  rw [configured, due]
  dsimp only
  show (if _ then _ else _) = Host.Outcome.next (State.takesDue (State.updPort _ x fun u => { u with due := u.rOut }) x
    c)
  generalize (if ((s.updPort x PortUnit.endPacket).elect x).admissible then
    admitPort (s.updPort x PortUnit.endPacket) x else s.updPort x PortUnit.endPacket) = placed
  generalize (placed.updPort x fun u => { u with due := u.rOut }) = t
  unfold State.takesDue State.sendsDue State.discardsDue
  by_cases drives : (t.elect x).lane.drives = true ∧ (t.port x).driversOn = true
  · rw [if_pos drives, if_pos drives]
    rfl
  · rw [if_neg drives, if_neg drives]
    cases ((t.port x).discardOne c.depth).1 with
    | none => rfl
    | some q => rfl

theorem State.takesDue_updPort (b : State) (f : PortUnit → PortUnit) : (b.updPort x f).takesDue x c =
    if (b.elect x).lane.drives ∧ (f (b.port x)).driversOn then b.sendsDue x c (f (b.port x))
    else b.discardsDue x c (f (b.port x)) := by
  have port : (b.updPort x f).port x = f (b.port x) := State.port_updPort_self ..
  unfold State.takesDue State.sendsDue State.discardsDue
  simp only [port, State.updPort_updPort]
  rfl

/-- R91: what a due event does, by admission and by the drivers. -/
theorem execDueEvent_of_scheduled (configured : s.portConfig x = some c) (due : (s.port x).due = some r) :
    execDueEvent x s = .next
      (if (s.elect x).admissible then
        (s.updElect x fun e => e.moveTo .driving).sendsDue x c (s.port x).endPacket.startDrive.rescheduled
      else if (s.elect x).lane.drives ∧ (s.port x).endPacket.driversOn then
        s.sendsDue x c (s.port x).endPacket.rescheduled
      else s.discardsDue x c (s.port x).endPacket.rescheduled) := by
  rw [execDueEvent_eq configured due]
  dsimp only
  refine congrArg _ ?_
  cases admissible : (s.elect x).admissible with
  | true =>
    have here : ((s.updPort x PortUnit.endPacket).elect x).admissible = true := admissible
    have admits : (admitPort (s.updPort x PortUnit.endPacket) x).updPort x PortUnit.rescheduled =
        (s.updElect x fun e => e.moveTo .driving).updPort x fun u => u.endPacket.startDrive.rescheduled := by
      unfold admitPort
      rw [State.updPort_updPort]
      exact State.updPort_updPort (s.updElect x fun e => e.moveTo .driving) x PortUnit.endPacket _
    rw [here, if_pos rfl, if_pos rfl, admits, State.takesDue_updPort, State.elect_updElect_self]
    exact if_pos ⟨rfl, rfl⟩
  | false =>
    have here : ((s.updPort x PortUnit.endPacket).elect x).admissible = false := admissible
    rw [here, if_neg Bool.false_ne_true, if_neg Bool.false_ne_true, State.updPort_updPort, State.takesDue_updPort]
    rfl

end Due

/-- Settles O37: the end of the packet before, admission, and then `sendOne` or `discardOne`. -/
theorem dueEventSendsDiscardsOrAdmits : Obligations.DueEventSendsDiscardsOrAdmits := by
  intro x c r s configured due u e drives admissible offering sends discards shown
  have answer : exec (.dueEvent x) s = _ := execDueEvent_of_scheduled configured due
  have sent (w : PortUnit) : (w.rescheduled.sendOne c.depth) = (w.fifo.head?.getD nullPacket, sends w) := by
    show _ = (_, match w.fifo with | q :: rest => _ | [] => _)
    obtain fifo | ⟨q, rest, fifo⟩ : w.fifo = [] ∨ ∃ q rest, w.fifo = q :: rest := by cases w.fifo <;> simp
    · exact (PortUnit.sendOne_nil (u := w.rescheduled) fifo).trans
        (by rw [show w.rescheduled.fifo = [] from fifo, fifo]; rfl)
    · exact (PortUnit.sendOne_cons (u := w.rescheduled) fifo).trans (by rw [fifo]; rfl)
  have discarded (w : PortUnit) : (({ w with onLane := none } : PortUnit).rescheduled.discardOne c.depth) =
      (w.fifo.head?, discards w) := by
    show _ = (_, match w.fifo with | q :: rest => _ | [] => _)
    obtain fifo | ⟨q, rest, fifo⟩ : w.fifo = [] ∨ ∃ q rest, w.fifo = q :: rest := by cases w.fifo <;> simp
    · exact (PortUnit.discardOne_nil (u := ({ w with onLane := none } : PortUnit).rescheduled) fifo).trans
        (by rw [fifo]; rfl)
    · exact (PortUnit.discardOne_cons (u := ({ w with onLane := none } : PortUnit).rescheduled) fifo).trans
        (by rw [fifo]; rfl)
  have sendsDue (t : State) (w : PortUnit) (monitor : t.monitor = s.monitor) (fifo : w.fifo = u.fifo) :
      t.sendsDue x c w.rescheduled = offering (t.updPort x fun _ => sends w) shown := by
    unfold State.sendsDue
    rw [sent w, State.offerFrom_eq, fifo]
    show { (t.updPort x fun _ => sends w) with
      monitor := if t.monitor.source = MonitorSource.port x then t.monitor.offer shown else t.monitor } = _
    rw [monitor]
  have discardsDue (w : PortUnit) (fifo : w.fifo = u.fifo) :
      s.discardsDue x c ({ w with onLane := none } : PortUnit).rescheduled =
        if u.fifo = [] then s.updPort x fun _ => discards w else offering (s.updPort x fun _ => discards w) shown := by
    unfold State.discardsDue
    rw [discarded w, fifo]
    show _ = if u.fifo = [] then _ else offering _ (u.fifo.head?.getD nullPacket)
    cases u.fifo with
    | nil => rfl
    | cons q rest => exact State.offerFrom_eq ..
  have forgets (w : PortUnit) : sends { w with onLane := none } = sends w := by
    show (match w.fifo with | q :: rest => _ | [] => _) = match w.fifo with | q :: rest => _ | [] => _
    cases w.fifo <;> rfl
  have claims : e.admissible = true ↔ admissible := PortElection.admissible_iff
  have outside : drives → ¬ e.admissible = true := fun drive admits => by
    have claiming := (claims.mp admits).1
    obtain drive | drive := drive
    · exact absurd (claiming.symm.trans drive) (by decide)
    · exact absurd (claiming.symm.trans drive) (by decide)
  have ended (free : u.onLane = none ∨ u.finishOrder = false) : (s.port x).endPacket = { u with onLane := none } :=
    PortUnit.endPacket_of_free free
  refine ⟨fun drive on_ free => ?_, fun admits free => ?_, fun stays silent free => ?_, fun drive on_ sending order =>
    ?_⟩
  · rw [answer, if_neg (outside drive), ended free, if_pos ⟨LaneState.drives_iff.mpr drive, on_⟩,
      sendsDue s { u with onLane := none } rfl rfl, forgets]
    exact congrArg (fun t => Host.Outcome.next (offering t shown)) (State.updPort_congr _ _ rfl)
  · rw [answer, if_pos (claims.mpr admits), ended free,
      sendsDue (s.updElect x fun e => e.moveTo .driving) ({ u with onLane := none } : PortUnit).startDrive rfl rfl,
      show ({ u with onLane := none } : PortUnit).startDrive = { u.startDrive with onLane := none } from rfl, forgets]
    exact congrArg (fun t => Host.Outcome.next (offering t shown)) (State.updPort_congr _ _ rfl)
  · have shadow : ¬ (e.lane.drives = true ∧ u.driversOn = true) := fun ⟨drive, on_⟩ =>
      silent.elim (fun not_ => not_ (LaneState.drives_iff.mp drive)) fun off => Bool.false_ne_true (off.symm.trans on_)
    rw [answer, if_neg (fun is => stays (claims.mp is)), ended free, if_neg shadow, discardsDue u rfl]
    rfl
  · obtain ⟨l, lane⟩ := Option.ne_none_iff_exists'.mp sending
    rw [answer, if_neg (outside drive), PortUnit.endPacket_of_order lane order,
      if_neg (fun both => Bool.false_ne_true both.2)]
    exact congrArg _ (discardsDue
      { u with driversOn := false, finishOrder := false, notices := u.notices ++ [.finished] } rfl)

end Sys2Proof.Machine
end

section
/-!
The election unit's own signals and timers (R132 to R139): O40, O41 and O42.
-/
namespace Sys2Proof.Machine

/-! ### The end of driving (R137, R139, R142) -/

section Notices
variable {s : State} {x : Port} {c : PortConfig} {rest : List PortNotice}

/-- The station once the election unit has taken the front notice of a port. -/
def State.tookNotice (s : State) (x : Port) (rest : List PortNotice) : State :=
  s.updPort x fun u => { u with notices := rest }

/-- A port that stops driving with a frame for its lane. -/
def State.leavesWith (s : State) (x : Port) (c : PortConfig) (l : LaneState) (kind : Fin 16) (body : List Byte) :
    State :=
  ((s.updElect x fun e => e.entered l).updPort x PortUnit.silenced).placeFrame (.lane x)
    ⟨kind, s.loader.stationNumber, byte c.lane.val :: body⟩

theorem placeLane_of_bound (configured : s.portConfig x = some c) (f : Station → Fin 16 → Frame) :
    placeLane s x f = s.placeFrame (.lane x) (f s.loader.stationNumber c.lane) := by
  unfold placeLane
  rw [configured]

theorem placeRelease_standDown (configured : s.portConfig x = some c) (l : LaneState) (r : ReleaseReason) :
    placeRelease (standDown s x l) x r = s.leavesWith x c l 1 [byte r.code] :=
  placeLane_of_bound (s := standDown s x l) configured _

/-- A port that stops driving in a line restart remembers its RELEASE. -/
def State.leavesForRestart (s : State) (x : Port) (c : PortConfig) : State :=
  (s.leavesWith x c .disabled 1 [3]).updElect x fun e => { e with releaseOut := true }

theorem execFinishedNotice_of_front (configured : s.portConfig x = some c)
    (sent : (s.port x).notices = .finished :: rest)
    (awake : s.thermal.shutdown = false) : execFinishedNotice x s =
      match (s.elect x).mark with
      | some .restart => .next (trySend ((s.tookNotice x rest).leavesForRestart x c))
      | some m => .next (trySend ((s.tookNotice x rest).leavesWith x c .released 1 [byte m.reason.code]))
      | none => .next (s.tookNotice x rest) := by
  have bound : (s.tookNotice x rest).portConfig x = some c := configured
  have placed (l : LaneState) (r : ReleaseReason) := placeRelease_standDown bound l r
  unfold execFinishedNotice State.takeNotice
  rw [sent]
  refine (if_neg (by rw [show (s.updPort x _).thermal.shutdown = _ from awake]; exact Bool.false_ne_true)).trans ?_
  show (match (s.elect x).mark with
    | some .restart => Host.Outcome.next (trySend ((placeRelease (standDown (s.tookNotice x rest) x .disabled) x
                         .restart).updElect x
        fun e => { e with releaseOut := true }))
    | some m => .next (trySend (placeRelease (standDown (s.tookNotice x rest) x .released) x m.reason))
    | none => .next (s.tookNotice x rest)) = _
  simp only [placed]
  rfl

theorem execContentionNotice_of_front (configured : s.portConfig x = some c)
    (sent : (s.port x).notices = .contention :: rest) (awake : s.thermal.shutdown = false)
    (drives : (s.elect x).lane.drives = true) : execContentionNotice x s =
      if (s.elect x).mark = some .restart then .next (trySend ((s.tookNotice x rest).leavesForRestart x c))
      else .next (trySend (((s.tookNotice x rest).leavesWith x c .backoff 0 []).updElect x fun e =>
        { e with backoff := 2 * (s.loader.stationNumber.val + 1) })) := by
  have bound : (s.tookNotice x rest).portConfig x = some c := configured
  have placed : placeRelease (standDown (s.tookNotice x rest) x .disabled) x .restart = _ := placeRelease_standDown
    bound ..
  have backs : placeLane (enterBackoff (s.tookNotice x rest) x) x contentionOf =
      ((s.tookNotice x rest).leavesWith x c .backoff 0 []).updElect x fun e =>
        { e with backoff := 2 * (s.loader.stationNumber.val + 1) } := by
    rw [placeLane_of_bound (s := enterBackoff (s.tookNotice x rest) x) bound]
    unfold enterBackoff
    rw [Nat.mul_comm]
    rfl
  unfold execContentionNotice State.takeNotice
  rw [sent]
  refine (if_neg ?_).trans ?_
  · rintro (shut | idle)
    · exact Bool.false_ne_true (awake.symm.trans shut)
    · exact Bool.false_ne_true (idle.symm.trans drives)
  · rw [← backs]
    unfold State.leavesForRestart
    rw [show [(3 : Byte)] = [byte ReleaseReason.restart.code] from rfl, ← placed]
    rfl

end Notices

/-- Settles O40: each notice by the finish mark of the port that it ends. -/
theorem noticesEndDriving : Obligations.NoticesEndDriving := by
  intro x c m rest s configured sent taken leaves drives restarts
  refine ⟨fun finished awake => ?_, fun contention awake => ?_, fun shut => ⟨fun finished => ?_, fun contention => ?_⟩⟩
  · subst finished
    have answer : exec (.finishedNotice x) s = _ := execFinishedNotice_of_front configured sent awake
    refine ⟨fun mark => ?_, fun mark => ?_, fun mark => ?_, fun mark => ?_⟩
    all_goals rw [answer, mark]
    all_goals rfl
  · subst contention
    refine ⟨fun drive mark => ?_, fun drive other => ?_, fun idle => ?_⟩
    · exact (execContentionNotice_of_front configured sent awake (LaneState.drives_iff.mpr drive)).trans (if_pos mark)
    · exact (execContentionNotice_of_front configured sent awake (LaneState.drives_iff.mpr drive)).trans (if_neg other)
    · show execContentionNotice x s = _
      unfold execContentionNotice State.takeNotice
      rw [sent]
      exact if_pos (.inr (Bool.eq_false_iff.mpr fun drive => idle (LaneState.drives_iff.mp drive)))
  · subst finished
    show execFinishedNotice x s = _
    unfold execFinishedNotice State.takeNotice
    rw [sent]
    exact if_pos shut
  · subst contention
    show execContentionNotice x s = _
    unfold execContentionNotice State.takeNotice
    rw [sent]
    exact if_pos (.inl shut)

/-! ### Service-state signals and the hold time (R137, R138) -/

section Signals
variable {s : State} {x : Port}

theorem execElectionServiceStateSignal_of_front {v : ServiceState} {rest : List ServiceState}
    (waits : s.electionSignals.get x = v :: rest) (awake : s.thermal.shutdown = false) :
    execElectionServiceStateSignal x s = .next (electServiceState
      ({ s with electionSignals := s.electionSignals.set x rest }.updElect x fun e => { e with service := v }) x
        v) := by
  unfold execElectionServiceStateSignal
  rw [waits]
  exact if_neg (by rw [awake]; exact Bool.false_ne_true)

theorem electServiceState_of_marked {v : ServiceState} (marked : (s.elect x).mark ≠ none) :
    electServiceState s x v = s :=
  if_pos marked

/-- Which changes of a service move an unmarked port. -/
theorem electServiceState_of_unmarked {v : ServiceState} (unmarked : (s.elect x).mark = none) :
    electServiceState s x v =
    match (s.elect x).lane, v with
    | .driving, .dark =>
      s.updElect x fun e =>
        { e.moveTo .holding with holdTimer := some (((s.portConfig x).map PortConfig.hold).getD 0) }
    | .holding, .live => s.updElect x fun e => e.moveTo .driving
    | .claiming, .dark => withdrawClaim s x .released
    | _, _ => s := if_neg fun marked => marked unmarked

theorem PortUnit.finish_eq (u : PortUnit) : u.finish =
    if u.onLane = none then { u with driversOn := false, notices := u.notices ++ [.finished] }
    else { u with finishOrder := true } := by
  unfold PortUnit.finish
  cases u.onLane <;> rfl

end Signals

/-- Settles O41: the port's lane state and mark settle what a signal brings, and its hold timer what an expiry does. -/
theorem serviceStateHoldsResumesWithdraws : Obligations.ServiceStateHoldsResumesWithdraws := by
  intro x s e
  refine ⟨fun v rest waits => ?_, fun none_ => ?_, fun n holding timer unmarked => ?_, fun idle => ?_⟩
  · intro taken noted
    refine ⟨fun shut => ?_, fun awake => ?_⟩
    · show execElectionServiceStateSignal x s = _
      unfold execElectionServiceStateSignal
      rw [waits]
      exact if_pos shut
    have answer : exec (.electionServiceStateSignal x) s = .next (electServiceState noted x v) :=
      execElectionServiceStateSignal_of_front waits awake
    have at_ : noted.elect x = { e with service := v } := State.elect_updElect_self ..
    have lane : (noted.elect x).lane = e.lane := by rw [at_]
    have moves (unmarked : e.mark = none) := electServiceState_of_unmarked (s := noted) (x := x) (v := v)
      (by rw [at_]; exact unmarked)
    refine ⟨fun c configured unmarked driving dark => ?_, fun unmarked holding live => ?_, fun unmarked claiming dark =>
      ?_,
      fun stays => ?_⟩
    · subst dark
      rw [answer, moves unmarked, lane, driving, show noted.portConfig x = some c from configured]
      rfl
    · subst live
      rw [answer, moves unmarked, lane, holding]
      rfl
    · subst dark
      rw [answer, moves unmarked, lane, claiming]
      rfl
    · rw [answer]
      by_cases unmarked : e.mark = none
      · rw [moves unmarked, lane]
        refine congrArg _ ?_
        obtain marked | ⟨d, h, c⟩ | ⟨holding, dark⟩ | ⟨other, live⟩ := stays
        · exact absurd unmarked marked
        · cases at' : e.lane <;> simp_all
        · rw [holding, dark]
        · cases at' : e.lane <;> simp_all
      · exact congrArg _ (electServiceState_of_marked (by rw [at_]; exact unmarked))
  · show execElectionServiceStateSignal x s = _
    unfold execElectionServiceStateSignal
    rw [none_]
  · show execHoldTimerExpiry x s = _
    unfold execHoldTimerExpiry
    rw [holding, timer, unmarked]
    exact congrArg _ (State.updPort_congr _ _ (PortUnit.finish_eq _))
  · show execHoldTimerExpiry x s = _
    unfold execHoldTimerExpiry
    split
    next holding timer unmarked =>
      obtain other | stopped | marked := idle
      · exact absurd holding other
      · exact (Option.some_ne_none _ (timer.symm.trans stopped)).elim
      · exact absurd unmarked marked
    next => rfl

/-! ### Lane activity and the timers of a claim (R133, R135) -/

section Claims
variable {s : State} {x : Port}

theorem execLaneActivitySignal_of_front {a : Activity} {rest : List Activity}
    (waits : (s.port x).activitySignals = a :: rest)
    (awake : s.thermal.shutdown = false) : execLaneActivitySignal x s = .next (electActivity
      ((s.updPort x fun u => { u with activitySignals := rest }).updElect x fun e => { e with activity := a }) x
        a) := by
  unfold execLaneActivitySignal
  rw [waits]
  exact if_neg (by rw [show (s.updPort x _).thermal.shutdown = _ from awake]; exact Bool.false_ne_true)

end Claims

/-- Settles O42: a claim is admitted where it is admissible and has no due event, and refused where its yield wait is
over. -/
theorem settledClaimIsAdmittedOrRefused : Obligations.SettledClaimIsAdmittedOrRefused := by
  intro x s e admitted refused
  refine ⟨fun a rest waits => ?_, fun n claiming settle => ?_, fun n claiming wait => ?_, fun idle => ?_, fun idle =>
    ?_⟩
  · intro taken noted
    have answer (awake : s.thermal.shutdown = false) : exec (.laneActivitySignal x) s = .next
      (electActivity noted x a) :=
      execLaneActivitySignal_of_front waits awake
    have at_ : noted.elect x = { e with activity := a } := State.elect_updElect_self ..
    have due : (noted.port x).due = (s.port x).due := by
      show ((s.updPort x fun u => { u with activitySignals := rest }).port x).due = _
      rw [State.port_updPort_self]
    refine ⟨fun shut => ?_, fun awake quiet => ⟨fun claiming settled free => ?_, fun stays => ?_⟩,
      fun awake active => ⟨fun claiming ended => ?_, fun stays => ?_⟩⟩
    · show execLaneActivitySignal x s = _
      unfold execLaneActivitySignal
      rw [waits]
      exact if_pos shut
    all_goals rw [answer awake]
    · subst quiet
      refine congrArg _ (if_pos ⟨PortElection.admissible_iff.mpr ?_, due.trans free⟩)
      rw [at_]
      exact ⟨claiming, settled, rfl⟩
    · subst quiet
      refine congrArg _ (if_neg fun ⟨admissible, free⟩ => ?_)
      rw [PortElection.admissible_iff, at_] at admissible
      obtain ⟨claiming, settled, -⟩ := admissible
      obtain other | unsettled | scheduled := stays
      · exact other claiming
      · exact unsettled settled
      · exact scheduled (due.symm.trans free)
    · subst active
      refine congrArg _ (if_pos ?_)
      rw [at_]
      exact ⟨claiming, ended⟩
    · subst active
      refine congrArg _ (if_neg ?_)
      rw [at_]
      exact fun ⟨claiming, ended⟩ => stays.elim (fun other => other claiming) fun waits => waits ended
  · intro expired
    have at_ : expired.elect x = { e with settle := .expired } := State.elect_updElect_self ..
    have answer : exec (.settleTimerExpiry x) s =
        if (expired.elect x).admissible ∧ (expired.port x).due = none then .next (admitPort expired x) else .next
          expired := by
      show execSettleTimerExpiry x s = _
      unfold execSettleTimerExpiry
      rw [claiming, settle]
    refine ⟨fun quiet free => ?_, fun stays => ?_⟩
    · refine answer.trans (if_pos ⟨PortElection.admissible_iff.mpr ?_, free⟩)
      rw [at_]
      exact ⟨claiming, rfl, quiet⟩
    · refine answer.trans (if_neg fun ⟨admissible, free⟩ => ?_)
      rw [PortElection.admissible_iff, at_] at admissible
      obtain ⟨-, -, quiet⟩ := admissible
      obtain active | scheduled := stays
      · exact absurd (active.symm.trans quiet) (by decide)
      · exact scheduled free
  · have answer : exec (.yieldWaitExpiry x) s =
        if (s.elect x).admissible then .next (s.updElect x fun e => { e with yieldWait := .expired })
        else .next (refuseClaim s x) := by
      show execYieldWaitExpiry x s = _
      unfold execYieldWaitExpiry
      rw [claiming, wait]
    refine ⟨fun settled quiet => answer.trans (if_pos (PortElection.admissible_iff.mpr ⟨claiming, settled, quiet⟩)),
      fun stays => answer.trans (if_neg fun admissible => ?_)⟩
    obtain ⟨-, settled, quiet⟩ := PortElection.admissible_iff.mp admissible
    obtain unsettled | active := stays
    · exact unsettled settled
    · exact absurd (active.symm.trans quiet) (by decide)
  · show execSettleTimerExpiry x s = _
    unfold execSettleTimerExpiry
    split
    next n claiming runs => exact (idle.elim (fun other => other claiming) fun stopped => stopped n runs).elim
    next => rfl
  · show execYieldWaitExpiry x s = _
    unfold execYieldWaitExpiry
    split
    next n claiming runs => exact (idle.elim (fun other => other claiming) fun stopped => stopped n runs).elim
    next => rfl

end Sys2Proof.Machine
end

section
/-!
The rules of the transmit slots and of the frames heard (R111 to R116): what starts, what a withdrawal and a loss
leave, which command takes a heard frame. O45 and O55.
-/
namespace Sys2Proof.Machine

/-! ### The frame that starts (R114, R115) -/

section Choice
variable {s : State} {t : TxSlots} {k : TxSlot} {f : PlacedFrame}

theorem State.working_iff : s.working = true ↔ s.loader.phase = .running ∧ s.thermal.shutdown = false := by
  unfold State.working
  rw [Bool.and_eq_true, beq_iff_eq, Bool.not_eq_true']

theorem mem_txSlots (k : TxSlot) : k ∈ txSlots := by
  cases k with
  | lane x => fin_cases x <;> decide
  | announce => decide
  | report => decide

theorem lowestKind_eq_none_iff {l : List TxSlot} : lowestKind t l = none ↔ ∀ k ∈ l, t.get k = none := by
  induction l with
  | nil => exact ⟨fun _ => List.forall_mem_nil _, fun _ => rfl⟩
  | cons h rest ih =>
    rw [List.forall_mem_cons, ← ih, lowestKind]
    cases here : t.get h with
    | none => cases lowestKind t rest <;> simp
    | some f =>
      cases lowestKind t rest with
      | none => simp
      | some q =>
        dsimp only
        split <;> simp

/-- The choice among some slots: a pending frame, none of a lower kind, and the first of its kind. -/
theorem lowestKind_spec {l : List TxSlot} (chosen : lowestKind t l = some (k, f)) :
    t.get k = some f ∧ ∀ j ∈ l, ∀ g, t.get j = some g → f.frame.kind < g.frame.kind ∨
      (f.frame.kind = g.frame.kind ∧ l.idxOf k ≤ l.idxOf j) := by
  induction l generalizing k f with
  | nil => exact (Option.some_ne_none _ chosen.symm).elim
  | cons h rest ih =>
    rw [lowestKind] at chosen
    have later {k j : TxSlot} (hk : k ≠ h) (hj : j ≠ h) (le : rest.idxOf k ≤ rest.idxOf j) :
        (h :: rest).idxOf k ≤ (h :: rest).idxOf j := by
      rw [List.idxOf_cons_ne _ hk.symm, List.idxOf_cons_ne _ hj.symm]
      exact Nat.succ_le_succ le
    have first {j : TxSlot} : (h :: rest).idxOf h ≤ (h :: rest).idxOf j := by
      rw [List.idxOf_cons_self]
      exact Nat.zero_le _
    cases here : t.get h with
    | none =>
      rw [here] at chosen
      obtain ⟨pending, least⟩ := ih chosen
      refine ⟨pending, fun j member g waits => ?_⟩
      have absent {i : TxSlot} {p : PlacedFrame} (is : t.get i = some p) : i ≠ h := fun same =>
        Option.some_ne_none p (by rw [← is, same, here])
      rcases List.mem_cons.mp member with rfl | member
      · exact absurd rfl (absent waits)
      · exact (least j member g waits).imp id fun ⟨same, le⟩ => ⟨same, later (absent pending) (absent waits) le⟩
    | some p =>
      rw [here] at chosen
      cases behind : lowestKind t rest with
      | none =>
        rw [behind] at chosen
        obtain ⟨rfl, rfl⟩ := Prod.mk.inj (Option.some.inj chosen)
        refine ⟨here, fun j member g waits => ?_⟩
        rcases List.mem_cons.mp member with rfl | member
        · obtain rfl := Option.some.inj (here.symm.trans waits)
          exact .inr ⟨rfl, le_rfl⟩
        · exact (Option.some_ne_none g (waits.symm.trans (lowestKind_eq_none_iff.mp behind j member))).elim
      | some q =>
        obtain ⟨i, q⟩ := q
        obtain ⟨pending, least⟩ := ih behind
        rw [behind] at chosen
        dsimp only at chosen
        split at chosen
        next lower =>
          obtain ⟨rfl, rfl⟩ := Prod.mk.inj (Option.some.inj chosen)
          refine ⟨pending, fun j member g waits => ?_⟩
          by_cases head : j = h
          · subst head
            obtain rfl := Option.some.inj (here.symm.trans waits)
            exact .inl lower
          · have other : i ≠ h := fun same => by
              subst same
              obtain rfl := Option.some.inj (here.symm.trans pending)
              exact lt_irrefl _ lower
            exact (least j ((List.mem_cons.mp member).resolve_left head) g waits).imp id fun ⟨same, le⟩ =>
              ⟨same, later other head le⟩
        next notLower =>
          obtain ⟨rfl, rfl⟩ := Prod.mk.inj (Option.some.inj chosen)
          refine ⟨here, fun j member g waits => ?_⟩
          rcases List.mem_cons.mp member with rfl | member
          · obtain rfl := Option.some.inj (here.symm.trans waits)
            exact .inr ⟨rfl, le_rfl⟩
          · have least := least j member g waits
            rcases lt_or_eq_of_le (not_lt.mp notLower) with lower | same
            · exact .inl (least.elim (lower.trans ·) fun ⟨same, _⟩ => same ▸ lower)
            · exact least.elim (fun lower => .inl (same ▸ lower)) fun ⟨equal, _⟩ => .inr ⟨same.trans equal, first⟩

theorem LineUnit.choose_eq_none_iff {l : LineUnit} : l.choose = none ↔ ∀ k, l.slots.get k = none := by
  have all : lowestKind l.slots txSlots = none ↔ ∀ k, l.slots.get k = none :=
    lowestKind_eq_none_iff.trans ⟨fun empty k => empty k (mem_txSlots k), fun empty k _ => empty k⟩
  unfold LineUnit.choose
  split
  next k marked =>
    split
    next f waits => exact ⟨fun none_ => (Option.some_ne_none _ none_).elim, fun empty =>
      (Option.some_ne_none f (waits.symm.trans (empty k))).elim⟩
    next => exact all
  next => exact all

/-- R115: the frame marked for retry, else the first of the lowest kind. -/
theorem LineUnit.choose_spec {l : LineUnit} (chosen : l.choose = some (k, f)) :
    l.slots.get k = some f ∧ (l.retry = some k ∨ ((∀ j, l.retry = some j → l.slots.get j = none) ∧
      ∀ j g, l.slots.get j = some g → f.frame.kind < g.frame.kind ∨
        (f.frame.kind = g.frame.kind ∧ txSlots.idxOf k ≤ txSlots.idxOf j))) := by
  have lowest (chosen : lowestKind l.slots txSlots = some (k, f)) := lowestKind_spec chosen
  unfold LineUnit.choose at chosen
  split at chosen
  next j marked =>
    split at chosen
    next g waits =>
      obtain ⟨rfl, rfl⟩ := Prod.mk.inj (Option.some.inj chosen)
      exact ⟨waits, .inl marked⟩
    next empty =>
      obtain ⟨pending, least⟩ := lowest chosen
      exact ⟨pending, .inr ⟨fun i same => by rw [← Option.some.inj (marked.symm.trans same)]; exact empty,
        fun j g => least j (mem_txSlots j) g⟩⟩
  next unmarked =>
    obtain ⟨pending, least⟩ := lowest chosen
    exact ⟨pending, .inr ⟨fun i same => (Option.some_ne_none i (same.symm.trans unmarked)).elim,
      fun j g => least j (mem_txSlots j) g⟩⟩

theorem trySend_of_empty (empty : ∀ k, s.line.slots.get k = none) : trySend s = s := by
  unfold trySend
  split
  · rw [LineUnit.choose_eq_none_iff.mpr empty]
  · rfl

theorem trySend_of_chosen (may : s.working ∧ s.line.state = .idle ∧ s.line.flight = none)
    (chosen : s.line.choose = some (k, f)) : trySend s = { s with line := s.line.start k f } := by
  unfold trySend
  rw [if_pos may, chosen]

end Choice

/-! ### Withdrawal (R116) -/

section Withdrawal
variable {s : State} {x : Port} {g : Flight}

theorem withdrawFrame_of_own (flight : s.line.flight = some g) (own : g.slot = .lane x) : withdrawFrame s x =
    { s with line := { s.line with
      slots := s.line.slots.set (TxSlot.lane x) none
      retry := if s.line.retry = some (TxSlot.lane x) then none else s.line.retry
      flight := some { g with withdrawn := true } } }.updElect x fun e => { e with slotMark := true } := by
  unfold withdrawFrame
  rw [flight]
  exact if_pos own

theorem withdrawFrame_of_other (other : ∀ g, s.line.flight = some g → g.slot ≠ .lane x) : withdrawFrame s x =
    { s with line := { s.line with
      slots := s.line.slots.set (TxSlot.lane x) none
      retry := if s.line.retry = some (TxSlot.lane x) then none else s.line.retry } } := by
  unfold withdrawFrame
  cases flight : s.line.flight with
  | some g => exact if_neg (other g flight)
  | none => rfl

/-- The frame in flight is of the port's lane slot, or it is not. -/
theorem State.flight_cases (s : State) (x : Port) : (∃ g, s.line.flight = some g ∧ g.slot = .lane x) ∨
    ∀ g, s.line.flight = some g → g.slot ≠ .lane x := by
  by_cases own : ∃ g, s.line.flight = some g ∧ g.slot = .lane x
  · exact .inl own
  · exact .inr fun g flight same => own ⟨g, flight, same⟩

end Withdrawal

/-- Settles O45: the choice of `LineUnit.choose_spec`, and the equations of a placing and of a withdrawal. -/
theorem pendingFrameStartsOnIdleLine : Obligations.PendingFrameStartsOnIdleLine := by
  refine ⟨fun s => ?_, fun k f s => ?_, fun x s => ?_⟩
  · intro may order
    have allowed : may ↔ s.working ∧ s.line.state = .idle ∧ s.line.flight = none := by
      rw [State.working_iff, and_assoc]
    refine ⟨fun stays => ?_, fun starts ⟨k, waits⟩ => ?_⟩
    · obtain not_ | empty := stays
      · exact if_neg fun is => not_ (allowed.mpr is)
      · exact trySend_of_empty empty
    · obtain ⟨⟨j, f⟩, chosen⟩ := Option.ne_none_iff_exists'.mp fun none_ =>
        waits (LineUnit.choose_eq_none_iff.mp none_ k)
      obtain ⟨pending, why⟩ := LineUnit.choose_spec chosen
      exact ⟨j, f, pending, trySend_of_chosen (allowed.mp starts) chosen, why⟩
  · exact ⟨LineUnit.get_place .., rfl, fun j other => TxSlots.get_set_of_ne _ _ other, fun marked => if_pos marked,
      fun unmarked => if_neg unmarked, rfl, rfl⟩
  · intro t
    obtain ⟨g, flight, own⟩ | other := s.flight_cases x
    · have result : t = _ := withdrawFrame_of_own flight own
      rw [result]
      refine ⟨TxSlots.get_set_self s.line.slots (.lane x) none, fun k other => TxSlots.get_set_of_ne _ _ other, rfl,
        fun h same _ => ?_,
        fun none_ => absurd own (none_ g flight), fun y other => State.elect_updElect_of_ne _ _ other, rfl⟩
      obtain rfl := Option.some.inj (flight.symm.trans same)
      exact ⟨rfl, State.elect_updElect_self ..⟩
    · have result : t = _ := withdrawFrame_of_other other
      rw [result]
      exact ⟨TxSlots.get_set_self s.line.slots (.lane x) none, fun k other => TxSlots.get_set_of_ne _ _ other, rfl,
        fun g flight own => absurd own (other g flight), fun _ => ⟨rfl, rfl⟩, fun _ _ => rfl, rfl⟩

/-! ### The taking of a heard frame (R111) -/

section Hearing
variable {s : State} {f : Frame} {rest : List Frame} {kind : Fin 16} {act : State → Frame → State}

/-- A working station with a frame heard. -/
structure State.Hears (s : State) (f : Frame) (rest : List Frame) : Prop where
  running : s.loader.phase = .running
  awake : s.thermal.shutdown = false
  heard : s.line.heard = f :: rest

/-- The station once a heard frame has been taken. -/
def State.tookHeard (s : State) (rest : List Frame) : State := { s with line := { s.line with heard := rest } }

theorem State.Hears.takeHeard (hears : s.Hears f rest) {accepts : Fin 16 → Bool} (accepted : accepts f.kind = true) :
    s.takeHeard accepts = some (f, s.tookHeard rest) := by
  obtain ⟨running, awake, heard⟩ := hears
  unfold State.takeHeard
  rw [if_pos (State.working_iff.mpr ⟨running, awake⟩), heard]
  exact if_pos accepted

theorem State.Hears.unread (hears : s.Hears f rest) {accepts : Fin 16 → Bool} (accepted : accepts f.kind = true) :
    takeUnread s accepts = trySend (s.tookHeard rest) := by
  unfold takeUnread
  rw [hears.takeHeard accepted]

theorem State.Hears.addressed (hears : s.Hears f rest) (is : f.kind = kind) (own : f.station = s.loader.stationNumber) :
    takeAddressed s kind act = trySend (act (s.tookHeard rest) f) := by
  unfold takeAddressed
  rw [hears.takeHeard (by rw [is]; exact beq_self_eq_true _)]
  exact if_pos own

theorem State.Hears.notAddressed (hears : s.Hears f rest) (is : f.kind = kind)
    (other : f.station ≠ s.loader.stationNumber) : takeAddressed s kind act = trySend (s.tookHeard rest) := by
  unfold takeAddressed
  rw [hears.takeHeard (by rw [is]; exact beq_self_eq_true _)]
  exact if_neg other

theorem State.Hears.peer (hears : s.Hears f rest) (is : f.kind = kind) (other : f.station ≠ s.loader.stationNumber) :
    takePeerFrame s kind act = trySend (act (s.tookHeard rest) f) := by
  unfold takePeerFrame
  rw [hears.takeHeard (by rw [is]; exact beq_self_eq_true _)]
  exact if_neg other

theorem State.Hears.clash (hears : s.Hears f rest) (is : f.kind = kind) (own : f.station = s.loader.stationNumber) :
    takePeerFrame s kind act = trySend { s.tookHeard rest with line := { (s.tookHeard rest).line with
      counters := { s.line.counters with numberClashes := min (s.line.counters.numberClashes + 1) 4294967295 } } } := by
  unfold takePeerFrame
  rw [hears.takeHeard (by rw [is]; exact beq_self_eq_true _)]
  exact if_pos own

end Hearing

/-! ### The monitor output (R194, R195) -/

theorem MonitorSource.ofCode_of_path (p : Path) : MonitorSource.ofCode (1 + p.val) = some (.path p) := by
  fin_cases p <;> rfl

theorem MonitorSource.ofCode_of_port (x : Port) : MonitorSource.ofCode (5 + x.val) = some (.port x) := by
  fin_cases x <;> rfl

theorem MonitorUnit.choose_eq (m : MonitorUnit) (src : MonitorSource) :
    m.choose src = { m with source := src, queue := if src = m.source then m.queue else [] } := by
  unfold MonitorUnit.choose
  by_cases same : m.source = src
  · rw [if_pos same, if_pos same.symm, ← same]
  · rw [if_neg same, if_neg (Ne.symm same)]

/-- Settles O55: the source by its code, the queue by what is on the output. -/
theorem monitorSelectsSourceAndUnreadFramesPass : Obligations.MonitorSelectsSourceAndUnreadFramesPass := by
  refine ⟨fun f rest s running awake heard => ?_, fun s => ⟨fun q next more on_ queue => ?_, fun empty => ?_, fun off =>
    ?_⟩,
    fun m q => ⟨fun off => ?_, fun on_ room => ?_, fun on_ full => ?_⟩⟩
  · intro taken code
    have hears : s.Hears f rest := ⟨running, awake, heard⟩
    refine ⟨fun is => congrArg _ (hears.unread (by rw [is]; rfl)), fun above =>
      congrArg _ (hears.unread (decide_eq_true above)),
      fun is other => congrArg _ (hears.notAddressed is other), fun src is own names => ?_⟩
    refine congrArg Host.Outcome.next ((hears.addressed is own).trans (congrArg trySend ?_))
    have chosen : (MonitorSource.ofCode (f.body.getD 0 0).toNat).getD .off = src := by
      have byte0 : (f.body.getD 0 0).toNat = code := by
        show _ = (f.body.headD 0).toNat
        cases f.body <;> rfl
      rw [byte0]
      obtain ⟨zero, rfl⟩ | ⟨p, names, rfl⟩ | ⟨x, names, rfl⟩ := names
      · rw [zero]; rfl
      · rw [names, MonitorSource.ofCode_of_path]; rfl
      · rw [names, MonitorSource.ofCode_of_port]; rfl
    rw [chosen, MonitorUnit.choose_eq]
    rfl
  · show Host.Outcome.next { s with monitor := s.monitor.endPacket } = _
    unfold MonitorUnit.endPacket
    rw [on_, queue]
  · show Host.Outcome.next { s with monitor := s.monitor.endPacket } = _
    have ends : s.monitor.endPacket = { s.monitor with current := none } := by
      unfold MonitorUnit.endPacket
      split
      next q next more on_ queue => exact (List.cons_ne_nil _ _ (queue.symm.trans empty)).elim
      next => rfl
      next off => rw [← off]
    rw [ends]
  · show Host.Outcome.next { s with monitor := s.monitor.endPacket } = _
    unfold MonitorUnit.endPacket
    rw [off]
  · unfold MonitorUnit.offer
    rw [off]
  all_goals
    obtain ⟨p, current⟩ := Option.ne_none_iff_exists'.mp on_
    unfold MonitorUnit.offer
    rw [current]
  · exact if_pos room
  · exact if_neg (not_lt.mpr full)

end Sys2Proof.Machine
end

section
/-!
The line controller (R103 to R119): the loss of a frame, a falling edge, a frame that leaves the line:
O50, O51 and O52.
-/
namespace Sys2Proof.Machine

/-! ### Losses (R112, R115, R116) -/

section Loss
variable {s : State} {f : Flight} {cell : Nat} {sent : Bool}

theorem State.tracksLine_iff : s.tracksLine = true ↔ s.loader.phase ≠ .held ∧ s.thermal.shutdown = false := by
  unfold State.tracksLine
  rw [Bool.and_eq_true, bne_iff_ne, Bool.not_eq_true']

theorem loseFlight_eq (s : State) (f : Flight) : loseFlight s f = s.frameLost f := by
  unfold loseFlight State.frameLost LineUnit.lose
  dsimp only
  cases withdrawn : f.withdrawn with
  | true => cases f.slot <;> rfl
  | false =>
    rw [if_neg Bool.false_ne_true, if_neg Bool.false_ne_true]
    cases waits : s.line.slots.get f.slot with
    | none => rw [if_pos rfl]
    | some g => rw [if_neg (Option.some_ne_none g)]

theorem LineUnit.sending_of_flight {l : LineUnit} (flight : l.flight = some f) (going : f.ended = false) :
    l.sending = some (f, f.placed.frame.cells) := by
  unfold LineUnit.sending
  rw [flight]
  exact if_neg (by rw [going]; exact Bool.false_ne_true)

theorem LineUnit.sending_of_ended {l : LineUnit} (ended : ∀ f, l.flight = some f → f.ended = true) :
    l.sending = none := by
  unfold LineUnit.sending
  cases flight : l.flight with
  | none => rfl
  | some f => exact if_pos (ended f flight)

theorem loseSending_eq (s : State) (f : Flight) (sent : Bool) : loseSending s f sent =
    { s with line := { s.line with counters :=
      if sent then
        { s.line.counters with arbitrationLosses := min (s.line.counters.arbitrationLosses + 1) 4294967295 }
      else { s.line.counters with readbackFaults := min (s.line.counters.readbackFaults + 1) 4294967295 } } }.frameLost
        f := by
  unfold loseSending
  rw [loseFlight_eq]
  rfl

theorem loseWhere_of_collecting {read : List Bool} (flight : s.line.flight = some f) (going : f.ended = false)
    (holds : f.placed.frame.cells[cell]? = some sent) (reads : s.line.reception = .collecting read)
    (behind : read.length ≤ cell) : loseWhere s cell sent = loseAtCell s f f.placed.frame.cells cell sent := by
  unfold loseWhere
  rw [LineUnit.sending_of_flight flight going, reads]
  exact (if_pos holds).trans (if_pos behind)

theorem loseWhere_of_stuck (flight : s.line.flight = some f) (going : f.ended = false)
    (holds : f.placed.frame.cells[cell]? = some sent) (stuck : s.line.state = .stuck) (off : s.line.reception = .off)
    (late : 1 ≤ cell) : loseWhere s cell sent = loseSending s f sent := by
  unfold loseWhere
  rw [LineUnit.sending_of_flight flight going, off]
  exact (if_pos holds).trans (if_pos ⟨stuck, late⟩)

end Loss

/-- Settles O50: the loss at the cell that reads wrong, collected or not. -/
theorem wrongOwnCellLosesFrame : Obligations.WrongOwnCellLosesFrame := by
  intro f cell sent s flight going holds counted lostWith
  refine ⟨fun read reads behind => ?_, fun stuck off late => ?_⟩
  · intro lost
    have loses : loseAtCell s f f.placed.frame.cells cell sent = lost := loseSending_eq ..
    have at_ := (loseWhere_of_collecting flight going holds reads behind).trans loses
    refine ⟨fun one => ?_, fun zero => ?_, fun up awake busy here _ => ?_⟩
    · subst one; exact congrArg _ at_
    · subst zero; exact congrArg _ at_
    · show execFallingEdge (!sent) s = _
      unfold execFallingEdge
      rw [if_pos (State.tracksLine_iff.mpr ⟨up, awake⟩), busy]
      refine congrArg Host.Outcome.next ?_
      unfold edgeOnBusy
      rw [reads, LineUnit.sending_of_flight flight going, Bool.not_not]
      subst here
      exact (if_pos holds).trans loses
  · have at_ := (loseWhere_of_stuck flight going holds stuck off late).trans (loseSending_eq ..)
    have stays : { s.line with counters := counted, reception := .off } = { s.line with counters := counted } := by
      rw [← off]
    have lost : lostWith .off = { s with line := { s.line with counters := counted } }.frameLost f := by
      show State.frameLost { s with line := _ } f = _
      rw [stays]
    refine ⟨fun one => ?_, fun zero => ?_⟩
    · rw [lost]; subst one; exact congrArg _ at_
    · rw [lost]; subst zero; exact congrArg _ at_

/-! ### A falling edge (R103, R104, R109) -/

section Edge
variable {s : State} {sample : Bool}

theorem execFallingEdge_of_tracking (up : s.loader.phase ≠ .held) (awake : s.thermal.shutdown = false) :
    execFallingEdge sample s =
      match s.line.state with
      | .idle => .next (edgeOnIdle s sample)
      | .busy => .next (edgeOnBusy s sample)
      | .stuck => .next s := if_pos (State.tracksLine_iff.mpr ⟨up, awake⟩)

theorem edgeOnIdle_of_idle (stays : trySend s = s) (idle : s.line.state = .idle) : edgeOnIdle s sample =
    { s with line := { s.line with state := .busy, reception := if sample then .noise else .collecting [false] } } := by
  unfold edgeOnIdle
  rw [stays]
  exact if_pos idle

theorem edgeOnIdle_of_starting (starts : (trySend s).line.state = .busy) : edgeOnIdle s sample = trySend s :=
  if_neg (by rw [starts]; decide)

theorem edgeOnBusy_of_other (other : s.line.reception = .off ∨ s.line.reception = .noise) :
    edgeOnBusy s sample = s := by
  unfold edgeOnBusy
  obtain off | noise := other
  · rw [off]
  · rw [noise]

/-- A cell that reads as the frame in flight holds it, or finds none being sent, is collected. -/
theorem edgeOnBusy_of_matching {read : List Bool} (reads : s.line.reception = .collecting read)
    (agrees : ∀ f, s.line.flight = some f → f.ended = false → f.placed.frame.cells[read.length]? ≠ some (!sample)) :
    edgeOnBusy s sample = { s with line := { s.line with reception := .collecting (read ++ [sample]) } } := by
  unfold edgeOnBusy
  rw [reads]
  dsimp only
  cases flight : s.line.flight with
  | none => rw [LineUnit.sending_of_ended fun f is => (Option.some_ne_none f (is.symm.trans flight)).elim]
  | some f =>
    cases ended : f.ended with
    | true =>
      rw [LineUnit.sending_of_ended fun g is => by rw [← Option.some.inj (flight.symm.trans is)]; exact ended]
    | false =>
      rw [LineUnit.sending_of_flight flight ended]
      exact if_neg (agrees f flight ended)

end Edge

/-- Settles O51: what the edge finds, by the line state and the reception. -/
theorem fallingEdgeBeginsOrCollects : Obligations.FallingEdgeBeginsOrCollects := by
  intro sample s
  refine ⟨fun idle => if_neg fun tracks => ?_, fun up awake => ?_⟩
  · obtain ⟨up, awake⟩ := State.tracksLine_iff.mp tracks
    obtain held | shut := idle
    · exact up held
    · exact Bool.false_ne_true (awake.symm.trans shut)
  have answer : exec (.fallingEdge sample) s = _ := execFallingEdge_of_tracking up awake
  refine ⟨fun idle stays => ?_, fun idle running free ⟨k, waits⟩ => ?_, fun read busy reads agrees => ?_,
    fun busy other => ?_, fun stuck => ?_⟩
  · have still : trySend s = s := by
      obtain loading | flies | empty := stays
      · refine if_neg fun may => ?_
        exact absurd (loading.symm.trans (State.working_iff.mp may.1).1) (by decide)
      · exact if_neg fun may => flies may.2.2
      · exact trySend_of_empty empty
    rw [answer, idle]
    exact congrArg _ (edgeOnIdle_of_idle still idle)
  · obtain ⟨⟨j, f⟩, chosen⟩ := Option.ne_none_iff_exists'.mp fun none_ =>
      waits (LineUnit.choose_eq_none_iff.mp none_ k)
    have starts := trySend_of_chosen ⟨State.working_iff.mpr ⟨running, awake⟩, idle, free⟩ chosen
    rw [answer, idle]
    exact congrArg _ (edgeOnIdle_of_starting (by rw [starts]; rfl))
  · rw [answer, busy]
    exact congrArg _ (edgeOnBusy_of_matching reads agrees)
  · rw [answer, busy]
    exact congrArg _ (edgeOnBusy_of_other other)
  · rw [answer, stuck]

/-! ### A frame leaves the line (R113, R132, R190) -/

section Leaves
variable {s : State} {x : Port} {f : Frame}

theorem sentLane_of_mark (marked : (s.elect x).slotMark = true) :
    sentLane s x f = s.updElect x fun e => { e with slotMark := false } := if_pos marked

/-- R132 (2): the sent CLAIM of a port that still claims. -/
theorem sentLane_of_claim (unmarked : (s.elect x).slotMark = false) (claim : f.kind = 2)
    (claims : (s.elect x).lane = .claiming) : sentLane s x f =
      s.updElect x fun e => { e with settle := .running 40, yieldWait := .running 200 } := by
  unfold sentLane
  dsimp only
  rw [if_neg (by rw [unmarked]; exact Bool.false_ne_true), if_pos claim]
  exact if_pos claims

/-- R142: the sent RELEASE(X, RESTART) that a port awaits. -/
theorem sentLane_of_release (unmarked : (s.elect x).slotMark = false) (release : f.kind = 1)
    (restart : f.body[1]? = some 3)
    (awaits : (s.elect x).releaseOut = true) :
    sentLane s x f = reportReleased (s.updElect x fun e => { e with releaseOut := false }) := by
  unfold sentLane
  dsimp only
  rw [if_neg (by rw [unmarked]; exact Bool.false_ne_true), if_neg (by rw [release]; decide)]
  refine if_pos ⟨release, ?_, awaits⟩
  rw [List.getD_eq_getElem?_getD, restart]
  rfl

theorem sentLane_of_nothing (unmarked : (s.elect x).slotMark = false)
    (nothing : f.kind = 0 ∨ (f.kind = 2 ∧ (s.elect x).lane ≠ .claiming) ∨
      (f.kind = 1 ∧ (f.body[1]? ≠ some 3 ∨ (s.elect x).releaseOut = false))) : sentLane s x f = s := by
  unfold sentLane
  dsimp only
  rw [if_neg (by rw [unmarked]; exact Bool.false_ne_true)]
  obtain zero | ⟨claim, idle⟩ | ⟨release, other⟩ := nothing
  · rw [if_neg (by rw [zero]; decide)]
    exact if_neg fun both => absurd (zero.symm.trans both.1) (by decide)
  · rw [if_pos claim]
    exact if_neg idle
  · rw [if_neg (by rw [release]; decide)]
    refine if_neg fun ⟨_, restart, awaits⟩ => ?_
    obtain different | settled := other
    · refine different ?_
      rw [List.getD_eq_getElem?_getD] at restart
      cases byte1 : f.body[1]? with
      | none => rw [byte1] at restart; exact absurd restart (by decide)
      | some b =>
        rw [byte1] at restart
        exact congrArg some (BitVec.eq_of_toNat_eq restart)
    · exact Bool.false_ne_true (settled.symm.trans awaits)

/-- R142: whether the released report is due. -/
def State.reportDue (s : State) : Prop :=
  s.election.restarting = true ∧ s.election.reported = false ∧
    ∀ y, (s.elect y).lane ≠ .driving ∧ (s.elect y).lane ≠ .holding ∧ (s.elect y).releaseOut = false

theorem State.reportDue_iff : s.reportDue ↔ s.election.restarting = true ∧ s.election.reported = false ∧
    four.all (fun x => !(s.elect x).lane.drives && !(s.elect x).releaseOut) = true := by
  unfold State.reportDue
  refine and_congr_right fun _ => and_congr_right fun _ => ?_
  rw [List.all_eq_true]
  have each (y : Port) : (!(s.elect y).lane.drives && !(s.elect y).releaseOut) = true ↔
      (s.elect y).lane ≠ .driving ∧ (s.elect y).lane ≠ .holding ∧ (s.elect y).releaseOut = false := by
    rw [Bool.and_eq_true, Bool.not_eq_true', Bool.not_eq_true', ← Bool.not_eq_true, LaneState.drives_iff, not_or,
      and_assoc]
  exact ⟨fun all y _ => (each y).mpr (all y), fun all y => (each y).mp (all y (mem_four y))⟩

theorem reportReleased_of_due (due : s.reportDue) : reportReleased s =
    { s with
      election := { s.election with reported := true }
      loader := { s.loader with releasedReport := true } } := if_pos (State.reportDue_iff.mp due)

theorem reportReleased_of_not_due (not_ : ¬ s.reportDue) : reportReleased s = s :=
  if_neg fun due => not_ (State.reportDue_iff.mpr due)

theorem sentReport_of_next {r : Reply} (reply : s.reply = some r) (more : 31 * (r.part + 1) < r.content.length) :
    sentReport s r.serial = placePart s r.page r.content (r.part + 1) := by
  unfold sentReport
  rw [reply]
  exact (if_pos rfl).trans (if_pos more)

theorem sentReport_of_last {r : Reply} (reply : s.reply = some r) (done : r.content.length ≤ 31 * (r.part + 1)) :
    sentReport s r.serial = { s with reply := none } := by
  unfold sentReport
  rw [reply]
  exact (if_pos rfl).trans (if_neg (not_lt.mpr done))

theorem sentReport_of_other {serial : Nat} (other : ∀ r, s.reply = some r → r.serial ≠ serial) :
    sentReport s serial = s := by
  unfold sentReport
  cases reply : s.reply with
  | none => rfl
  | some r => exact if_neg (other r reply)

theorem execFrameLeavesLine_of_ended {g : Flight} (flight : s.line.flight = some g) (ended : g.ended = true) :
    execFrameLeavesLine s = .next (trySend (sendNotice { s with line := { s.line with flight := none } } g)) := by
  unfold execFrameLeavesLine
  rw [flight]
  exact if_pos ended

end Leaves

/-- Settles O52: the sent notice of the slot that the frame came from. -/
theorem sentFrameIsToldToItsOwner : Obligations.SentFrameIsToldToItsOwner := by
  intro f s flight left
  refine ⟨fun going => ?_, fun ended => ?_⟩
  · show execFrameLeavesLine s = _
    unfold execFrameLeavesLine
    rw [flight]
    exact if_neg (by rw [going]; exact Bool.false_ne_true)
  have answer : exec .frameLeavesLine s = .next (trySend (sendNotice left f)) := execFrameLeavesLine_of_ended flight
    ended
  have told {t : State} (tells : sendNotice left f = t) : exec .frameLeavesLine s = .next (trySend t) := by
    rw [answer, tells]
  refine ⟨fun announce => told (by unfold sendNotice; rw [announce]), fun x lane => ?_, fun report =>
    ⟨fun r reply same => ?_, fun other => ?_⟩⟩
  · have lanes : sendNotice left f = sentLane left x f.placed.frame := by unfold sendNotice; rw [lane]
    refine ⟨fun marked => told (lanes.trans (sentLane_of_mark (s := left) marked)),
      fun unmarked claim claims => told (lanes.trans (sentLane_of_claim (s := left) unmarked claim claims)),
      fun unmarked nothing => told (lanes.trans (sentLane_of_nothing (s := left) unmarked nothing)),
      fun unmarked release restart awaits => ?_⟩
    intro settled last
    have settles := lanes.trans (sentLane_of_release (s := left) unmarked release restart awaits)
    have due : settled.reportDue ↔ last := by
      refine and_congr_right fun _ => and_congr_right fun _ => forall_congr' fun y => ?_
      by_cases here : y = x
      · subst here
        rw [State.elect_updElect_self]
        exact ⟨fun ⟨d, h, _⟩ => ⟨d, h, fun other => absurd rfl other⟩, fun ⟨d, h, _⟩ => ⟨d, h, rfl⟩⟩
      · rw [State.elect_updElect_of_ne _ _ here]
        exact ⟨fun ⟨d, h, o⟩ => ⟨d, h, fun _ => o⟩, fun ⟨d, h, o⟩ => ⟨d, h, o here⟩⟩
    exact ⟨fun is => told (settles.trans (reportReleased_of_due (due.mpr is))),
      fun not_ => told (settles.trans (reportReleased_of_not_due fun is => not_ (due.mp is)))⟩
  · have reports : sendNotice left f = sentReport left r.serial := by unfold sendNotice; rw [report, same]
    exact ⟨fun more => told (reports.trans (sentReport_of_next (s := left) reply more)),
      fun done => told (reports.trans (sentReport_of_last (s := left) reply done))⟩
  · have reports : sendNotice left f = sentReport left f.placed.serial := by unfold sendNotice; rw [report]
    exact told (reports.trans (sentReport_of_other (s := left) other))

end Sys2Proof.Machine
end

section
/-!
Withdrawals at several ports (R116, R135 (5), R142), and what a move of every port that goes with them leaves.
-/
namespace Sys2Proof.Machine

/-! ### One withdrawal -/

section One
variable {s : State} {x y : Port}

/-- The frame in flight is of a port's lane slot. -/
def LineUnit.flies (l : LineUnit) (x : Port) : Bool := l.flight.any fun g => g.slot == .lane x

/-- What a withdrawal leaves of the line unit. -/
def LineUnit.withdrawLane (l : LineUnit) (x : Port) : LineUnit :=
  { l with
    slots := l.slots.set (.lane x) none
    retry := if l.retry = some (.lane x) then none else l.retry
    flight := l.flight.map fun g => if g.slot = .lane x then { g with withdrawn := true } else g }

/-- A change of a port's election that changes nothing. -/
theorem State.updElect_of_id {f : PortElection → PortElection} (same : f (s.elect x) = s.elect x) :
    s.updElect x f = s :=
  congrArg (fun q => { s with election := { s.election with ports := q } })
    ((congrArg (s.election.ports.set x) same).trans (Quad.set_get ..))

theorem withdrawFrame_eq (s : State) (x : Port) : withdrawFrame s x =
    { s with line := s.line.withdrawLane x }.updElect x fun e =>
      { e with slotMark := e.slotMark || s.line.flies x } := by
  obtain ⟨g, flight, own⟩ | other := s.flight_cases x
  · have flies : s.line.flies x = true := by unfold LineUnit.flies; rw [flight]; exact beq_iff_eq.mpr own
    have withdrawn : (s.line.flight.map fun g => if g.slot = .lane x then { g with withdrawn := true } else g) =
        some { g with withdrawn := true } := by rw [flight]; exact congrArg some (if_pos own)
    rw [withdrawFrame_of_own flight own, LineUnit.withdrawLane, withdrawn, flies]
    exact State.updElect_congr _ _ (by rw [Bool.or_true])
  · have flies : s.line.flies x = false := by
      unfold LineUnit.flies
      cases flight : s.line.flight with
      | none => rfl
      | some g => exact beq_eq_false_iff_ne.mpr (other g flight)
    have still : (s.line.flight.map fun g => if g.slot = .lane x then { g with withdrawn := true } else g) =
        s.line.flight := by
      cases flight : s.line.flight with
      | none => rfl
      | some g => exact congrArg some (if_neg (other g flight))
    rw [withdrawFrame_of_other other, LineUnit.withdrawLane, still, flies]
    exact (State.updElect_of_id (by rw [Bool.or_false])).symm

theorem elect_withdrawFrame_self (s : State) (x : Port) :
    (withdrawFrame s x).elect x = { s.elect x with slotMark := (s.elect x).slotMark || s.line.flies x } := by
  rw [withdrawFrame_eq, State.elect_updElect_self]
  rfl

theorem elect_withdrawFrame_of_ne (other : y ≠ x) : (withdrawFrame s x).elect y = s.elect y := by
  rw [withdrawFrame_eq, State.elect_updElect_of_ne _ _ other]
  rfl

theorem line_withdrawFrame (s : State) (x : Port) : (withdrawFrame s x).line = s.line.withdrawLane x := by
  rw [withdrawFrame_eq]
  rfl

theorem rest_withdrawFrame (s : State) (x : Port) : withdrawFrame s x =
    { s with
      line := (withdrawFrame s x).line
      election := { s.election with ports := (withdrawFrame s x).election.ports } } := by
  rw [withdrawFrame_eq]
  rfl

theorem LineUnit.flies_withdrawLane (l : LineUnit) (x y : Port) : (l.withdrawLane x).flies y = l.flies y := by
  unfold LineUnit.flies LineUnit.withdrawLane
  cases l.flight with
  | none => rfl
  | some g =>
    show ((if g.slot = .lane x then { g with withdrawn := true } else g : Flight).slot == _) = _
    split <;> rfl

end One

/-! ### Withdrawals at several ports -/

section All
variable {claims : Port → Prop} [DecidablePred claims] {s : State} {ports : List Port} {x : Port} {k : TxSlot}

/-- The withdrawals at the ports that claim, one after another. -/
def withdrawAll (claims : Port → Prop) [DecidablePred claims] (ports : List Port) (s : State) : State :=
  ports.foldl (fun u x => if claims x then withdrawFrame u x else u) s

theorem withdrawAll_cons : withdrawAll claims (x :: ports) s =
    withdrawAll claims ports (if claims x then withdrawFrame s x else s) := rfl

theorem rest_withdrawAll : ∀ (ports : List Port) (s : State), withdrawAll claims ports s =
    { s with
      line := (withdrawAll claims ports s).line
      election := { s.election with ports := (withdrawAll claims ports s).election.ports } }
  | [], s => rfl
  | x :: ports, s => by
    rw [withdrawAll_cons, rest_withdrawAll ports]
    split
    · rw [rest_withdrawFrame s x]
    · rfl

theorem line_withdrawAll : ∀ (ports : List Port) (s : State), (withdrawAll claims ports s).line =
    { (withdrawAll claims ports s).line with
      state := s.line.state, reception := s.line.reception, counters := s.line.counters }
  | [], s => rfl
  | x :: ports, s => by
    rw [withdrawAll_cons, line_withdrawAll ports]
    split
    · rw [line_withdrawFrame]
      rfl
    · rfl

theorem slots_withdrawAll_of_claims (member : x ∈ ports) (claim : claims x) :
    (withdrawAll claims ports s).line.slots.get (.lane x) = none := by
  have keeps : ∀ (ports : List Port) (s : State), s.line.slots.get (.lane x) = none →
      (withdrawAll claims ports s).line.slots.get (.lane x) = none := by
    intro ports
    induction ports with
    | nil => exact fun _ => id
    | cons y ports ih =>
      intro s empty
      rw [withdrawAll_cons]
      refine ih _ ?_
      split
      · by_cases same : y = x
        · subst same
          exact withdrawFrame_slot s y
        · rw [line_withdrawFrame]
          exact (TxSlots.get_set_of_ne _ _ fun is => same (TxSlot.lane.inj is).symm).trans empty
      · exact empty
  induction ports generalizing s with
  | nil => exact absurd member List.not_mem_nil
  | cons y ports ih =>
    rcases List.mem_cons.mp member with rfl | later
    · rw [withdrawAll_cons, if_pos claim]
      exact keeps _ _ (withdrawFrame_slot s x)
    · exact ih later

theorem slots_withdrawAll_of_other (other : ∀ x ∈ ports, claims x → k ≠ .lane x) :
    (withdrawAll claims ports s).line.slots.get k = s.line.slots.get k := by
  induction ports generalizing s with
  | nil => rfl
  | cons y ports ih =>
    rw [withdrawAll_cons, ih fun x member => other x (List.mem_cons_of_mem _ member)]
    split
    next claim =>
      rw [line_withdrawFrame]
      exact TxSlots.get_set_of_ne _ _ (other y List.mem_cons_self claim)
    next => rfl

theorem retry_withdrawAll_of_other (marked : s.line.retry = some k) (other : ∀ x ∈ ports, claims x → k ≠ .lane x) :
    (withdrawAll claims ports s).line.retry = some k := by
  induction ports generalizing s with
  | nil => exact marked
  | cons y ports ih =>
    rw [withdrawAll_cons]
    refine ih ?_ fun x member => other x (List.mem_cons_of_mem _ member)
    split
    next claim =>
      rw [line_withdrawFrame, LineUnit.withdrawLane]
      exact (if_neg fun same => other y List.mem_cons_self claim (Option.some.inj (marked.symm.trans same))).trans
        marked
    next => exact marked

theorem flight_withdrawAll : (withdrawAll claims ports s).line.flight = s.line.flight.map fun g =>
    { g with withdrawn := g.withdrawn || ports.any fun x => decide (claims x ∧ g.slot = .lane x) } := by
  induction ports generalizing s with
  | nil =>
    show s.line.flight = _
    cases s.line.flight with
    | none => rfl
    | some g => exact congrArg some (by dsimp only; rw [List.any_nil, Bool.or_false])
  | cons y ports ih =>
    rw [withdrawAll_cons, ih]
    split
    next claim =>
      rw [line_withdrawFrame, LineUnit.withdrawLane, Option.map_map]
      refine congrArg (fun h => Option.map h s.line.flight) (funext fun g => ?_)
      rw [Function.comp_apply, List.any_cons]
      by_cases own : g.slot = .lane y
      · rw [if_pos own, decide_eq_true ⟨claim, own⟩, Bool.true_or, Bool.or_true]
      · rw [if_neg own, decide_eq_false fun both => own both.2, Bool.false_or]
    next quiet =>
      refine congrArg (fun h => Option.map h s.line.flight) (funext fun g => ?_)
      rw [List.any_cons, decide_eq_false fun both => quiet both.1, Bool.false_or]

theorem elect_withdrawAll : (withdrawAll claims ports s).elect x =
    { s.elect x with slotMark := (s.elect x).slotMark || (decide (x ∈ ports ∧ claims x) && s.line.flies x) } := by
  induction ports generalizing s with
  | nil =>
    rw [decide_eq_false fun both => absurd both.1 List.not_mem_nil, Bool.false_and, Bool.or_false]
    rfl
  | cons y ports ih =>
    rw [withdrawAll_cons, ih]
    by_cases claim : claims y
    · rw [if_pos claim, line_withdrawFrame, LineUnit.flies_withdrawLane]
      by_cases here : x = y
      · subst here
        rw [elect_withdrawFrame_self, decide_eq_true (p := x ∈ x :: ports ∧ claims x) ⟨List.mem_cons_self, claim⟩]
        cases (s.elect x).slotMark <;> cases s.line.flies x <;> simp
      · rw [elect_withdrawFrame_of_ne here]
        simp only [List.mem_cons, here, false_or]
    · rw [if_neg claim]
      by_cases here : x = y
      · subst here
        rw [decide_eq_false fun both => claim both.2, decide_eq_false fun both => claim both.2]
      · simp only [List.mem_cons, here, false_or]

end All

/-! ### A move of every port that goes with the withdrawals -/

section Moves
variable {claims : Port → Prop} [DecidablePred claims] {f : Port → PortElection → PortElection}
  {g : Port → PortUnit → PortUnit} {move : State → Port → State} {base v u : State}

/-- A state `u` reached from `base` by moving the ports of a list, beside the state `v` that the withdrawals alone have
reached from a state that stands as `base` but for the line's own state. -/
structure State.MovesWith (f : Port → PortElection → PortElection) (g : Port → PortUnit → PortUnit) (base : State)
    (moved : List Port) (v u : State) : Prop where
  line : u.line = { v.line with
    state := base.line.state, reception := base.line.reception, counters := base.line.counters }
  elect : ∀ x, u.elect x = if x ∈ moved then f x (v.elect x) else v.elect x
  port : ∀ x, u.port x = if x ∈ moved then g x (base.port x) else base.port x
  rest : u = { base with
    line := u.line, election := { base.election with ports := u.election.ports }, ports := u.ports }

theorem State.MovesWith.start (line : base.line = { v.line with
    state := base.line.state, reception := base.line.reception, counters := base.line.counters })
    (elect : ∀ x, base.elect x = v.elect x) : State.MovesWith f g base [] v base :=
  ⟨line, elect, fun _ => rfl, rfl⟩

theorem State.MovesWith.step {moved : List Port} {x : Port} (moves : State.MovesWith f g base moved v u)
    (fresh : x ∉ moved)
    (is : move u x = ((if claims x then withdrawFrame u x else u).updElect x (f x)).updPort x (g x)) :
    State.MovesWith f g base (x :: moved) (if claims x then withdrawFrame v x else v) (move u x) := by
  obtain ⟨line, elect, port, rest⟩ := moves
  rw [is]
  have flies : u.line.flies x = v.line.flies x := by rw [line]; rfl
  have here : u.elect x = v.elect x := (elect x).trans (if_neg fresh)
  have standing : (if claims x then withdrawFrame u x else u).elect x = (if claims x then withdrawFrame v x else
    v).elect x := by
    split
    · rw [elect_withdrawFrame_self, elect_withdrawFrame_self, here, flies]
    · exact here
  have ports : (if claims x then withdrawFrame u x else u).ports = u.ports := by
    split
    · rw [rest_withdrawFrame]
    · rfl
  refine ⟨?_, fun y => ?_, fun y => ?_, ?_⟩
  · show (if claims x then withdrawFrame u x else u).line = _
    split
    · rw [line_withdrawFrame, line_withdrawFrame, line]
      rfl
    · exact line
  · show (State.updElect _ x (f x)).elect y = _
    by_cases same : y = x
    · subst same
      rw [State.elect_updElect_self, standing, if_pos List.mem_cons_self]
    · rw [State.elect_updElect_of_ne _ _ same]
      simp only [List.mem_cons, same, false_or]
      split
      · rw [elect_withdrawFrame_of_ne same, elect_withdrawFrame_of_ne same]
        exact elect y
      · exact elect y
  · have start : ((if claims x then withdrawFrame u x else u).updElect x (f x)).port y = u.port y :=
      congrArg (fun q => Quad.get q y) ports
    by_cases same : y = x
    · subst same
      rw [State.port_updPort_self, start, port y, if_neg fresh, if_pos List.mem_cons_self]
    · rw [State.port_updPort_of_ne _ _ same, start, port y]
      simp only [List.mem_cons, same, false_or]
  · have withdrawn : (if claims x then withdrawFrame u x else u) = { base with
        line := (if claims x then withdrawFrame u x else u).line
        election := { base.election with ports := (if claims x then withdrawFrame u x else u).election.ports }
        ports := u.ports } := by
      split
      · rw [rest_withdrawFrame u x, rest]
      · exact rest
    rw [withdrawn]
    rfl

theorem State.MovesWith.foldl {ports : List Port} : ∀ {moved : List Port} {v u : State},
    State.MovesWith f g base moved v u →
    (∀ x ∈ ports, x ∉ moved) → ports.Nodup → (∀ x, ∃ b, v.elect x = { base.elect x with slotMark := b }) →
    (∀ t x b, t.elect x = { base.elect x with slotMark := b } →
      move t x = ((if claims x then withdrawFrame t x else t).updElect x (f x)).updPort x (g x)) →
    State.MovesWith f g base (ports.reverse ++ moved) (withdrawAll claims ports v) (ports.foldl move u) := by
  induction ports with
  | nil => exact fun moves _ _ _ _ => moves
  | cons x ports ih =>
    intro moved v u moves fresh nodup same is
    obtain ⟨alone, nodup⟩ := List.nodup_cons.mp nodup
    have new := fresh x List.mem_cons_self
    obtain ⟨b, stands⟩ := same x
    have next := moves.step new (is u x b ((moves.elect x).trans ((if_neg new).trans stands)))
    rw [List.reverse_cons, List.append_assoc, withdrawAll_cons, List.foldl_cons]
    refine ih next (fun y member both => ?_) nodup (fun y => ?_) is
    · rcases List.mem_cons.mp both with rfl | old
      · exact alone member
      · exact fresh y (List.mem_cons_of_mem _ member) old
    · obtain ⟨b, stands⟩ := same y
      split
      · by_cases here : y = x
        · subst here
          exact ⟨_, by rw [elect_withdrawFrame_self, stands]⟩
        · exact ⟨b, by rw [elect_withdrawFrame_of_ne here, stands]⟩
      · exact ⟨b, stands⟩

/-- Every port moved once, beside the withdrawals that go with it. -/
theorem movesWith_four (line : base.line = { v.line with
      state := base.line.state, reception := base.line.reception, counters := base.line.counters })
    (elect : ∀ x, base.elect x = v.elect x)
    (is : ∀ t x b, t.elect x = { base.elect x with slotMark := b } →
      move t x = ((if claims x then withdrawFrame t x else t).updElect x (f x)).updPort x (g x)) :
    (four.foldl move base).line = { (withdrawAll claims four v).line with
      state := base.line.state, reception := base.line.reception, counters := base.line.counters } ∧
    (∀ x, (four.foldl move base).elect x = f x ((withdrawAll claims four v).elect x)) ∧
    (∀ x, (four.foldl move base).port x = g x (base.port x)) ∧
    four.foldl move base = { base with
      line := (four.foldl move base).line
      election := { base.election with ports := (four.foldl move base).election.ports }
      ports := (four.foldl move base).ports } := by
  have moves : State.MovesWith f g base (four.reverse ++ []) (withdrawAll claims four v) (four.foldl move base) :=
    State.MovesWith.foldl (.start line elect) (fun _ _ => List.not_mem_nil) (by decide)
      (fun x => ⟨(v.elect x).slotMark, by rw [elect x]⟩) is
  have all (x : Port) : x ∈ four.reverse ++ [] := by revert x; decide
  exact ⟨moves.line, fun x => (moves.elect x).trans (if_pos (all x)), fun x => (moves.port x).trans (if_pos (all x)),
    moves.rest⟩

end Moves

end Sys2Proof.Machine
end

section
/-!
The ports when a line restart begins and when the line becomes stuck (R104, R109, R114, R135, R142, R144): O54 and O49.
-/
namespace Sys2Proof.Machine

section Sends
variable {s t : State}

/-- What starts on the line is settled by the line and by whether the station works. -/
theorem line_trySend_congr (works : s.working = t.working) (line : s.line = t.line) :
    (trySend s).line = (trySend t).line := by
  unfold trySend
  rw [works, line]
  split
  · cases t.line.choose with
    | none => exact line
    | some q => rfl
  · exact line

theorem rest_trySend (s : State) : trySend s = { s with line := (trySend s).line } := by
  obtain ⟨l, same⟩ := trySend_only s
  rw [same]

theorem elect_trySend (s : State) (x : Port) : (trySend s).elect x = s.elect x := by
  rw [rest_trySend]
  rfl

/-- No frame starts beside one in flight. -/
theorem trySend_of_flight {g : Flight} (flight : s.line.flight = some g) : trySend s = s :=
  if_neg fun may => Option.some_ne_none g (flight.symm.trans may.2.2)

/-- An empty slot stays empty when a frame starts. -/
theorem slots_trySend_of_none {k : TxSlot} (empty : s.line.slots.get k = none) :
    (trySend s).line.slots.get k = none := by
  obtain ⟨-, -, -, j, f, -, same⟩ | same := trySend_cases s
  · rw [same]
    show (s.line.slots.set j none).get k = none
    by_cases here : k = j
    · subst here; exact TxSlots.get_set_self ..
    · exact (TxSlots.get_set_of_ne _ _ here).trans empty
  · rw [same]
    exact empty

end Sends

/-! ### The beginning of a line restart (R142, R185) -/

section Restart
variable {s : State} {x : Port}

/-- What the beginning of a line restart makes of a port's election. -/
def PortElection.restarted (e : PortElection) : PortElection :=
  if e.lane.drives then { e with mark := some .restart, holdTimer := none } else e.moveTo .disabled

/-- What it makes of the port. -/
def PortUnit.restarted (e : PortElection) (u : PortUnit) : PortUnit :=
  if e.lane.drives = true ∧ e.mark = none then u.finish else u

theorem PortElection.restarted_of_drives {e : PortElection} (drives : e.lane.drives = true) :
    e.restarted = { e with mark := some .restart, holdTimer := none } := if_pos drives

theorem PortElection.restarted_of_idle {e : PortElection} (idle : e.lane.drives = false) :
    e.restarted = e.moveTo .disabled :=
  if_neg (by rw [idle]; exact Bool.false_ne_true)

theorem PortUnit.restarted_of_idle {e : PortElection} {u : PortUnit} (idle : e.lane.drives = false) :
    PortUnit.restarted e u = u := if_neg fun both => Bool.false_ne_true (idle.symm.trans both.1)

theorem restartPort_of_drives (drives : (s.elect x).lane.drives = true) : restartPort s x =
    (s.updElect x PortElection.restarted).updPort x (PortUnit.restarted (s.elect x)) := by
  have is : restartPort s x = if (s.elect x).mark = none then markAndFinish s x .restart
      else s.updElect x fun e => { e with mark := some .restart, holdTimer := none } := by
    unfold restartPort
    dsimp only
    obtain driving | holding := LaneState.drives_iff.mp drives
    · rw [driving]
    · rw [holding]
  rw [is, State.updElect_congr s x (f := PortElection.restarted)
    (g := fun e => { e with mark := some .restart, holdTimer := none }) (PortElection.restarted_of_drives drives)]
  split
  next unmarked => exact State.updPort_congr _ _ (if_pos ⟨drives, unmarked⟩).symm
  next marked => exact (State.updPort_of_id (if_neg fun both => marked both.2)).symm

theorem restartPort_of_idle (idle : (s.elect x).lane.drives = false) : restartPort s x =
    ((if (s.elect x).lane = .claiming then withdrawFrame s x else s).updElect x PortElection.restarted).updPort x
      (PortUnit.restarted (s.elect x)) := by
  have is : restartPort s x =
      (if (s.elect x).lane = .claiming then withdrawFrame s x else s).updElect x fun e => e.moveTo .disabled := by
    unfold restartPort withdrawClaim
    dsimp only
    cases lane : (s.elect x).lane with
    | driving => rw [lane] at idle; exact absurd idle.symm Bool.false_ne_true
    | holding => rw [lane] at idle; exact absurd idle.symm Bool.false_ne_true
    | _ => rfl
  rw [is, State.updPort_of_id (PortUnit.restarted_of_idle idle)]
  refine (State.updElect_congr _ _ (PortElection.restarted_of_idle ?_)).symm
  split
  · rw [elect_withdrawFrame_self]; exact idle
  · exact idle

theorem restartPort_eq : restartPort s x =
    ((if (s.elect x).lane = .claiming then withdrawFrame s x else s).updElect x PortElection.restarted).updPort x
      (PortUnit.restarted (s.elect x)) := by
  cases drives : (s.elect x).lane.drives with
  | false => exact restartPort_of_idle drives
  | true =>
    rw [if_neg fun claims => by rw [claims] at drives; exact Bool.false_ne_true drives]
    exact restartPort_of_drives drives

/-- No port drives, and none awaits the sent notice of its RELEASE. -/
def State.allReleased (s : State) : Bool := four.all fun x => !(s.elect x).lane.drives && !(s.elect x).releaseOut

/-- The released report of a station that has just entered a line restart. -/
theorem reportReleased_of_restarting (restarting : s.election.restarting = true) (fresh : s.election.reported = false) :
    reportReleased s = { s with
      election := { s.election with reported := s.allReleased }
      loader := { s.loader with releasedReport := s.loader.releasedReport || s.allReleased } } := by
  unfold reportReleased
  cases released : s.allReleased with
  | true => rw [if_pos ⟨restarting, fresh, released⟩, Bool.or_true]
  | false =>
    rw [if_neg fun all => Bool.false_ne_true (released.symm.trans all.2.2), Bool.or_false, ← fresh]

end Restart

/-- Settles O54: every port moved with the withdrawals of the claiming ones, then the report. -/
theorem restartFrameReleasesLanes : Obligations.RestartFrameReleasesLanes := by
  intro f rest s running awake heard is taken
  have hears : s.Hears f rest := ⟨running, awake, heard⟩
  refine ⟨fun ignored => congrArg Host.Outcome.next ?_, fun own free => ?_⟩
  · by_cases own : f.station = s.loader.stationNumber
    · refine (hears.addressed is own).trans (congrArg trySend ?_)
      exact if_pos (ignored.resolve_left fun other => other own)
    · exact hears.notAddressed is own
  intro withdrawn
  -- the station as the loader and the election unit enter the restart, before the ports move
  generalize basing : ({ taken with
    loader := { s.loader with releasing := true, releaseLimit := some 20 }
    election := { s.election with restarting := true, reported := false } } : State) = base
  have elects (x : Port) : base.elect x = s.elect x := by rw [← basing]; rfl
  have moves := movesWith_four (claims := fun x => (s.elect x).lane = .claiming) (v := taken) (base := base)
    (move := restartPort) (f := fun _ => PortElection.restarted) (g := fun x => PortUnit.restarted (s.elect x))
    (by rw [← basing]) elects fun t x b stands => by
      rw [restartPort_eq, stands, elects]
      rfl
  have answer : exec .restartFrame s = .next (trySend (reportReleased (four.foldl restartPort base))) := by
    refine congrArg Host.Outcome.next ((hears.addressed is own).trans (congrArg trySend ?_))
    rw [← basing]
    exact if_neg (by rw [show (s.tookHeard rest).loader.releasing = _ from free]; exact Bool.false_ne_true)
  generalize four.foldl restartPort base = moved at moves answer
  obtain ⟨line, elect, port, only⟩ := moves
  have marks (x : Port) : withdrawn.elect x = { s.elect x with slotMark := (withdrawn.elect x).slotMark } := by
    rw [show withdrawn = withdrawAll (fun x => (s.elect x).lane = .claiming) four taken from rfl, elect_withdrawAll]
    rfl
  have lines : moved.line = withdrawn.line := by
    rw [line, ← basing]
    exact (line_withdrawAll (claims := fun x => (s.elect x).lane = .claiming) four taken).symm
  have lanes (x : Port) : (withdrawn.elect x).lane = (s.elect x).lane := by rw [marks]
  have elect (x : Port) : moved.elect x = (withdrawn.elect x).restarted := elect x
  have drives (x : Port) : (moved.elect x).lane.drives = (s.elect x).lane.drives := by
    rw [elect]
    cases drive : (s.elect x).lane.drives with
    | true => rw [PortElection.restarted_of_drives (by rw [lanes]; exact drive), lanes]; exact drive
    | false => rw [PortElection.restarted_of_idle (by rw [lanes]; exact drive)]; rfl
  have outs (x : Port) : (moved.elect x).releaseOut = (s.elect x).releaseOut := by
    rw [elect, show (s.elect x).releaseOut = (withdrawn.elect x).releaseOut by rw [marks]]
    unfold PortElection.restarted
    split <;> rfl
  have enters : moved.election.restarting = true ∧ moved.election.reported = false ∧
      moved.loader = { s.loader with releasing := true, releaseLimit := some 20 } ∧ moved.thermal = s.thermal ∧
      moved.election.peers = s.election.peers := by
    rw [only, ← basing]
    exact ⟨rfl, rfl, rfl, rfl, rfl⟩
  obtain ⟨restarting, fresh, loader, thermal, peers⟩ := enters
  rw [reportReleased_of_restarting restarting fresh] at answer
  generalize reporting : ({ moved with
    election := { moved.election with reported := moved.allReleased }
    loader := { moved.loader with releasedReport := moved.loader.releasedReport || moved.allReleased } } :
      State) = reported at answer
  have works : reported.working = withdrawn.working := by
    rw [show withdrawn = withdrawAll (fun x => (s.elect x).lane = .claiming) four taken from rfl, rest_withdrawAll]
    rw [← reporting]
    unfold State.working
    dsimp only
    rw [loader, thermal]
  have line : (trySend reported).line = (trySend withdrawn).line :=
    line_trySend_congr works (by rw [← reporting]; exact lines)
  have elects (x : Port) : (trySend reported).elect x = (withdrawn.elect x).restarted := by
    rw [elect_trySend, ← reporting]
    exact elect x
  have ports (x : Port) : (trySend reported).port x = PortUnit.restarted (s.elect x) (s.port x) := by
    rw [rest_trySend, ← reporting]
    rw [← show base.port x = s.port x by rw [← basing]; rfl]
    exact port x
  have all : moved.allReleased = four.all fun x =>
      (s.elect x).lane != .driving && (s.elect x).lane != .holding && !(s.elect x).releaseOut := by
    unfold State.allReleased
    refine congrArg four.all (funext fun x => ?_)
    rw [drives, outs]
    cases (s.elect x).lane <;> rfl
  have claimed (x : Port) (claims : (s.elect x).lane = .claiming) :
      decide (x ∈ four ∧ (s.elect x).lane = .claiming) = true := decide_eq_true ⟨mem_four x, claims⟩
  refine ⟨_, answer, ?_, fun x drive => ⟨?_, fun marked => ?_, fun unmarked => ?_⟩, line, fun x => ?_,
    fun x claims => ⟨?_, fun g flight lane => ⟨?_, ?_⟩⟩, fun x notDriving notHolding => ⟨?_, ?_⟩, ?_, ?_, ?_, ?_⟩
  · rw [rest_trySend, ← reporting]
    exact restarting
  · have still : withdrawn.elect x = s.elect x := by
      refine (elect_withdrawAll (claims := fun x => (s.elect x).lane = .claiming) (s := taken)
        (ports := four)).trans ?_
      have quiet : ¬ (x ∈ four ∧ (s.elect x).lane = .claiming) := fun both => by
        rw [both.2] at drive
        exact absurd drive (by decide)
      rw [decide_eq_false quiet, Bool.false_and, Bool.or_false]
      rfl
    rw [elects, still, PortElection.restarted_of_drives (LaneState.drives_iff.mpr drive)]
  · rw [ports]
    exact if_neg fun both => marked both.2
  · rw [ports]
    exact (if_pos ⟨LaneState.drives_iff.mpr drive, unmarked⟩).trans (PortUnit.finish_eq _)
  · rw [elects]
    unfold PortElection.restarted
    split <;> rfl
  · rw [line]
    exact slots_trySend_of_none (k := .lane x) (slots_withdrawAll_of_claims (mem_four x) claims)
  · have flies : withdrawn.line.flight = some { g with withdrawn := true } := by
      refine (flight_withdrawAll (claims := fun x => (s.elect x).lane = .claiming) (s := taken) (ports := four)).trans
        ?_
      rw [show taken.line.flight = some g from flight, Option.map_some]
      have claims : four.any (fun x => decide ((s.elect x).lane = .claiming ∧ g.slot = .lane x)) = true :=
        List.any_eq_true.mpr ⟨x, mem_four x, decide_eq_true ⟨claims, lane⟩⟩
      rw [claims, Bool.or_true]
    rw [line, trySend_of_flight flies, flies]
  · rw [elects]
    have slotMark : (withdrawn.elect x).slotMark = true := by
      refine (congrArg PortElection.slotMark
        (elect_withdrawAll (claims := fun x => (s.elect x).lane = .claiming) (s := taken) (ports := four))).trans ?_
      have flies : taken.line.flies x = true := by
        unfold LineUnit.flies
        rw [show taken.line.flight = some g from flight]
        exact beq_iff_eq.mpr lane
      dsimp only
      rw [claimed x claims, flies, Bool.true_and, Bool.or_true]
    unfold PortElection.restarted
    split <;> exact slotMark
  · have idle : (s.elect x).lane.drives = false := Bool.eq_false_iff.mpr fun drive =>
      (LaneState.drives_iff.mp drive).elim notDriving notHolding
    rw [elects, PortElection.restarted_of_idle (by rw [lanes]; exact idle), marks]
    rfl
  · rw [ports]
    exact PortUnit.restarted_of_idle (Bool.eq_false_iff.mpr fun drive =>
      (LaneState.drives_iff.mp drive).elim notDriving notHolding)
  · rw [rest_trySend, ← reporting]
    exact all
  · rw [rest_trySend, ← reporting]
    dsimp only
    rw [loader]
  · rw [rest_trySend, ← reporting]
    exact peers
  · rw [rest_trySend, ← reporting, only, ← basing]

end Sys2Proof.Machine
end

section
/-!
The line becomes stuck (R104, R109, R114, R135 (5), R144, R151): O49.
-/
namespace Sys2Proof.Machine

/-! ### What a lost frame leaves (R115, R116) -/

section Lost
variable {s : State} {f : Flight} {x : Port} {k : TxSlot}

theorem State.frameLost_cases (s : State) (f : Flight) :
    (f.withdrawn = true ∧ s.frameLost f = match f.slot with
      | .lane x => { s with line := { s.line with flight := none } }.updElect x fun e => { e with slotMark := false }
      | _ => { s with line := { s.line with flight := none } }) ∨
    (f.withdrawn = false ∧ s.line.slots.get f.slot = none ∧ s.frameLost f =
      { s with line := { s.line with
        flight := none, slots := s.line.slots.set f.slot (some f.placed), retry := some f.slot } }) ∨
    (f.withdrawn = false ∧ s.line.slots.get f.slot ≠ none ∧ s.frameLost f =
      { s with line := { s.line with flight := none } }) := by
  unfold State.frameLost
  cases withdrawn : f.withdrawn with
  | true => exact .inl ⟨rfl, by cases f.slot <;> rfl⟩
  | false =>
    by_cases waits : s.line.slots.get f.slot = none
    · exact .inr (.inl ⟨rfl, waits, by rw [if_neg Bool.false_ne_true, if_pos waits]⟩)
    · exact .inr (.inr ⟨rfl, waits, by rw [if_neg Bool.false_ne_true, if_neg waits]⟩)

/-- A loss touches the transmit slots, the retry mark, the frame in flight and the slot marks. -/
theorem State.frameLost_frame (s : State) (f : Flight) :
    (s.frameLost f).line.flight = none ∧ (∀ k, k ≠ f.slot → (s.frameLost f).line.slots.get k = s.line.slots.get k) ∧
      (s.frameLost f).line = { s.line with
        flight := (s.frameLost f).line.flight, slots := (s.frameLost f).line.slots,
          retry := (s.frameLost f).line.retry } ∧
      (∀ x, (s.frameLost f).elect x = { s.elect x with slotMark := ((s.frameLost f).elect x).slotMark }) ∧
      s.frameLost f = { s with
        line := (s.frameLost f).line
        election := { s.election with ports := (s.frameLost f).election.ports } } := by
  obtain ⟨-, same⟩ | ⟨-, -, same⟩ | ⟨-, -, same⟩ := s.frameLost_cases f
  · cases slot : f.slot with
    | lane x =>
      rw [slot] at same
      rw [same]
      refine ⟨rfl, fun _ _ => rfl, rfl, fun y => ?_, rfl⟩
      by_cases here : y = x
      · subst here
        rw [State.elect_updElect_self]
        rfl
      · rw [State.elect_updElect_of_ne _ _ here]
        rfl
    | announce => rw [slot] at same; rw [same]; exact ⟨rfl, fun _ _ => rfl, rfl, fun _ => rfl, rfl⟩
    | report => rw [slot] at same; rw [same]; exact ⟨rfl, fun _ _ => rfl, rfl, fun _ => rfl, rfl⟩
  · rw [same]
    exact ⟨rfl, fun k other => TxSlots.get_set_of_ne _ _ other, rfl, fun _ => rfl, rfl⟩
  · rw [same]
    exact ⟨rfl, fun _ _ => rfl, rfl, fun _ => rfl, rfl⟩

theorem State.frameLost_pending (kept : f.withdrawn = false) (empty : s.line.slots.get f.slot = none) :
    (s.frameLost f).line.slots.get f.slot = some f.placed ∧ (s.frameLost f).line.retry = some f.slot := by
  obtain ⟨withdrawn, -⟩ | ⟨-, -, same⟩ | ⟨-, waits, -⟩ := s.frameLost_cases f
  · exact absurd (kept.symm.trans withdrawn) Bool.false_ne_true
  · rw [same]
    exact ⟨TxSlots.get_set_self s.line.slots f.slot (some f.placed), rfl⟩
  · exact absurd empty waits

/-- The counters of the line take no part in a loss. -/
theorem State.frameLost_counters (s : State) (f : Flight) (c : LineCounters) :
    ({ s with line := { s.line with counters := c } } : State).frameLost f =
      { s.frameLost f with line := { (s.frameLost f).line with counters := c } } := by
  unfold State.frameLost
  dsimp only
  split
  · cases f.slot <;> rfl
  · split <;> rfl

end Lost

/-! ### The entry to STUCK -/

section Stuck
variable {s : State} {f : Flight} {x : Port}

/-- The cells collected so far. -/
def LineUnit.collected (l : LineUnit) : List Bool := match l.reception with | .collecting read => read | _ => []

/-- A frame still being sent with no 1 left behind the cells collected. -/
def LineUnit.losesNow (l : LineUnit) (f : Flight) : Bool :=
  !f.ended && decide (true ∉ f.placed.frame.cells.drop l.collected.length)

/-- The station once a frame that a stuck line leaves no 1 has been lost. -/
def State.lostToStuck (s : State) : State :=
  match s.line.flight with
  | some f => if s.line.losesNow f then s.frameLost f else s
  | none => s

/-- R114: the loss is counted as an arbitration loss. -/
theorem loseToStuck_eq (s : State) : (if s.line.hasOneLeft then s else loseToStuck s) =
    { s.lostToStuck with line := { s.lostToStuck.line with counters :=
      if (s.line.flight.any s.line.losesNow) then
        { s.line.counters with arbitrationLosses := min (s.line.counters.arbitrationLosses + 1) 4294967295 }
      else s.line.counters } } := by
  have quiet (none_ : s.line.sending = none) : (if s.line.hasOneLeft then s else loseToStuck s) = s := by
    unfold loseToStuck
    rw [none_]
    exact ite_self _
  unfold State.lostToStuck
  cases flight : s.line.flight with
  | none =>
    rw [quiet (LineUnit.sending_of_ended fun f is => (Option.some_ne_none f (is.symm.trans flight)).elim)]
    rfl
  | some f =>
    rw [Option.any_some]
    cases ended : f.ended with
    | true =>
      have stays : s.line.losesNow f = false := by unfold LineUnit.losesNow; rw [ended]; rfl
      rw [quiet (LineUnit.sending_of_ended fun g is => by rw [← Option.some.inj (flight.symm.trans is)]; exact ended)]
      dsimp only
      rw [stays]
      rfl
    | false =>
      have sending := LineUnit.sending_of_flight flight ended
      have left_ : s.line.hasOneLeft = !s.line.losesNow f := by
        unfold LineUnit.hasOneLeft LineUnit.losesNow LineUnit.collected
        dsimp only
        rw [sending, Option.any_some, ended, Bool.not_false, Bool.true_and, decide_not, Bool.not_not]
        exact List.contains_eq_mem ..
      rw [left_]
      dsimp only
      cases loses : s.line.losesNow f with
      | false => rfl
      | true =>
        unfold loseToStuck
        rw [sending]
        dsimp only
        rw [loseSending_eq]
        exact State.frameLost_counters ..

/-- What the entry to STUCK makes of a port's election. -/
def PortElection.unclaimed (e : PortElection) : PortElection := if e.lane = .claiming then e.moveTo .released else e

/-- The station as the line controller hands it to the election unit at the entry to STUCK, from the one that a loss
has left. -/
theorem cutReception_eq (s : State) : cutReception s = { s with line := { s.line with
    reception := .off
    counters := { s.line.counters with
      truncated := match s.line.reception with
        | .collecting _ => min (s.line.counters.truncated + 1) 4294967295
        | _ => s.line.counters.truncated } } } := by
  unfold cutReception
  cases s.line.reception <;> rfl

theorem execLineStuck_of_busy (up : s.loader.phase ≠ .held) (awake : s.thermal.shutdown = false)
    (busy : s.line.state = .busy) : execLineStuck s =
      let cut := cutReception (if s.line.hasOneLeft then s else loseToStuck s)
      .next (electionStuck
        { cut with
          line :=
            { cut.line with
              state := .stuck
              counters := { cut.line.counters with stuckEpisodes := inc32 cut.line.counters.stuckEpisodes } }
          fitness := cut.fitness.signalLine true }) :=
  if_pos ⟨State.tracksLine_iff.mpr ⟨up, awake⟩, busy⟩

theorem State.lostToStuck_of_loses (flight : s.line.flight = some f) (loses : s.line.losesNow f = true) :
    s.lostToStuck = s.frameLost f := by
  unfold State.lostToStuck
  rw [flight]
  exact if_pos loses

theorem State.lostToStuck_of_goes (goes : ∀ f, s.line.flight = some f → s.line.losesNow f = false) :
    s.lostToStuck = s := by
  unfold State.lostToStuck
  cases flight : s.line.flight with
  | none => rfl
  | some f => exact if_neg (by rw [goes f flight]; exact Bool.false_ne_true)

/-- The frame in flight is lost to the stuck line, or goes on. -/
theorem State.lostToStuck_cases (s : State) : (∃ f, s.line.flight = some f ∧ s.line.losesNow f = true ∧
    s.lostToStuck = s.frameLost f) ∨ ((∀ f, s.line.flight = some f → s.line.losesNow f = false) ∧
      s.lostToStuck = s) := by
  by_cases loses : ∃ f, s.line.flight = some f ∧ s.line.losesNow f = true
  · obtain ⟨f, flight, loses⟩ := loses
    exact .inl ⟨f, flight, loses, State.lostToStuck_of_loses flight loses⟩
  · have goes : ∀ f, s.line.flight = some f → s.line.losesNow f = false := fun f flight =>
      Bool.eq_false_iff.mpr fun is => loses ⟨f, flight, is⟩
    exact .inr ⟨goes, State.lostToStuck_of_goes goes⟩

/-- What a loss to the stuck line leaves as it was. -/
theorem State.lostToStuck_frame (s : State) :
    s.lostToStuck.line = { s.line with
      flight := s.lostToStuck.line.flight, slots := s.lostToStuck.line.slots, retry := s.lostToStuck.line.retry } ∧
    (∀ x, s.lostToStuck.elect x = { s.elect x with slotMark := (s.lostToStuck.elect x).slotMark }) ∧
    s.lostToStuck = { s with
      line := s.lostToStuck.line, election := { s.election with ports := s.lostToStuck.election.ports } } := by
  obtain ⟨f, -, -, same⟩ | ⟨-, same⟩ := s.lostToStuck_cases
  · rw [same]
    obtain ⟨-, -, line, elect, rest⟩ := s.frameLost_frame f
    exact ⟨line, elect, rest⟩
  · rw [same]
    exact ⟨rfl, fun _ => rfl, rfl⟩

/-- The counters that the entry to STUCK moves. -/
def LineUnit.stuckCounters (l : LineUnit) : LineCounters :=
  { l.counters with
    stuckEpisodes := min (l.counters.stuckEpisodes + 1) 4294967295
    truncated :=
      match l.reception with
      | .collecting _ => min (l.counters.truncated + 1) 4294967295
      | _ => l.counters.truncated
    arbitrationLosses :=
      if (l.flight.any l.losesNow) then min (l.counters.arbitrationLosses + 1) 4294967295
      else l.counters.arbitrationLosses }

/-- LINE_STUCK: every port moved with the withdrawals of the claiming ones, over the station that a loss has left. -/
theorem lineStuck_spec (up : s.loader.phase ≠ .held) (awake : s.thermal.shutdown = false)
    (busy : s.line.state = .busy) :
    ∃ t, execLineStuck s = .next t ∧
      let w := withdrawAll (fun x => (s.elect x).lane = .claiming) four s.lostToStuck
      t.line = { w.line with state := .stuck, reception := .off, counters := s.line.stuckCounters } ∧
      (∀ x, t.elect x = (w.elect x).unclaimed) ∧
      t = { s with
        line := t.line
        election := { s.election with ports := t.election.ports, lineStuck := true }
        fitness := { s.fitness with faults := { s.fitness.faults with lineStuck := true } } } := by
  obtain ⟨lostLine, lostElect, lostRest⟩ := s.lostToStuck_frame
  generalize basing : ({ s.lostToStuck with
    line := { s.lostToStuck.line with state := .stuck, reception := .off, counters := s.line.stuckCounters }
    election := { s.lostToStuck.election with lineStuck := true }
    fitness := { s.fitness with faults := { s.fitness.faults with lineStuck := true } } } : State) = base
  have answer : execLineStuck s = .next (four.foldl
      (fun t x => if (t.elect x).lane = .claiming then withdrawClaim t x .released else t) base) := by
    rw [execLineStuck_of_busy up awake busy, loseToStuck_eq, cutReception_eq, ← basing]
    have reception : s.lostToStuck.line.reception = s.line.reception := by rw [lostLine]
    have fitness : s.lostToStuck.fitness = s.fitness := by rw [lostRest]
    unfold electionStuck LineUnit.stuckCounters
    dsimp only
    rw [reception, fitness]
    cases s.line.flight.any s.line.losesNow with
    | false => rfl
    | true => rfl
  have elects (x : Port) : base.elect x = s.lostToStuck.elect x := by rw [← basing]; rfl
  have moves := movesWith_four (claims := fun x => (s.elect x).lane = .claiming) (v := s.lostToStuck) (base := base)
    (move := fun t x => if (t.elect x).lane = .claiming then withdrawClaim t x .released else t)
    (f := fun _ => PortElection.unclaimed) (g := fun _ => id) (by rw [← basing]) elects fun t x b stands => by
      have lane : (t.elect x).lane = (s.elect x).lane := by rw [stands, elects, lostElect]
      rw [lane]
      split
      next claims =>
        have claims' : ((withdrawFrame t x).elect x).lane = .claiming := by
          rw [elect_withdrawFrame_self]
          exact lane.trans claims
        exact (State.updElect_congr _ _ (if_pos claims')).symm.trans (State.updPort_of_id rfl).symm
      next quiet =>
        have quiet' : ¬ (t.elect x).lane = .claiming := fun claims => quiet (lane.symm.trans claims)
        exact ((State.updPort_of_id rfl).trans (State.updElect_of_id (if_neg quiet'))).symm
  obtain ⟨line, elect, port, rest⟩ := moves
  refine ⟨_, answer, ?_, elect, ?_⟩
  · rw [line, ← basing]
  · have ports : (four.foldl (fun t x => if (t.elect x).lane = .claiming then withdrawClaim t x .released else t)
      base).ports =
        base.ports := Quad.ext_get port
    rw [rest, ports, ← basing]
    dsimp only
    rw [lostRest]

end Stuck

/-- Settles O49: the loss, the withdrawals and the counts of `lineStuck_spec`, told slot by slot. -/
theorem stuckLineCutsReceptionAndClaims : Obligations.StuckLineCutsReceptionAndClaims := by
  intro s up awake
  refine ⟨fun busy => ?_, fun other => if_neg fun both => other both.2⟩
  intro read losesNow lost withdrawn
  obtain ⟨t, answer, line, elect, rest⟩ := lineStuck_spec up awake busy
  obtain ⟨lostLine, lostElect, -⟩ := s.lostToStuck_frame
  have wd : withdrawn = withdrawAll (fun x => (s.elect x).lane = .claiming) four s.lostToStuck := rfl
  rw [← wd] at line elect
  have flight : withdrawn.line.flight = _ := flight_withdrawAll (claims := fun x => (s.elect x).lane = .claiming)
    (ports := four) (s := s.lostToStuck)
  have unclaimed {k : TxSlot} (free : ∀ x, k = .lane x → (s.elect x).lane ≠ .claiming) :
      ∀ x ∈ four, (s.elect x).lane = .claiming → k ≠ .lane x := fun x _ claims same => free x same claims
  have slots {k : TxSlot} (free : ∀ x, k = .lane x → (s.elect x).lane ≠ .claiming) :
      t.line.slots.get k = s.lostToStuck.line.slots.get k := by
    rw [line]
    exact slots_withdrawAll_of_other (unclaimed free)
  refine ⟨t, answer, line, fun f flies => ⟨fun loses => ⟨?_, fun kept empty free => ⟨?_, ?_⟩⟩, fun goes => ?_⟩,
    fun x claims => ?_, fun k free away => ?_, ?_, ?_, fun x => ?_, ?_, ?_⟩
  · have gone : s.lostToStuck.line.flight = none := by
      rw [State.lostToStuck_of_loses flies loses]
      exact (s.frameLost_frame f).1
    rw [line]
    exact flight.trans (by rw [gone]; rfl)
  · rw [slots free, State.lostToStuck_of_loses flies loses]
    exact (State.frameLost_pending kept empty).1
  · rw [line]
    refine retry_withdrawAll_of_other (s := s.lostToStuck) ?_ (unclaimed free)
    rw [State.lostToStuck_of_loses flies loses]
    exact (State.frameLost_pending kept empty).2
  · have still : s.lostToStuck = s := State.lostToStuck_of_goes fun g is => by
      rw [← Option.some.inj (flies.symm.trans is)]; exact goes
    rw [line]
    show withdrawn.line.flight.map Flight.placed = _
    rw [flight, still, flies]
    rfl
  · rw [line]
    exact slots_withdrawAll_of_claims (mem_four x) claims
  · rw [slots free]
    obtain ⟨f, flies, loses, same⟩ | ⟨-, same⟩ := s.lostToStuck_cases
    · rw [same]
      exact (s.frameLost_frame f).2.1 k fun is => away f flies loses is.symm
    · rw [same]
  · rw [rest]
  · rw [rest]
  · have marks : withdrawn.elect x = { s.elect x with slotMark := (withdrawn.elect x).slotMark } := by
      rw [wd, elect_withdrawAll, lostElect]
    rw [elect, marks]
    unfold PortElection.unclaimed
    by_cases claims : (s.elect x).lane = .claiming
    · rw [if_pos claims, if_pos claims]
      rfl
    · rw [if_neg claims, if_neg claims]
  · rw [rest]
  · rw [rest]

end Sys2Proof.Machine
end

section
/-!
Frames as cells (R105 to R110): numbers and bits, the records of an ANNOUNCE, the tests of a reception. O46.
-/
namespace Sys2Proof.Machine

/-! ### Numbers and bits -/

section Bits
variable {bs cs : List Bool}

theorem length_natBits (w n : Nat) : (natBits w n).length = w := by
  induction w with
  | zero => rfl
  | succ w ih => rw [natBits, List.length_cons, ih]

theorem foldl_bits (a : Nat) (bs : List Bool) :
    bs.foldl (fun a b => 2 * a + b.toNat) a = a * 2 ^ bs.length + bitsNat bs := by
  induction bs generalizing a with
  | nil => simp [bitsNat]
  | cons b bs ih =>
    have head : bitsNat (b :: bs) = (2 * 0 + b.toNat) * 2 ^ bs.length + bitsNat bs := ih _
    rw [List.foldl_cons, ih, head, List.length_cons, pow_succ]
    ring

theorem bitsNat_cons (b : Bool) (bs : List Bool) : bitsNat (b :: bs) = b.toNat * 2 ^ bs.length + bitsNat bs := by
  rw [bitsNat, List.foldl_cons, foldl_bits]
  simp

theorem bitsNat_lt (bs : List Bool) : bitsNat bs < 2 ^ bs.length := by
  induction bs with
  | nil => exact Nat.one_pos
  | cons b bs ih =>
    rw [bitsNat_cons, List.length_cons, pow_succ]
    cases b
    · rw [Bool.toNat_false]; omega
    · rw [Bool.toNat_true]; omega

/-- Bits are told from the number that they spell. -/
theorem bitsNat_injective (long : bs.length = cs.length) (same : bitsNat bs = bitsNat cs) : bs = cs := by
  induction bs generalizing cs with
  | nil => exact (List.eq_nil_of_length_eq_zero long.symm).symm
  | cons b bs ih =>
    cases cs with
    | nil => exact absurd long (Nat.succ_ne_zero _)
    | cons c cs =>
      have long : bs.length = cs.length := Nat.succ.inj long
      rw [bitsNat_cons, bitsNat_cons, long] at same
      have low := bitsNat_lt bs
      have low' := bitsNat_lt cs
      rw [long] at low
      have bits : b = c ∧ bitsNat bs = bitsNat cs := by
        generalize 2 ^ cs.length = m at same low low'
        cases b <;> cases c <;> simp only [Bool.toNat_false, Bool.toNat_true] at same <;> refine ⟨?_, ?_⟩ <;>
          first
          | rfl
          | omega
      rw [bits.1, ih long bits.2]

theorem bitsNat_natBits (w n : Nat) : bitsNat (natBits w n) = n % 2 ^ w := by
  induction w with
  | zero => rw [pow_zero, Nat.mod_one]; rfl
  | succ w ih =>
    rw [natBits, bitsNat_cons, length_natBits, ih, pow_succ, Nat.mod_mul, Nat.toNat_testBit]
    ring

theorem bitsNat_byteBits (b : Byte) : byte (bitsNat (byteBits b)) = b := by
  unfold byteBits
  rw [bitsNat_natBits, Nat.mod_eq_of_lt b.isLt]
  exact BitVec.eq_of_toNat_eq (by rw [byte, BitVec.toNat_ofNat, Nat.mod_eq_of_lt b.isLt])

theorem length_flatMap_byteBits (body : List Byte) : (body.flatMap byteBits).length = 8 * body.length := by
  induction body with
  | nil => rfl
  | cons b body ih => rw [List.flatMap_cons, List.length_append, ih, byteBits, length_natBits, List.length_cons]; ring

/-- Bytes are read back from their bits. -/
theorem bitsBytes_flatMap (body : List Byte) (rest : List Bool) :
    bitsBytes body.length (body.flatMap byteBits ++ rest) = body := by
  induction body with
  | nil => rfl
  | cons b body ih =>
    have eight : (byteBits b).length = 8 := length_natBits ..
    rw [List.flatMap_cons, List.append_assoc, List.length_cons, bitsBytes,
      List.take_left' eight, List.drop_left' eight, bitsNat_byteBits, ih]

/-- The number that some cells spell stands between what comes before and what comes behind. -/
theorem cellsNumber_append {before mid after : List Bool} {from_ width : Nat} (starts : before.length = from_)
    (long : mid.length = width) : cellsNumber (before ++ (mid ++ after)) from_ width = bitsNat mid := by
  unfold cellsNumber
  rw [List.drop_left' starts, List.take_left' long, bitsNat]

theorem bitsBytes_eq (n : Nat) (cells : List Bool) (at_ : Nat) : bitsBytes n (cells.drop at_) =
    (List.range n).map fun i => BitVec.ofNat 8 (cellsNumber cells (at_ + 8 * i) 8) := by
  induction n generalizing at_ with
  | zero => rfl
  | succ n ih =>
    rw [bitsBytes, List.drop_drop, ih, List.range_succ_eq_map, List.map_cons, List.map_map]
    refine congrArg₂ _ rfl (List.map_congr_left fun i _ => ?_)
    show _ = BitVec.ofNat 8 (cellsNumber cells (at_ + 8 * (i + 1)) 8)
    rw [show at_ + 8 + 8 * i = at_ + 8 * (i + 1) by ring]

end Bits

/-! ### The cells of a frame (Table 6-1) -/

section Cells
variable (f : Frame)

theorem length_covered : f.covered.length = 13 + 8 * f.body.length := by
  unfold Frame.covered
  simp only [List.length_append, length_natBits, length_flatMap_byteBits]

theorem length_cells : f.cells.length = 30 + 8 * f.body.length := by
  unfold Frame.cells
  rw [List.length_cons, List.length_append, length_covered, length_natBits]
  ring

theorem kind_cells : cellsNumber f.cells 1 4 = f.kind.val := by
  have placed : f.cells = [false] ++ (natBits 4 f.kind.val ++ (natBits 3 f.station.val ++ natBits 6 f.body.length ++
      f.body.flatMap byteBits ++ natBits 16 (crc f.covered).toNat)) := by
    simp [Frame.cells, Frame.covered]
  rw [placed, cellsNumber_append (from_ := 1) rfl (length_natBits ..), bitsNat_natBits]
  exact Nat.mod_eq_of_lt f.kind.isLt

theorem station_cells : cellsNumber f.cells 5 3 = f.station.val := by
  have placed : f.cells = ([false] ++ natBits 4 f.kind.val) ++ (natBits 3 f.station.val ++ (natBits 6 f.body.length ++
      f.body.flatMap byteBits ++ natBits 16 (crc f.covered).toNat)) := by
    simp [Frame.cells, Frame.covered]
  rw [placed, cellsNumber_append (by simp [length_natBits]) (length_natBits ..), bitsNat_natBits]
  exact Nat.mod_eq_of_lt f.station.isLt

theorem length_field (rest : List Bool) (short : f.body.length ≤ 32) :
    cellsNumber (f.cells ++ rest) 8 6 = f.body.length := by
  have placed : f.cells ++ rest = ([false] ++ natBits 4 f.kind.val ++ natBits 3 f.station.val) ++
      (natBits 6 f.body.length ++ (f.body.flatMap byteBits ++ natBits 16 (crc f.covered).toNat ++ rest)) := by
    simp [Frame.cells, Frame.covered]
  rw [placed, cellsNumber_append (by simp [length_natBits]) (length_natBits ..), bitsNat_natBits]
  exact Nat.mod_eq_of_lt (by omega)

theorem body_cells : bitsBytes f.body.length (f.cells.drop 14) = f.body := by
  have placed : f.cells = ([false] ++ natBits 4 f.kind.val ++ natBits 3 f.station.val ++ natBits 6 f.body.length) ++
      (f.body.flatMap byteBits ++ natBits 16 (crc f.covered).toNat) := by
    simp [Frame.cells, Frame.covered]
  rw [placed, List.drop_left' (by simp [length_natBits]), bitsBytes_flatMap]

theorem covered_cells : (f.cells.drop 1).take (13 + 8 * f.body.length) = f.covered := by
  unfold Frame.cells
  rw [List.drop_one, List.tail_cons, List.take_left' (length_covered f)]

theorem check_cells : cellsNumber f.cells (14 + 8 * f.body.length) 16 = (crc f.covered).toNat := by
  have placed : f.cells = (false :: f.covered) ++ (natBits 16 (crc f.covered).toNat ++ []) := by
    simp [Frame.cells]
  rw [placed, cellsNumber_append (by rw [List.length_cons, length_covered]; ring) (length_natBits ..), bitsNat_natBits]
  exact Nat.mod_eq_of_lt (crc f.covered).isLt

end Cells

/-! ### The tests in their order (R110) -/

section Tests
variable {cells : List Bool}

/-- The length field. -/
def lengthField (cells : List Bool) : Nat := cellsNumber cells 8 6

theorem testFrame_of_headless (short : cells.length < 14) : testFrame cells = .truncated := if_pos short

theorem testFrame_of_longField (header : 14 ≤ cells.length) (long : 32 < lengthField cells) :
    testFrame cells = .badLength := (if_neg (not_lt.mpr header)).trans (if_pos long)

theorem testFrame_of_short (header : 14 ≤ cells.length) (fits : lengthField cells ≤ 32)
    (short : cells.length < 30 + 8 * lengthField cells) : testFrame cells = .truncated :=
  (if_neg (not_lt.mpr header)).trans ((if_neg (not_lt.mpr fits)).trans (if_pos short))

theorem testFrame_of_long (fits : lengthField cells ≤ 32) (long : 30 + 8 * lengthField cells < cells.length) :
    testFrame cells = .badLength :=
  (if_neg (by omega)).trans ((if_neg (not_lt.mpr fits)).trans ((if_neg (not_lt.mpr long.le)).trans (if_pos long)))

/-- A reception of as many cells as its length field says: the check, the length for the kind, the fields. -/
theorem testFrame_of_length (fits : lengthField cells ≤ 32) (long : cells.length = 30 + 8 * lengthField cells) :
    testFrame cells =
      let len := lengthField cells
      if (crc ((cells.drop 1).take (13 + 8 * len))).toNat ≠ cellsNumber cells (14 + 8 * len) 16 then .badCheck
      else
        let f : Frame := ⟨Fin.ofNat 16 (cellsNumber cells 1 4), Fin.ofNat 8 (cellsNumber cells 5 3),
          bitsBytes len (cells.drop 14)⟩
        if !lengthRight f.kind.val len then .badLength
        else if !fieldsInRange f then .badField
        else .good f :=
  (if_neg (by omega)).trans ((if_neg (not_lt.mpr fits)).trans ((if_neg (not_lt.mpr long.ge)).trans
    (if_neg (not_lt.mpr long.le))))

end Tests

/-! ### Lengths and fields (R107, R108) -/

section Fields
variable {f : Frame} {n : Nat}

/-- The record of an ANNOUNCE that begins at a byte of its body. -/
def rawAt (l : List Byte) (i : Nat) : RawRecord :=
  ⟨(l.getD i 0).toNat * 256 + (l.getD (i + 1) 0).toNat, (l.getD (i + 2) 0).toNat * 256 + (l.getD (i + 3) 0).toNat,
    (l.getD (i + 4) 0).toNat, (l.getD (i + 5) 0).toNat⟩

theorem rawRecords_eq : ∀ (n : Nat) {l : List Byte}, l.length = 6 * n →
    rawRecords l = (List.range n).map fun i => rawAt l (6 * i)
  | 0, l, long => by rw [List.eq_nil_of_length_eq_zero long]; rfl
  | n + 1, l, long => by
    obtain ⟨a, b, c, d, e, g, rest, rfl⟩ : ∃ a b c d e g rest, l = a :: b :: c :: d :: e :: g :: rest := by
      match l, long with
      | a :: b :: c :: d :: e :: g :: rest, _ => exact ⟨a, b, c, d, e, g, rest, rfl⟩
    have shorter : rest.length = 6 * n := by
      simp only [List.length_cons] at long
      omega
    rw [rawRecords, rawRecords_eq n shorter, List.range_succ_eq_map, List.map_cons, List.map_map]
    rfl

/-- Each record of an ANNOUNCE, from its bytes. -/
theorem rawRecords_of_announce (long : f.body.length = 3 + 6 * n) :
    rawRecords (f.body.drop 3) = (List.range n).map fun i => rawAt f.body (3 + 6 * i) := by
  rw [rawRecords_eq n (by rw [List.length_drop]; omega)]
  refine List.map_congr_left fun i _ => ?_
  have at_ (j : Nat) : (f.body.drop 3).getD j 0 = f.body.getD (3 + j) 0 := by
    rw [List.getD_eq_getElem?_getD, List.getElem?_drop, List.getD_eq_getElem?_getD]
  unfold rawAt
  simp only [at_]
  rfl

theorem RawRecord.inRange_iff {i : Nat} : (rawAt f.body (3 + 6 * i)).inRange = true ↔ ¬ f.recordWrong i := by
  unfold RawRecord.inRange Frame.recordWrong Frame.bodyByte rawAt
  simp only [Bool.and_eq_true, Bool.or_eq_true, decide_eq_true_eq, beq_iff_eq, bne_iff_ne, ne_eq, Nat.mul_comm 256,
    Nat.add_assoc]
  omega

theorem lanesDistinct_iff (l : List RawRecord) :
    lanesDistinct l = true ↔ l.Pairwise fun a b => a.lane = 255 ∨ b.lane ≠ a.lane := by
  induction l with
  | nil => exact ⟨fun _ => List.Pairwise.nil, fun _ => rfl⟩
  | cons a l ih =>
    rw [lanesDistinct, Bool.and_eq_true, ih, List.pairwise_cons]
    refine and_congr_left fun _ => ?_
    rw [Bool.or_eq_true, beq_iff_eq, Bool.not_eq_true', List.any_eq_false]
    constructor
    · rintro (none_ | apart) b member
      · exact .inl none_
      · exact .inr fun same => apart b member (beq_iff_eq.mpr same)
    · intro all
      by_cases none_ : a.lane = 255
      · exact .inl none_
      · exact .inr fun b member same => ((all b member).resolve_left none_) (beq_iff_eq.mp same)

theorem lanesDistinct_of_announce : lanesDistinct ((List.range n).map fun i => rawAt f.body (3 + 6 * i)) = true ↔
    ¬ ∃ j < n, ∃ i < j, f.bodyByte (7 + 6 * i) = f.bodyByte (7 + 6 * j) ∧ f.bodyByte (7 + 6 * i) ≠ 255 := by
  have lane (i : Nat) : (rawAt f.body (3 + 6 * i)).lane = f.bodyByte (7 + 6 * i) := by
    rw [show 7 + 6 * i = 3 + 6 * i + 4 by ring]
    rfl
  rw [lanesDistinct_iff, List.pairwise_map, List.pairwise_iff_getElem]
  simp only [List.length_range, List.getElem_range, lane]
  push Not
  constructor
  · intro apart j below i less same
    exact (apart i j (less.trans below) below less).resolve_right fun other => other same.symm
  · intro apart i j _ below less
    by_cases same : f.bodyByte (7 + 6 * i) = f.bodyByte (7 + 6 * j)
    · exact .inl (apart j below i less same)
    · exact .inr (Ne.symm same)

theorem announceLength_iff {len : Nat} : (len = 3 ∨ len = 9 ∨ len = 15 ∨ len = 21 ∨ len = 27) ↔ ∃ n, n ≤ 4 ∧
    len = 3 + 6 * n := by
  constructor
  · intro is
    exact ⟨(len - 3) / 6, by omega, by omega⟩
  · rintro ⟨n, few, rfl⟩
    omega

theorem lengthRight_iff (short : f.body.length ≤ 32) :
    lengthRight f.kind.val f.body.length = true ↔ f.lengthListed := by
  have listed : ∀ (k : Fin 16) (len : Nat), len ≤ 32 → (lengthRight k.val len = true ↔ len ≤ 32 ∧
      ((k = 0 ∧ len = 1) ∨ (k = 1 ∧ len = 2) ∨ (k = 2 ∧ len = 5) ∨ (k = 3 ∧ ∃ n, n ≤ 4 ∧ len = 3 + 6 * n) ∨
        (k = 4 ∧ len = 1) ∨ (k = 5 ∧ 1 ≤ len) ∨ (k = 6 ∧ len = 0) ∨ (k = 7 ∧ len = 1) ∨ 8 ≤ k.val)) := by
    intro k len short
    rw [← announceLength_iff]
    fin_cases k <;> simp [lengthRight] <;> omega
  exact listed f.kind f.body.length short

/-- What an ANNOUNCE's fields are tested for. -/
theorem announceFields_iff (long : f.body.length = 3 + 6 * n) :
    (decide (f.bodyByte 1 ≤ 2) && (rawRecords (f.body.drop 3)).all RawRecord.inRange &&
      lanesDistinct (rawRecords (f.body.drop 3))) = true ↔
    ¬ (2 < f.bodyByte 1 ∨ (∃ i < n, f.recordWrong i) ∨
      ∃ j < n, ∃ i < j, f.bodyByte (7 + 6 * i) = f.bodyByte (7 + 6 * j) ∧ f.bodyByte (7 + 6 * i) ≠ 255) := by
  rw [rawRecords_of_announce long, Bool.and_eq_true, Bool.and_eq_true, decide_eq_true_eq, lanesDistinct_of_announce,
    not_or, not_or, not_lt, and_assoc, List.all_map, List.all_eq_true]
  refine and_congr_right fun _ => and_congr_left fun _ => ?_
  push Not
  refine ⟨fun all i below => RawRecord.inRange_iff.mp (all i (List.mem_range.mpr below)), fun all i member => ?_⟩
  exact RawRecord.inRange_iff.mpr (all i (List.mem_range.mp member))

theorem fieldsInRange_of_announce (announce : f.kind = 3) (long : f.body.length = 3 + 6 * n) :
    fieldsInRange f = true ↔ ¬ f.fieldWrong := by
  have count : (f.body.length - 3) / 6 = n := by omega
  have tests : fieldsInRange f = (decide (f.bodyByte 1 ≤ 2) && (rawRecords (f.body.drop 3)).all RawRecord.inRange &&
      lanesDistinct (rawRecords (f.body.drop 3))) := by
    unfold fieldsInRange
    rw [announce]
    rfl
  rw [tests, announceFields_iff long]
  unfold Frame.fieldWrong
  dsimp only
  rw [count, announce]
  simp

theorem fieldsInRange_of_other (other : f.kind ≠ 3) : fieldsInRange f = true ↔ ¬ f.fieldWrong := by
  obtain ⟨kind, station, body⟩ := f
  unfold fieldsInRange Frame.fieldWrong Frame.bodyByte num2
  revert other
  fin_cases kind <;> simp <;> omega

/-- R108. -/
theorem fieldsInRange_iff (listed : f.lengthListed) : fieldsInRange f = true ↔ ¬ f.fieldWrong := by
  by_cases announce : f.kind = 3
  · obtain ⟨-, kinds⟩ := listed
    rw [announce] at kinds
    obtain ⟨n, -, long⟩ : ∃ n, n ≤ 4 ∧ f.body.length = 3 + 6 * n := by simpa using kinds
    exact fieldsInRange_of_announce announce long
  · exact fieldsInRange_of_other announce

end Fields

/-- What a reception with a right length and a right check is, by the frame that it spells. -/
theorem testFrame_of_check {cells : List Bool} (fits : lengthField cells ≤ 32)
    (long : cells.length = 30 + 8 * lengthField cells)
    (check : (crc ((cells.drop 1).take (13 + 8 * lengthField cells))).toNat = cellsNumber cells
      (14 + 8 * lengthField cells) 16)
    {f : Frame} (kind : f.kind.val = cellsNumber cells 1 4) (station : f.station.val = cellsNumber cells 5 3)
    (body : f.body = bitsBytes (lengthField cells) (cells.drop 14)) (count : f.body.length = lengthField cells) :
    (¬ f.lengthListed → testFrame cells = .badLength) ∧ (f.lengthListed → f.fieldWrong → testFrame cells = .badField) ∧
      (f.lengthListed → ¬ f.fieldWrong → testFrame cells = .good f) := by
  have spelt : (⟨Fin.ofNat 16 (cellsNumber cells 1 4), Fin.ofNat 8 (cellsNumber cells 5 3),
      bitsBytes (lengthField cells) (cells.drop 14)⟩ : Frame) = f := by
    rw [← body, ← kind, ← station]
    refine congrArg₂ (fun k s => Frame.mk k s f.body) (Fin.ext ?_) (Fin.ext ?_)
    · exact Nat.mod_eq_of_lt f.kind.isLt
    · exact Nat.mod_eq_of_lt f.station.isLt
  have right := lengthRight_iff (f := f) (by rw [count]; exact fits)
  rw [count] at right
  rw [testFrame_of_length fits long]
  dsimp only
  rw [if_neg (not_not.mpr check)]
  simp only [spelt]
  simp only [show (Fin.ofNat 16 (cellsNumber cells 1 4)) = f.kind from congrArg Frame.kind spelt]
  refine ⟨fun wrong => ?_, fun listed wrong => ?_, fun listed fine => ?_⟩
  · rw [Bool.eq_false_iff.mpr fun is => wrong (right.mp is)]
    rfl
  all_goals rw [right.mpr listed, Bool.not_true, if_neg Bool.false_ne_true]
  · rw [Bool.eq_false_iff.mpr fun is => (fieldsInRange_iff listed).mp is wrong]
    rfl
  · rw [(fieldsInRange_iff listed).mpr fine]
    rfl

/-- Settles O46: the tests in their order, and the frame that sent cells spell. -/
theorem receptionReadsBackSentFrame : Obligations.ReceptionReadsBackSentFrame := by
  refine ⟨fun f listed fine => ⟨length_cells f, rfl, ?_⟩, fun cells => ?_⟩
  · have field : lengthField f.cells = f.body.length := by
      have plain := length_field f [] listed.1
      rwa [List.append_nil] at plain
    refine (testFrame_of_check ?_ ?_ ?_ (kind_cells f).symm (station_cells f).symm ?_ field.symm).2.2 listed fine
    · rw [field]; exact listed.1
    · rw [field]; exact length_cells f
    · rw [field, covered_cells, check_cells]
    · rw [field, body_cells]
  · intro len checkRight
    have checks : checkRight ↔ (crc ((cells.drop 1).take (13 + 8 * len))).toNat = cellsNumber cells
      (14 + 8 * len) 16 := by
      have small : cellsNumber cells (14 + 8 * len) 16 < 65536 :=
        (bitsNat_lt _).trans_le (Nat.pow_le_pow_right (by decide) (List.length_take_le ..))
      show checkOver _ = _ ↔ _
      rw [← crc_eq, ← BitVec.toNat_inj, BitVec.toNat_ofNat, Nat.mod_eq_of_lt small]
    refine ⟨testFrame_of_headless, testFrame_of_longField, testFrame_of_short, testFrame_of_long, fun fits long =>
      ⟨fun wrong => ?_,
      fun right f kind station body => ?_⟩⟩
    · rw [testFrame_of_length fits long]
      exact if_pos fun is => wrong (checks.mpr is)
    · exact testFrame_of_check fits long (checks.mp right) kind station (by rw [body, bitsBytes_eq]; rfl)
        (by rw [body, List.length_map, List.length_range]; rfl)

end Sys2Proof.Machine
end

section
/-!
One wrong cell (R106, R110): the check register tells any two receptions apart that differ in one covered bit. O47.
-/
namespace Sys2Proof.Machine

/-! ### The check register -/

section Register
variable {r q : Half} {b : Bool}

theorem getLsbD_zero_crcStep (r : Half) (b : Bool) : (crcStep r b).getLsbD 0 = (r.msb != b) := by
  unfold crcStep
  split
  next differs => rw [differs]; simp
  next same => rw [Bool.eq_false_iff.mpr same]; simp

/-- The bit taken and the register behind it tell the register before it. -/
theorem crcStep_injective (same : crcStep r b = crcStep q b) : r = q := by
  have tops : (r.msb != b) = (q.msb != b) := by rw [← getLsbD_zero_crcStep, ← getLsbD_zero_crcStep, same]
  have msb : r.msb = q.msb := by
    cases hr : r.msb <;> cases hq : q.msb <;> rw [hr, hq] at tops <;> cases b <;> simp_all
  have shifted : r <<< 1 = q <<< 1 := by
    unfold crcStep at same
    rw [tops] at same
    split at same
    · have undone := congrArg (· ^^^ 0x1021#16) same
      simpa only [BitVec.xor_assoc, BitVec.xor_self, BitVec.xor_zero] using undone
    · exact same
  refine BitVec.eq_of_getLsbD_eq fun i below => ?_
  by_cases top : i = 15
  · subst top
    exact (BitVec.msb_eq_getLsbD_last r).symm.trans (msb.trans (BitVec.msb_eq_getLsbD_last q))
  · have bit := congrArg (fun v : Half => v.getLsbD (i + 1)) shifted
    have inside : i + 1 < 16 := by omega
    simpa only [BitVec.getLsbD_shiftLeft, inside, decide_true, Nat.add_sub_cancel, Bool.true_and,
      show ¬ i + 1 < 1 by omega, decide_false, Bool.not_false] using bit

theorem crcStep_not (r : Half) (b : Bool) : crcStep r (!b) ≠ crcStep r b := by
  intro same
  have bit := congrArg (fun v : Half => v.getLsbD 0) same
  simp only [getLsbD_zero_crcStep] at bit
  clear same
  revert bit
  generalize r.msb = top
  revert top b
  decide

theorem foldl_crcStep_injective {bits : List Bool} (same : bits.foldl crcStep r = bits.foldl crcStep q) : r = q := by
  induction bits generalizing r q with
  | nil => exact same
  | cons b bits ih => exact crcStep_injective (ih same)

/-- R106: one flipped bit changes the check. -/
theorem crc_flip {bits : List Bool} {i : Nat} (below : i < bits.length) : crc (bits.set i (!bits[i])) ≠ crc bits := by
  have split_ : bits = bits.take i ++ bits[i] :: bits.drop (i + 1) := by
    rw [List.getElem_cons_drop below, List.take_append_drop]
  intro same
  rw [List.set_eq_take_append_cons_drop, if_pos below] at same
  unfold crc at same
  conv at same => rhs; rw [split_]
  rw [List.foldl_append, List.foldl_append, List.foldl_cons, List.foldl_cons] at same
  exact crcStep_not _ _ (foldl_crcStep_injective same)

end Register

/-! ### One wrong cell -/

section Flip
variable {cells : List Bool} {i from_ width : Nat}

/-- A reception with one cell read wrong. -/
def flipAt (cells : List Bool) (i : Nat) : List Bool := cells.set i (!(cells.getD i false))

theorem length_flipAt : (flipAt cells i).length = cells.length := List.length_set ..

theorem flipAt_eq (below : i < cells.length) : flipAt cells i = cells.set i (!cells[i]) := by
  unfold flipAt
  rw [List.getD_eq_getElem cells false below]

theorem flipAt_ne (below : i < cells.length) : flipAt cells i ≠ cells := by
  intro same
  have at_ := congrArg (fun l => l[i]?) same
  rw [flipAt_eq below] at at_
  simp [List.getElem?_set_self below, List.getElem?_eq_getElem below] at at_

/-- A part of the cells that the wrong one is not among. -/
theorem part_flipAt_of_outside (outside : i < from_ ∨ from_ + width ≤ i) :
    ((flipAt cells i).drop from_).take width = (cells.drop from_).take width := by
  unfold flipAt
  rw [List.drop_set]
  split
  · rfl
  · rw [List.take_set_of_le (by omega)]

/-- A part of the cells that holds the wrong one. -/
theorem part_flipAt_of_inside (behind : from_ ≤ i) (before : i < from_ + width) :
    ((flipAt cells i).drop from_).take width = flipAt ((cells.drop from_).take width) (i - from_) := by
  have same : ((cells.drop from_).take width).getD (i - from_) false = cells.getD i false := by
    rw [List.getD_eq_getElem?_getD, List.getElem?_take_of_lt (by omega), List.getElem?_drop, Nat.add_sub_cancel' behind,
      List.getD_eq_getElem?_getD]
  unfold flipAt
  rw [List.drop_set, if_neg (not_lt.mpr behind), List.take_set, same]

theorem cellsNumber_eq : cellsNumber cells from_ width = bitsNat ((cells.drop from_).take width) := rfl

theorem cellsNumber_flipAt_of_inside (behind : from_ ≤ i) (before : i < from_ + width)
    (long : from_ + width ≤ cells.length) :
    cellsNumber (flipAt cells i) from_ width ≠ cellsNumber cells from_ width := by
  rw [cellsNumber_eq, cellsNumber_eq, part_flipAt_of_inside behind before]
  intro same
  refine flipAt_ne ?_ (bitsNat_injective length_flipAt same)
  rw [List.length_take, List.length_drop]
  omega

theorem testFrame_of_wrong (fits : lengthField cells ≤ 32) (long : cells.length = 30 + 8 * lengthField cells)
    (wrong : (crc ((cells.drop 1).take (13 + 8 * lengthField cells))).toNat ≠
      cellsNumber cells (14 + 8 * lengthField cells) 16) : testFrame cells = .badCheck := by
  rw [testFrame_of_length fits long]
  exact if_pos wrong

/-- A wrong length field does not fit the number of cells. -/
theorem testFrame_of_wrongLength (header : 14 ≤ cells.length) (other : cells.length ≠ 30 + 8 * lengthField cells) :
    testFrame cells = .badLength ∨ testFrame cells = .truncated := by
  rcases lt_or_ge 32 (lengthField cells) with long | fits
  · exact .inl (testFrame_of_longField header long)
  · rcases lt_or_gt_of_ne other with short | long
    · exact .inr (testFrame_of_short header fits short)
    · exact .inl (testFrame_of_long fits long)

end Flip

/-- Settles O47: a wrong cell of the length field does not fit the cells, a wrong cell elsewhere not the check. -/
theorem singleWrongCellIsNeverGood : Obligations.SingleWrongCellIsNeverGood := by
  intro f g i short after before
  show testFrame (flipAt f.cells i) ≠ .good g
  have long := length_cells f
  have field : lengthField f.cells = f.body.length := by
    have plain := length_field f [] short
    rwa [List.append_nil] at plain
  by_cases lengths : 8 ≤ i ∧ i < 14
  · have other : lengthField (flipAt f.cells i) ≠ f.body.length := by
      rw [← field]
      exact cellsNumber_flipAt_of_inside (width := 6) lengths.1 lengths.2 (by omega)
    obtain bad | cut := testFrame_of_wrongLength (cells := flipAt f.cells i) (by rw [length_flipAt]; omega)
      (by rw [length_flipAt]; omega)
    · rw [bad]; exact nofun
    · rw [cut]; exact nofun
  · have same : lengthField (flipAt f.cells i) = f.body.length := by
      rw [← field]
      exact congrArg bitsNat (part_flipAt_of_outside (by omega))
    rw [testFrame_of_wrong (by rw [same]; exact short) (by rw [length_flipAt, same, long])]
    · exact nofun
    · rw [same]
      by_cases covers : i < 14 + 8 * f.body.length
      · have check : cellsNumber (flipAt f.cells i) (14 + 8 * f.body.length) 16 = (crc f.covered).toNat := by
          rw [← check_cells f]
          exact congrArg bitsNat (part_flipAt_of_outside (.inl covers))
        have below : i - 1 < f.covered.length := by rw [length_covered]; omega
        rw [check, part_flipAt_of_inside after (by omega), covered_cells, flipAt_eq below]
        exact fun is => crc_flip below (BitVec.eq_of_toNat_eq is)
      · rw [part_flipAt_of_outside (.inr (by omega)), covered_cells, ← check_cells f]
        exact (cellsNumber_flipAt_of_inside (not_lt.mp covers) (by omega) (by omega)).symm

end Sys2Proof.Machine
end

section
/-!
The line becomes idle (R104, R105, R110, R111, R113, R114, R144, R151): O48.
-/
namespace Sys2Proof.Machine

section Idle
variable {s e : State} {f : Frame} {fl : Flight} {cells : List Bool} {test : FrameTest}

theorem Frame.reaches_iff {st : Station} : f.reaches st = true ↔
    (f.kind.val ≤ 3 ∧ f.station ≠ st) ∨ ((f.kind = 4 ∨ f.kind = 6 ∨ f.kind = 7) ∧ f.station = st) := by
  obtain ⟨kind, station, body⟩ := f
  unfold Frame.reaches
  fin_cases kind <;> simp

/-- Where a good frame that goes to a block waits, and a pending one could start (R116). -/
def State.drawsAtIdle (s e : State) : Prop :=
  (∃ k, e.line.slots.get k ≠ none) ∧ e.line.flight = none ∧
    ∃ f ∈ e.line.heard, (f.kind.val ≤ 3 ∧ f.station ≠ s.loader.stationNumber) ∨
      ((f.kind = 4 ∨ f.kind = 6 ∨ f.kind = 7) ∧ f.station = s.loader.stationNumber)

theorem State.drawsAtIdle_iff (same : e.loader = s.loader) : s.drawsAtIdle e ↔ e.line.choose.isSome ∧
    e.line.flight.isNone ∧
    e.line.heard.any (fun f => f.reaches e.loader.stationNumber) := by
  have pending : (∃ k, e.line.slots.get k ≠ none) ↔ e.line.choose.isSome := by
    rw [← not_iff_not, not_exists, Bool.not_eq_true, Option.isSome_eq_false_iff, Option.isNone_iff_eq_none,
      LineUnit.choose_eq_none_iff]
    exact forall_congr' fun _ => not_not
  unfold State.drawsAtIdle
  rw [pending, Option.isNone_iff_eq_none, List.any_eq_true, same]
  exact and_congr_right fun _ => and_congr_right fun _ => exists_congr fun f => and_congr_right fun _ =>
    Frame.reaches_iff.symm

/-- What the command leads to, once the line is idle: a pending frame starts, or a free draw says whether it does. -/
def State.LeadsTo (s e : State) : Prop :=
  (¬ s.drawsAtIdle e → exec .lineIdle s = .next (trySend e)) ∧
    (s.drawsAtIdle e → let drawn := { e with freeDraws := e.freeDraws + 1 }
      exec .lineIdle s = .next (trySend drawn) ∨ exec .lineIdle s = .next drawn)

theorem State.leadsTo_of (same : e.loader = s.loader) (answer : exec .lineIdle s = .next (startAtIdle e)) :
    s.LeadsTo e := by
  unfold State.LeadsTo
  rw [answer, State.drawsAtIdle_iff same]
  unfold startAtIdle
  refine ⟨fun none_ => by rw [if_neg none_], fun waits => ?_⟩
  rw [if_pos waits]
  dsimp only
  cases Config.startsFirst e.freeDraws
  · exact .inr rfl
  · exact .inl rfl

/-- The line unit at rest. -/
def LineUnit.atRest (l : LineUnit) : LineUnit := { l with state := .idle, reception := .off }

theorem lineClears_of_busy (busy : s.line.state = .busy) : lineClears s = { s with line := s.line.atRest } :=
  if_neg (by rw [busy]; decide)

/-- R104, R105, R110: the end of a frame that was not the station's own. -/
theorem leads_of_foreign (up : s.loader.phase ≠ .held) (awake : s.thermal.shutdown = false)
    (busy : s.line.state = .busy)
    (reads : s.line.reception = .collecting cells) (foreign : ∀ fl, s.line.flight = some fl → fl.ended = true) :
    s.LeadsTo { s with line := { s.line.atRest with
      counters := s.line.counters.countTest (testFrame cells)
      heard := match testFrame cells with
        | .good f => if s.loader.phase ≠ .running then s.line.heard else s.line.heard ++ [f]
        | _ => s.line.heard } } := by
  have none_ := LineUnit.sending_of_ended foreign
  have stays : (s.line.flight.map fun f => { f with ended := true }) = s.line.flight := by
    cases flight : s.line.flight with
    | none => rfl
    | some fl => exact congrArg some (by rw [← foreign fl flight])
  have end_ : endFrame s cells = { s with line := { s.line with
      counters := s.line.counters.countTest (testFrame cells)
      heard := match testFrame cells with
        | .good f => if s.loader.phase ≠ .running then s.line.heard else s.line.heard ++ [f]
        | _ => s.line.heard } } := by
    unfold endFrame LineUnit.endedCells
    rw [none_, stays]
    cases testFrame cells <;> simp
  refine State.leadsTo_of rfl ?_
  refine (if_pos ⟨State.tracksLine_iff.mpr ⟨up, awake⟩, by rw [busy]; decide⟩).trans ?_
  rw [reads, busy]
  dsimp only
  rw [if_neg (by decide), end_]
  refine congrArg (fun t => Host.Outcome.next (startAtIdle t)) (lineClears_of_busy ?_)
  exact busy

/-- R110, R113: the end of an own frame goes to no block. -/
theorem leads_of_own (up : s.loader.phase ≠ .held) (awake : s.thermal.shutdown = false) (busy : s.line.state = .busy)
    (reads : s.line.reception = .collecting cells) (flight : s.line.flight = some fl) (going : fl.ended = false)
    (is : testFrame (if cells.isPrefixOf fl.placed.frame.cells then fl.placed.frame.cells else cells) = test) :
    s.LeadsTo { s with line := { s.line.atRest with
      counters := s.line.counters.countTest test
      flight := some { fl with ended := true } } } := by
  have sends := LineUnit.sending_of_flight flight going
  have end_ : endFrame s cells = { s with line := { s.line with
      counters := s.line.counters.countTest test
      flight := some { fl with ended := true } } } := by
    unfold endFrame LineUnit.endedCells
    rw [sends]
    dsimp only
    rw [is, flight]
    cases test <;> rfl
  refine State.leadsTo_of rfl ?_
  refine (if_pos ⟨State.tracksLine_iff.mpr ⟨up, awake⟩, by rw [busy]; decide⟩).trans ?_
  rw [reads, busy]
  dsimp only
  rw [if_neg (by decide), end_]
  refine congrArg (fun t => Host.Outcome.next (startAtIdle t)) (lineClears_of_busy ?_)
  exact busy

theorem leads_of_unread (up : s.loader.phase ≠ .held) (awake : s.thermal.shutdown = false) (busy : s.line.state = .busy)
    (other : s.line.reception = .off ∨ s.line.reception = .noise) : s.LeadsTo { s with line := s.line.atRest } := by
  refine State.leadsTo_of rfl ?_
  refine (if_pos ⟨State.tracksLine_iff.mpr ⟨up, awake⟩, by rw [busy]; decide⟩).trans ?_
  have clears := lineClears_of_busy busy
  rw [busy]
  obtain off | noise := other
  · rw [off]; exact congrArg (fun t => Host.Outcome.next (startAtIdle t)) clears
  · rw [noise]; exact congrArg (fun t => Host.Outcome.next (startAtIdle t)) clears

/-- R144, R151 (1): the departure from STUCK is signalled. -/
def State.unstuck (s : State) : State :=
  { s with
    election := { s.election with lineStuck := false }
    fitness := { s.fitness with faults := { s.fitness.faults with lineStuck := false } } }

theorem lineClears_of_stuck (stuck : s.line.state = .stuck) :
    lineClears s = { s with line := s.line.atRest }.unstuck := if_pos stuck

theorem leads_of_stuck (up : s.loader.phase ≠ .held) (awake : s.thermal.shutdown = false)
    (stuck : s.line.state = .stuck)
    (off : s.line.reception = .off) (same : e.loader = s.loader) (clears : lineClears (loseToStuck s) = e) :
    s.LeadsTo e := by
  refine State.leadsTo_of same ?_
  refine (if_pos ⟨State.tracksLine_iff.mpr ⟨up, awake⟩, by rw [stuck]; decide⟩).trans ?_
  rw [off, stuck]
  exact congrArg (fun t => Host.Outcome.next (startAtIdle t)) clears

/-- A loss does not ask for the state of the line. -/
theorem frameLost_atRest (s : State) (fl : Flight) :
    ({ s with line := s.line.atRest } : State).frameLost fl =
      { s.frameLost fl with line := (s.frameLost fl).line.atRest } := by
  unfold State.frameLost LineUnit.atRest
  dsimp only
  split
  · cases fl.slot <;> rfl
  · split <;> rfl

end Idle

/-- Settles O48: what the line was, what it received and whose frame it was; then the start of a pending frame. -/
theorem lineIdleEndsReception : Obligations.LineIdleEndsReception := by
  intro s up awake idle goesToBlock leads
  refine ⟨fun rests => if_neg fun both => both.2 rests, fun busy => ⟨?_, ?_, ?_, ?_⟩, fun stuck off => ⟨?_, ?_⟩⟩
  · intro cells reads foreign
    have leads_ := leads_of_foreign up awake busy reads foreign
    refine ⟨fun f good running => ?_, fun f good loading => ?_, fun counters listed => ?_⟩
    · rw [good] at leads_
      dsimp only at leads_
      rw [if_neg (not_not.mpr running)] at leads_
      exact leads_
    · rw [good] at leads_
      dsimp only at leads_
      rw [if_pos (by rw [loading]; decide)] at leads_
      exact leads_
    · simp only [List.mem_cons, List.not_mem_nil, or_false, Prod.mk.injEq] at listed
      obtain ⟨bad, rfl⟩ | ⟨bad, rfl⟩ | ⟨bad, rfl⟩ | ⟨bad, rfl⟩ := listed
      all_goals rw [bad] at leads_; exact leads_
  · intro cells fl g reads flight going begins good
    refine leads_of_own up awake busy reads flight going (test := .good g) ?_
    rw [if_pos (List.isPrefixOf_iff_prefix.mpr begins), good]
  · intro fl pulses flight going short some_ reads
    refine leads_of_own up awake busy reads flight going (test := .badLength) ?_
    have longer : 0 < pulses.length := List.length_pos_iff.mpr some_
    rw [if_neg fun begins => ?_]
    · have field : lengthField (fl.placed.frame.cells ++ pulses) = fl.placed.frame.body.length := length_field _ pulses
        short
      refine testFrame_of_long (by rw [field]; exact short) ?_
      rw [field, List.length_append, length_cells]
      omega
    · have most := (List.isPrefixOf_iff_prefix.mp begins).length_le
      rw [List.length_append] at most
      omega
  · exact leads_of_unread up awake busy
  · intro ended
    refine leads_of_stuck up awake stuck off rfl ?_
    have none_ : loseToStuck s = s := by unfold loseToStuck; rw [LineUnit.sending_of_ended ended]
    rw [none_, lineClears_of_stuck stuck]
    rfl
  · intro fl flight going counted
    obtain ⟨lost, lost_⟩ : ∃ lost : State, lost = { s with line := { s.line with counters := { s.line.counters with
        arbitrationLosses := min (s.line.counters.arbitrationLosses + 1) 4294967295 } } } := ⟨_, rfl⟩
    have loses : loseToStuck s = lost.frameLost fl := by
      unfold loseToStuck
      rw [LineUnit.sending_of_flight flight going, lost_]
      exact loseSending_eq ..
    have stays : (lost.frameLost fl).line.state = .stuck := by
      obtain ⟨-, -, line, -⟩ := lost.frameLost_frame fl
      rw [line, lost_]
      exact stuck
    obtain ⟨-, -, -, -, rest⟩ := State.frameLost_frame (s := counted) fl
    refine leads_of_stuck up awake stuck off (by rw [rest]) ?_
    have fitness : (counted.frameLost fl).fitness = s.fitness := by rw [rest]
    rw [loses, lineClears_of_stuck stays, ← frameLost_atRest, lost_]
    show (counted.frameLost fl).unstuck = _
    unfold State.unstuck
    rw [fitness]

end Sys2Proof.Machine
end

section
/-!
The peer view (R120 to R124): the records of the entries, the conflict indicators, what a body says. O43.
-/
namespace Sys2Proof.Machine

/-! ### Records and conflict indicators -/

section Peers
variable {s : State} {v : ElectionUnit} {i : Station} {r : ServiceRecord} {x : Port}

theorem mem_eight (i : Fin 8) : i ∈ eight := by fin_cases i <;> decide

theorem ElectionUnit.mem_records : (i, r) ∈ v.records ↔ ∃ e, v.peers.get i = some e ∧ r ∈ e.records := by
  unfold ElectionUnit.records
  rw [List.mem_flatMap]
  constructor
  · rintro ⟨j, -, member⟩
    split at member
    next e found =>
      obtain ⟨q, known, same⟩ := List.mem_map.mp member
      obtain ⟨rfl, rfl⟩ := Prod.mk.inj same
      exact ⟨e, found, known⟩
    next => exact (List.not_mem_nil member).elim
  · rintro ⟨e, found, known⟩
    refine ⟨i, mem_eight i, ?_⟩
    rw [found]
    exact List.mem_map.mpr ⟨r, known, rfl⟩

/-- R124 (2). -/
theorem ElectionUnit.conflictOn_iff {lane : Fin 16} {m : Half} : v.conflictOn lane m = true ↔
    ∃ i e r, v.peers.get i = some e ∧ r ∈ e.records ∧ r.lane = some lane ∧ r.muxId ≠ m := by
  unfold ElectionUnit.conflictOn
  rw [List.any_eq_true]
  constructor
  · rintro ⟨⟨i, r⟩, member, tests⟩
    obtain ⟨e, found, known⟩ := ElectionUnit.mem_records.mp member
    rw [Bool.and_eq_true, beq_iff_eq, bne_iff_ne] at tests
    exact ⟨i, e, r, found, known, tests⟩
  · rintro ⟨i, e, r, found, known, tests⟩
    refine ⟨(i, r), ElectionUnit.mem_records.mpr ⟨e, found, known⟩, ?_⟩
    rw [Bool.and_eq_true, beq_iff_eq, bne_iff_ne]
    exact tests

theorem State.binding_of {c : PortConfig} {d : ServiceConfig} (bound : s.portConfig x = some c)
    (serves : s.slotConfig c.slot = some d) : s.binding x = some (c, d.muxId) := by
  unfold State.binding
  rw [bound, Option.bind_some, serves]
  rfl

theorem State.binding_of_unbound (unbound : s.portConfig x = none) : s.binding x = none := by
  unfold State.binding
  rw [unbound]
  rfl

theorem elect_refreshConflicts (s : State) (x : Port) : (refreshConflicts s).elect x =
    match s.binding x with
    | some (c, m) => { s.elect x with conflict := s.election.conflictOn c.lane m }
    | none => s.elect x := by
  show (s.election.ports.map _).get x = _
  rw [Quad.get_map]
  rfl

/-- The conflict indicators, and nothing else of a port's election, are brought up to date. -/
theorem elect_refreshConflicts_only (s : State) (x : Port) : (refreshConflicts s).elect x =
    { s.elect x with conflict := ((refreshConflicts s).elect x).conflict } := by
  rw [elect_refreshConflicts]
  cases s.binding x <;> rfl

theorem conflict_refreshConflicts_iff {c : PortConfig} {d : ServiceConfig} (bound : s.portConfig x = some c)
    (serves : s.slotConfig c.slot = some d) : ((refreshConflicts s).elect x).conflict = true ↔
      ∃ i e r, s.election.peers.get i = some e ∧ r ∈ e.records ∧ r.lane = some c.lane ∧ r.muxId ≠ d.muxId := by
  rw [elect_refreshConflicts, State.binding_of bound serves]
  exact ElectionUnit.conflictOn_iff

theorem elect_refreshConflicts_of_unbound (unbound : s.portConfig x = none) :
    (refreshConflicts s).elect x = s.elect x := by
  rw [elect_refreshConflicts, State.binding_of_unbound unbound]

end Peers

/-! ### What a body says (Tables 6-3 and 6-4) -/

section Bodies
variable {f : Frame} {n i : Nat}

theorem num2_eq (f : Frame) (i : Nat) : num2 f.body i = 256 * f.bodyByte i + f.bodyByte (i + 1) := by
  unfold num2 Frame.bodyByte
  ring

theorem Frame.bodyByte_lt (f : Frame) (i : Nat) : f.bodyByte i < 256 := BitVec.isLt _

theorem Frame.lane_val (small : f.bodyByte 0 ≤ 15) : f.lane.val = f.bodyByte 0 :=
  Nat.mod_eq_of_lt (Nat.lt_succ_of_le small)

theorem Frame.claimMux_toNat (f : Frame) : f.claimMux.toNat = 256 * f.bodyByte 1 + f.bodyByte 2 := by
  have high := f.bodyByte_lt 1
  have low := f.bodyByte_lt 2
  unfold Frame.claimMux
  rw [BitVec.toNat_ofNat, num2_eq, Nat.mod_eq_of_lt (by rw [one_add_one_eq_two]; omega)]

theorem Frame.announced_cause (small : f.bodyByte 1 ≤ 2) : f.announced.cause.number = f.bodyByte 1 := by
  have codes : ∀ k ≤ 2, ((Cause.ofCode k).getD .powerOn).number = k := by decide
  exact codes _ small

theorem LaneState.number_ofCode {k : Nat} (small : k ≤ 5) : ((LaneState.ofCode k).getD .disabled).number = k := by
  have codes : ∀ k ≤ 5, ((LaneState.ofCode k).getD .disabled).number = k := by decide
  exact codes k small

theorem Frame.announced_records (long : f.body.length = 3 + 6 * n) :
    f.announced.records = (List.range n).map fun i => (rawAt f.body (3 + 6 * i)).record := by
  unfold Frame.announced
  rw [rawRecords_of_announce long, List.map_map]
  rfl

/-- R107, R108: a record whose fields are in range, by its six bytes. -/
theorem RawRecord.record_spec (fine : ¬ f.recordWrong i) :
    let r := (rawAt f.body (3 + 6 * i)).record
    let b := f.bodyByte
    r.muxId.toNat = 256 * b (3 + 6 * i) + b (4 + 6 * i) ∧ r.sf = 256 * b (5 + 6 * i) + b (6 + 6 * i) ∧
      (r.lane.map Fin.val).getD 255 = b (7 + 6 * i) ∧ r.state.number = b (8 + 6 * i) := by
  obtain ⟨-, lanes, states, -⟩ : ¬ 1023 < 256 * f.bodyByte (3 + 6 * i + 2) + f.bodyByte (3 + 6 * i + 3) ∧
      ¬ (15 < f.bodyByte (3 + 6 * i + 4) ∧ f.bodyByte (3 + 6 * i + 4) ≠ 255) ∧ ¬ 5 < f.bodyByte (3 + 6 * i + 5) ∧
      ¬ (f.bodyByte (3 + 6 * i + 4) = 255 ∧ f.bodyByte (3 + 6 * i + 5) ≠ 0) := by
    simpa only [Frame.recordWrong, not_or] using fine
  have places (j : Nat) : j + 3 + 6 * i = 3 + 6 * i + j := by ring
  intro r b
  rw [places 1, places 2, places 3, places 4, places 5]
  have high := f.bodyByte_lt (3 + 6 * i)
  have low := f.bodyByte_lt (3 + 6 * i + 1)
  refine ⟨?_, ?_, ?_, LaneState.number_ofCode (not_lt.mp states)⟩
  · show (BitVec.ofNat 16 (f.bodyByte (3 + 6 * i) * 256 + f.bodyByte (3 + 6 * i + 1))).toNat = _
    rw [BitVec.toNat_ofNat, Nat.mod_eq_of_lt (by omega), Nat.mul_comm]
  · exact congrArg (· + _) (Nat.mul_comm ..)
  · show ((if f.bodyByte (3 + 6 * i + 4) = 255 then none else some (Fin.ofNat 16 (f.bodyByte (3 + 6 * i + 4)))).map
      Fin.val).getD 255 = f.bodyByte (3 + 6 * i + 4)
    by_cases none_ : f.bodyByte (3 + 6 * i + 4) = 255
    · rw [if_pos none_, none_]; rfl
    · rw [if_neg none_]
      exact Nat.mod_eq_of_lt (by omega)

end Bodies

/-- What is read of a body whose length and fields are right. -/
theorem body_spec {f : Frame} (listed : f.lengthListed) (fine : ¬ f.fieldWrong) :
    let b := f.bodyByte
    (f.kind.val ≤ 2 → f.lane.val = b 0) ∧
    (f.kind = 2 → f.claimMux.toNat = 256 * b 1 + b 2 ∧ f.claimSF = 256 * b 3 + b 4) ∧
    (f.kind = 3 →
      f.announced.fitnessFaults.toNat = b 0 ∧ f.announced.cause.number = b 1 ∧
      3 + 6 * f.announced.records.length = f.body.length ∧
      ∀ i r, f.announced.records[i]? = some r →
        r.muxId.toNat = 256 * b (3 + 6 * i) + b (4 + 6 * i) ∧ r.sf = 256 * b (5 + 6 * i) + b (6 + 6 * i) ∧
        (r.lane.map Fin.val).getD 255 = b (7 + 6 * i) ∧ r.state.number = b (8 + 6 * i)) := by
  obtain ⟨lanes, -, -, announces, -⟩ : ¬ (f.kind.val ≤ 2 ∧ 15 < f.bodyByte 0) ∧ _ ∧ _ ∧
      ¬ (f.kind = 3 ∧ (2 < f.bodyByte 1 ∨ (∃ i < (f.body.length - 3) / 6, f.recordWrong i) ∨ _)) ∧ _ := by
    simpa only [Frame.fieldWrong, not_or] using fine
  push Not at lanes announces
  refine ⟨fun low => Frame.lane_val (lanes low), fun _ => ⟨f.claimMux_toNat, num2_eq f 3⟩, fun announce => ?_⟩
  obtain ⟨n, -, long⟩ : ∃ n, n ≤ 4 ∧ f.body.length = 3 + 6 * n := by
    obtain ⟨-, kinds⟩ := listed
    rw [announce] at kinds
    simpa using kinds
  obtain ⟨cause, right, -⟩ := announces announce
  have records := Frame.announced_records long
  refine ⟨rfl, Frame.announced_cause cause, ?_, fun i r there => ?_⟩
  · rw [records, List.length_map, List.length_range, long]
  · rw [records, List.getElem?_map, Option.map_eq_some_iff] at there
    obtain ⟨j, place, rfl⟩ := there
    obtain ⟨below, rfl⟩ := List.getElem?_eq_some_iff.mp place
    rw [List.length_range] at below
    rw [List.getElem_range]
    exact RawRecord.record_spec (right i (by omega))

/-- Settles O43: the fields of a body, and what a heard frame changes. -/
theorem peerFramesUpdatePeerView : Obligations.PeerFramesUpdatePeerView := by
  refine ⟨fun f listed fine => body_spec listed fine, fun f rest s running awake heard => ?_⟩
  have hears : s.Hears f rest := ⟨running, awake, heard⟩
  intro taken
  refine ⟨fun own => ?_, fun other release => congrArg Host.Outcome.next (hears.peer release other),
    fun other announce => ?_⟩
  · exact ⟨fun is => congrArg Host.Outcome.next (hears.clash is own), fun is =>
      congrArg Host.Outcome.next (hears.clash is own),
      fun is => congrArg Host.Outcome.next (hears.clash is own), fun is =>
        congrArg Host.Outcome.next (hears.clash is own)⟩
  · refine ⟨_, congrArg Host.Outcome.next (hears.peer (act := hearAnnounce) announce other), ?_⟩
    generalize acted : hearAnnounce (s.tookHeard rest) f = u
    have is : u = refreshConflicts { s.tookHeard rest with election := { s.election with
      peers := s.election.peers.set f.station (some f.announced) } } := acted.symm
    have peers : (trySend u).election.peers = s.election.peers.set f.station (some f.announced) := by
      rw [rest_trySend, is]
      rfl
    refine ⟨peers, rfl, fun x => ?_, fun x c d bound serves => ?_, fun x unbound => ?_, ?_, ?_⟩
    · rw [elect_trySend, is]
      exact elect_refreshConflicts_only ..
    · rw [elect_trySend, peers, is]
      exact conflict_refreshConflicts_iff (by exact bound) (by exact serves)
    · rw [elect_trySend, is, elect_refreshConflicts_of_unbound (by exact unbound)]
      rfl
    · exact line_trySend_congr (by rw [is]; rfl) (by rw [is]; rfl)
    · rw [rest_trySend, is]
      rfl

end Sys2Proof.Machine
end

section
/-!
A peer's CLAIM and CONTENTION (R123, R134, R135, R136, R139): what they leave in the peer view, and what the port of the
lane does. O44.
-/
namespace Sys2Proof.Machine

theorem Oct.set_get {α : Type} (q : Oct α) (i : Fin 8) : q.set i (q.get i) = q := by
  fin_cases i <;> rfl

/-! ### The port of a lane -/

section Lane
variable {s : State} {x : Port} {c : PortConfig} {lane : Fin 16}

theorem State.portOfLane_of (bound : s.portConfig x = some c)
    (alone : ∀ y q, y ≠ x → s.portConfig y = some q → q.lane ≠ c.lane) : s.portOfLane c.lane = some x := by
  have only (y : Port) : (((s.portConfig y).map PortConfig.lane) == some c.lane) = true ↔ y = x := by
    rw [beq_iff_eq]
    constructor
    · intro same
      obtain ⟨q, there, lanes⟩ := Option.map_eq_some_iff.mp same
      by_contra other
      exact alone y q other there lanes
    · rintro rfl
      rw [bound]
      rfl
  unfold State.portOfLane
  cases found : four.find? fun y => ((s.portConfig y).map PortConfig.lane) == some c.lane with
  | none => exact absurd ((only x).mpr rfl) (List.find?_eq_none.mp found x (mem_four x))
  | some y =>
    have same := List.find?_some found
    exact congrArg some ((only y).mp same)

theorem State.portOfLane_of_none (none_ : ∀ y q, s.portConfig y = some q → q.lane ≠ lane) :
    s.portOfLane lane = none := by
  unfold State.portOfLane
  rw [List.find?_eq_none]
  intro y _ same
  obtain ⟨q, there, lanes⟩ := Option.map_eq_some_iff.mp (beq_iff_eq.mp same)
  exact none_ y q there lanes

theorem betterPair_iff {a b : Nat} {i j : Station} : betterPair a i b j = true ↔ b < a ∨ (a = b ∧ i.val < j.val) := by
  unfold betterPair
  rw [Bool.or_eq_true, Bool.and_eq_true, decide_eq_true_eq, decide_eq_true_eq, beq_iff_eq]

end Lane

/-! ### What a CLAIM leaves in the peer view -/

section View
variable {s t : State} {k : Station} {lane : Fin 16} {f : Frame} {change : ServiceRecord → ServiceRecord}

/-- The peer view once the record of a lane has changed. -/
def State.peersWith (s : State) (k : Station) (lane : Fin 16) (change : ServiceRecord → ServiceRecord) :
    Oct (Option PeerEntry) :=
  s.election.peers.set k ((s.election.peers.get k).map fun v =>
    { v with records := v.records.map fun r => if r.lane = some lane then change r else r })

/-- A record of the sender names the lane. -/
def State.namesLane (s : State) (k : Station) (lane : Fin 16) : Prop :=
  ∃ v r, s.election.peers.get k = some v ∧ r ∈ v.records ∧ r.lane = some lane

theorem ElectionUnit.names_iff : s.election.names k lane = true ↔ s.namesLane k lane := by
  unfold ElectionUnit.names State.namesLane
  cases there : s.election.peers.get k with
  | none => simp
  | some v => simp

theorem State.peersWith_of_unnamed (unnamed : ¬ s.namesLane k lane) : s.peersWith k lane change = s.election.peers := by
  have stays : ((s.election.peers.get k).map fun v : PeerEntry =>
      { v with records := v.records.map fun r => if r.lane = some lane then change r else r }) = s.election.peers.get
        k := by
    cases there : s.election.peers.get k with
    | none => rfl
    | some v =>
      have same : (v.records.map fun r => if r.lane = some lane then change r else r) = v.records :=
        (List.map_congr_left fun r member => if_neg fun named => unnamed ⟨v, r, there, member, named⟩).trans
          (List.map_id' v.records)
      rw [Option.map_some, same]
  unfold State.peersWith
  rw [stays, Oct.set_get]

/-- The record that a CLAIM leaves. -/
def Frame.claimed (f : Frame) (r : ServiceRecord) : ServiceRecord :=
  { r with state := .claiming, sf := f.claimSF, muxId := f.claimMux }

/-- The station once a CLAIM has been entered in the peer view (R123 (1), R124 (2)). -/
structure State.ViewsClaim (s : State) (f : Frame) (lane : Fin 16) (t : State) : Prop where
  rest : t = { s with election := t.election }
  election : t.election =
    { s.election with ports := t.election.ports, peers := s.peersWith f.station lane f.claimed }
  elect : ∀ y, t.elect y = { s.elect y with conflict := (t.elect y).conflict }
  named : s.namesLane f.station lane → ∀ y q v, s.portConfig y = some q → s.slotConfig q.slot = some v →
    ((t.elect y).conflict = true ↔ ∃ i u r, t.election.peers.get i = some u ∧ r ∈ u.records ∧
      r.lane = some q.lane ∧ r.muxId ≠ v.muxId)
  unnamed : ¬ s.namesLane f.station lane → ∀ y, (t.elect y).conflict = (s.elect y).conflict

/-- The station in which a port answers a CLAIM. -/
def State.viewedClaim (s : State) (f : Frame) : State :=
  if s.election.names f.station f.lane then refreshConflicts (s.updRecord f.station f.lane f.claimed) else s

theorem viewsClaim_viewedClaim (s : State) (f : Frame) : s.ViewsClaim f f.lane (s.viewedClaim f) := by
  unfold State.viewedClaim
  by_cases named : s.namesLane f.station f.lane
  · rw [if_pos (ElectionUnit.names_iff.mpr named)]
    exact ⟨rfl, rfl, fun y => elect_refreshConflicts_only .., fun _ y q v bound serves =>
      conflict_refreshConflicts_iff (by exact bound) (by exact serves), fun unnamed => absurd named unnamed⟩
  · rw [if_neg fun is => named (ElectionUnit.names_iff.mp is)]
    exact ⟨rfl, by rw [State.peersWith_of_unnamed named], fun _ => rfl, fun is => absurd is named, fun _ _ => rfl⟩

end View

/-! ### What the port of the lane does -/

section Acts
variable {s t : State} {x : Port} {l : LaneState}

/-- Only one port, its election apart from the conflict indicator, and the line unit have changed. -/
structure State.ActsAt (s : State) (x : Port) (t : State) : Prop where
  others : ∀ y, y ≠ x → t.port y = s.port y ∧ t.elect y = s.elect y
  rest : t = { s with election := t.election, ports := t.ports, line := t.line }
  election : t.election = { s.election with ports := t.election.ports }
  conflict : (t.elect x).conflict = (s.elect x).conflict

theorem State.ActsAt.refl (s : State) (x : Port) : s.ActsAt x s := ⟨fun _ _ => ⟨rfl, rfl⟩, rfl, rfl, rfl⟩

theorem State.actsAt_updElect {g : PortElection → PortElection}
    (keeps : (g (s.elect x)).conflict = (s.elect x).conflict) :
    s.ActsAt x (s.updElect x g) :=
  ⟨fun _ other => ⟨rfl, State.elect_updElect_of_ne _ _ other⟩, rfl, rfl, by rw [State.elect_updElect_self, keeps]⟩

theorem actsAt_withdrawClaim (s : State) (x : Port) (l : LaneState) : s.ActsAt x (withdrawClaim s x l) := by
  unfold withdrawClaim
  refine ⟨fun y other => ⟨?_, ?_⟩, ?_, ?_, ?_⟩
  · rw [State.port_updElect, rest_withdrawFrame]
    rfl
  · rw [State.elect_updElect_of_ne _ _ other, elect_withdrawFrame_of_ne other]
  · rw [rest_withdrawFrame]
    rfl
  · rw [rest_withdrawFrame]
    rfl
  · rw [State.elect_updElect_self, elect_withdrawFrame_self]
    rfl

theorem actsAt_markAndFinish (s : State) (x : Port) (m : FinishMark) : s.ActsAt x (markAndFinish s x m) := by
  refine ⟨fun y other => ⟨State.port_updPort_of_ne _ _ other, State.elect_updElect_of_ne _ _ other⟩, rfl, rfl, ?_⟩
  show ((s.updElect x _).elect x).conflict = _
  rw [State.elect_updElect_self]

theorem elect_enterBackoff_self (s : State) (x : Port) : (enterBackoff s x).elect x =
    { (s.elect x).entered .backoff with backoff := 2 * (s.loader.stationNumber.val + 1) } := by
  unfold enterBackoff
  rw [State.elect_updElect_self, elect_standDown_self, Nat.mul_comm]
  rfl

theorem actsAt_enterBackoff (s : State) (x : Port) : s.ActsAt x (enterBackoff s x) := by
  refine ⟨fun y other => ⟨State.port_updPort_of_ne _ _ other, ?_⟩, rfl, rfl, by rw [elect_enterBackoff_self]; rfl⟩
  unfold enterBackoff
  rw [State.elect_updElect_of_ne _ _ other]
  exact State.elect_updElect_of_ne _ _ other

theorem elect_withdrawClaim_self (s : State) (x : Port) (l : LaneState) : (withdrawClaim s x l).elect x =
    { (s.elect x).entered l with slotMark := ((withdrawFrame s x).elect x).slotMark } := by
  unfold withdrawClaim
  rw [State.elect_updElect_self, elect_withdrawFrame_self]
  rfl

theorem line_withdrawClaim (s : State) (x : Port) (l : LaneState) :
    (withdrawClaim s x l).line = (withdrawFrame s x).line := rfl

theorem port_withdrawClaim (s : State) (x y : Port) (l : LaneState) : (withdrawClaim s x l).port y = s.port y := by
  unfold withdrawClaim
  rw [State.port_updElect, rest_withdrawFrame]
  rfl

theorem elect_markAndFinish_self (s : State) (x : Port) (m : FinishMark) : (markAndFinish s x m).elect x =
    { s.elect x with mark := some m, holdTimer := none } := State.elect_updElect_self ..

theorem port_markAndFinish_self (s : State) (x : Port) (m : FinishMark) : (markAndFinish s x m).port x =
    if (s.port x).onLane = none then
      { s.port x with driversOn := false, notices := (s.port x).notices ++ [.finished] }
    else { s.port x with finishOrder := true } :=
  (State.port_updPort_self ..).trans (PortUnit.finish_eq _)

end Acts

/-! ### A CLAIM at its port (R134, R136) -/

section Claim
variable {s : State} {x : Port} {c : PortConfig} {f : Frame}

/-- The figure that the port's service has published. -/
def State.ownFigure (s : State) (c : PortConfig) : Nat :=
  ((s.interval.published.figures.get c.slot).map FigurePart.sf).getD 0

/-- The CLAIM is better than the station's own pair. -/
def State.beatenBy (s : State) (c : PortConfig) (f : Frame) : Prop :=
  s.ownFigure c < f.claimSF ∨ (f.claimSF = s.ownFigure c ∧ f.station.val < s.loader.stationNumber.val)

theorem portHearsClaim_of_restarting (restarts : s.election.restarting = true) :
    portHearsClaim s x f = s := if_pos restarts

/-- What the port does, by its lane state. -/
theorem portHearsClaim_eq (bound : s.portConfig x = some c) (calm : s.election.restarting = false)
    [Decidable (s.beatenBy c f)] : portHearsClaim s x f =
      match (s.elect x).lane with
      | .released => if s.beatenBy c f then s.updElect x fun e => { e with challenge := 0 } else s
      | .claiming => if s.beatenBy c f then withdrawClaim s x .released else s
      | .driving => if (s.elect x).mark = none ∧ s.ownFigure c + 48 ≤ f.claimSF then markAndFinish s x .handover else s
      | .holding => if (s.elect x).mark = none then markAndFinish s x .dark else s
      | _ => s := by
  have own : s.publishedSF (((s.portConfig x).map PortConfig.slot).getD 0) = s.ownFigure c := by
    rw [bound]
    rfl
  have better : betterPair f.claimSF f.station (s.ownFigure c) s.loader.stationNumber = true ↔ s.beatenBy c
    f := betterPair_iff
  unfold portHearsClaim
  dsimp only
  rw [if_neg (by rw [calm]; exact Bool.false_ne_true), own]
  cases (s.elect x).lane with
  | released => exact if_congr better rfl rfl
  | claiming => exact if_congr better rfl rfl
  | disabled | driving | holding | backoff => rfl

theorem actsAt_portHearsClaim (bound : s.portConfig x = some c) : s.ActsAt x (portHearsClaim s x f) := by
  classical
  cases restarts : s.election.restarting with
  | true =>
    rw [portHearsClaim_of_restarting restarts]
    exact .refl ..
  | false =>
    rw [portHearsClaim_eq bound restarts]
    cases (s.elect x).lane with
    | released => dsimp only; split; exacts [State.actsAt_updElect rfl, .refl ..]
    | claiming => dsimp only; split; exacts [actsAt_withdrawClaim .., .refl ..]
    | driving => dsimp only; split; exacts [actsAt_markAndFinish .., .refl ..]
    | holding => dsimp only; split; exacts [actsAt_markAndFinish .., .refl ..]
    | disabled => exact .refl ..
    | backoff => exact .refl ..

theorem hearClaim_eq (s : State) (f : Frame) : hearClaim s f =
    match (s.viewedClaim f).portOfLane f.lane with
    | some x =>
      if ((s.viewedClaim f).binding x).map Prod.snd = some f.claimMux then portHearsClaim (s.viewedClaim f) x f
      else s.viewedClaim f
    | none => s.viewedClaim f := rfl

theorem hearClaim_of_none (none_ : ∀ y q, s.portConfig y = some q → q.lane ≠ f.lane) :
    hearClaim s f = s.viewedClaim f := by
  have free : (s.viewedClaim f).portOfLane f.lane = none := by
    refine State.portOfLane_of_none fun y q bound => none_ y q ?_
    rw [(viewsClaim_viewedClaim s f).rest] at bound
    exact bound
  rw [hearClaim_eq, free]

theorem hearClaim_of_port {d : ServiceConfig} (bound : s.portConfig x = some c) (serves : s.slotConfig c.slot = some d)
    (lane : f.lane = c.lane) (alone : ∀ y q, y ≠ x → s.portConfig y = some q → q.lane ≠ c.lane) : hearClaim s f =
      if f.claimMux = d.muxId then portHearsClaim (s.viewedClaim f) x f else s.viewedClaim f := by
  have keeps := (viewsClaim_viewedClaim s f).rest
  have there : (s.viewedClaim f).portConfig x = some c := by rw [keeps]; exact bound
  have serves_ : (s.viewedClaim f).slotConfig c.slot = some d := by rw [keeps]; exact serves
  have found : (s.viewedClaim f).portOfLane f.lane = some x := by
    rw [lane]
    refine State.portOfLane_of there fun y q other bound => alone y q other ?_
    rw [keeps] at bound
    exact bound
  rw [hearClaim_eq, found]
  dsimp only
  rw [State.binding_of there serves_, Option.map_some]
  by_cases same : f.claimMux = d.muxId
  · rw [if_pos same, if_pos (congrArg some same.symm)]
  · rw [if_neg same, if_neg fun is => same (Option.some.inj is).symm]

end Claim

/-! ### A CONTENTION at its port (R135 (2), R139 (2)) -/

section Contention
variable {s : State} {x : Port} {c : PortConfig} {f : Frame}

/-- The station in which a port answers a CONTENTION. -/
def State.viewedContention (s : State) (f : Frame) : State :=
  s.updRecord f.station f.lane fun r => { r with state := .backoff }

theorem hearContention_eq (s : State) (f : Frame) : hearContention s f =
    match (s.viewedContention f).portOfLane f.lane with
    | some x =>
      if s.election.restarting then s.viewedContention f
      else if (s.elect x).lane.drives then enterBackoff (s.viewedContention f) x
      else if (s.elect x).lane = .claiming then withdrawClaim (s.viewedContention f) x .released
      else s.viewedContention f
    | none => s.viewedContention f := rfl

theorem hearContention_of_none (none_ : ∀ y q, s.portConfig y = some q → q.lane ≠ f.lane) :
    hearContention s f = s.viewedContention f := by
  have free : (s.viewedContention f).portOfLane f.lane = none := State.portOfLane_of_none none_
  rw [hearContention_eq, free]

theorem hearContention_of_port (bound : s.portConfig x = some c) (lane : f.lane = c.lane)
    (alone : ∀ y q, y ≠ x → s.portConfig y = some q → q.lane ≠ c.lane) : hearContention s f =
      if s.election.restarting then s.viewedContention f
      else if (s.elect x).lane.drives then enterBackoff (s.viewedContention f) x
      else if (s.elect x).lane = .claiming then withdrawClaim (s.viewedContention f) x .released
      else s.viewedContention f := by
  have found : (s.viewedContention f).portOfLane f.lane = some x := by
    rw [lane]
    exact State.portOfLane_of (by exact bound) alone
  rw [hearContention_eq, found]

end Contention

/-! ### What the next state holds -/

section Answer
variable {s w v : State} {f : Frame} {rest : List Frame} {x : Port}

theorem port_trySend (s : State) (x : Port) : (trySend s).port x = s.port x := by
  rw [rest_trySend]
  rfl

end Answer

/-- A CLAIM for a lane of no port. -/
theorem claim_of_none {s : State} {f : Frame} {rest : List Frame} (hears : s.Hears f rest)
    (other : f.station ≠ s.loader.stationNumber) (none_ : ∀ y q, s.portConfig y = some q → q.lane ≠ f.lane)
    (claim : f.kind = 2) : ∃ t, exec .claimFrame s = .next t ∧
      (∀ y, t.elect y = { s.elect y with conflict := (t.elect y).conflict }) ∧
      t = { s with election := t.election, line := (trySend (s.tookHeard rest)).line } ∧
      t.election = { s.election with ports := t.election.ports, peers := s.peersWith f.station f.lane f.claimed } ∧
      (s.namesLane f.station f.lane → ∀ y q v, s.portConfig y = some q → s.slotConfig q.slot = some v →
        ((t.elect y).conflict = true ↔ ∃ i u r, t.election.peers.get i = some u ∧ r ∈ u.records ∧
          r.lane = some q.lane ∧ r.muxId ≠ v.muxId)) ∧
      (¬ s.namesLane f.station f.lane → ∀ y, (t.elect y).conflict = (s.elect y).conflict) := by
  have answer := hears.peer (act := hearClaim) claim other
  rw [hearClaim_of_none (s := s.tookHeard rest) none_] at answer
  refine ⟨_, congrArg Host.Outcome.next answer, ?_⟩
  have views := viewsClaim_viewedClaim (s.tookHeard rest) f
  generalize (s.tookHeard rest).viewedClaim f = v at views
  have line : (trySend v).line = (trySend (s.tookHeard rest)).line :=
    line_trySend_congr (by rw [views.rest]; rfl) (by rw [views.rest])
  have election : (trySend v).election = v.election := by rw [rest_trySend]
  refine ⟨fun y => ?_, ?_, ?_, fun named y q d bound serves => ?_, fun unnamed y => ?_⟩
  · rw [elect_trySend]
    exact views.elect y
  · rw [rest_trySend, line]
    dsimp only
    conv_lhs => rw [views.rest]
    rfl
  · rw [election]
    exact views.election
  · rw [elect_trySend, election]
    exact views.named named y q d bound serves
  · rw [elect_trySend]
    exact views.unnamed unnamed y

end Sys2Proof.Machine
end

section
/-!
A peer's CLAIM and CONTENTION at the port of their lane: O44.
-/
namespace Sys2Proof.Machine

section Outcomes
variable {s v : State} {f : Frame} {rest : List Frame} {x : Port} {lane : Fin 16} {m : FinishMark}

/-- What the port keeps, the conflict indicator apart. -/
def State.KeepsAt (s : State) (rest : List Frame) (x : Port) (t : State) : Prop :=
  t.elect x = { s.elect x with conflict := (t.elect x).conflict } ∧
    (t.line = (trySend (s.tookHeard rest)).line ∧ (t.elect x).slotMark = (s.elect x).slotMark) ∧ t.port x = s.port x

/-- The election of a port has become another, the conflict indicator and the slot mark apart. -/
def State.BecomesAt (t : State) (x : Port) (e : PortElection) : Prop :=
  t.elect x = { e with conflict := (t.elect x).conflict, slotMark := (t.elect x).slotMark }

theorem State.ViewsClaim.slotMark (views : (s.tookHeard rest).ViewsClaim f lane v) :
    (v.elect x).slotMark = (s.elect x).slotMark := by
  rw [views.elect]
  rfl

theorem State.ViewsClaim.port (views : (s.tookHeard rest).ViewsClaim f lane v) : v.port x = s.port x := by
  rw [views.rest]
  rfl

theorem State.ViewsClaim.line (views : (s.tookHeard rest).ViewsClaim f lane v) : v.line = (s.tookHeard rest).line := by
  rw [views.rest]

theorem State.ViewsClaim.works (views : (s.tookHeard rest).ViewsClaim f lane v) :
    v.working = (s.tookHeard rest).working := by
  rw [views.rest]
  rfl

theorem keepsAt_of_viewed (views : (s.tookHeard rest).ViewsClaim f lane v) : s.KeepsAt rest x (trySend v) := by
  refine ⟨?_, ⟨line_trySend_congr views.works views.line, ?_⟩, ?_⟩
  · rw [elect_trySend]
    exact views.elect x
  · rw [elect_trySend]
    exact views.slotMark
  · rw [port_trySend]
    exact views.port

theorem unchallenged_of_viewed (views : (s.tookHeard rest).ViewsClaim f lane v) {t : State}
    (is : t = trySend (v.updElect x fun e => { e with challenge := 0 })) : t.port x = s.port x ∧
      (t.line = (trySend (s.tookHeard rest)).line ∧ (t.elect x).slotMark = (s.elect x).slotMark) ∧
      t.BecomesAt x { s.elect x with challenge := 0 } := by
  have elect : t.elect x = { v.elect x with challenge := 0 } := by rw [is, elect_trySend, State.elect_updElect_self]
  refine ⟨?_, ⟨?_, ?_⟩, ?_⟩
  · rw [is, port_trySend]
    exact views.port
  · rw [is]
    exact line_trySend_congr views.works views.line
  · rw [elect]
    exact views.slotMark
  · unfold State.BecomesAt
    rw [elect, views.elect]
    rfl

theorem marks_of_viewed (views : (s.tookHeard rest).ViewsClaim f lane v) {t : State}
    (is : t = trySend (markAndFinish v x m)) :
      (t.line = (trySend (s.tookHeard rest)).line ∧ (t.elect x).slotMark = (s.elect x).slotMark) ∧
      t.BecomesAt x { s.elect x with mark := some m, holdTimer := none } ∧
      t.port x =
        if (s.port x).onLane = none then
          { s.port x with driversOn := false, notices := (s.port x).notices ++ [.finished] }
        else { s.port x with finishOrder := true } := by
  have elect : t.elect x = { v.elect x with mark := some m, holdTimer := none } := by
    rw [is, elect_trySend, elect_markAndFinish_self]
  refine ⟨⟨?_, ?_⟩, ?_, ?_⟩
  · rw [is]
    exact line_trySend_congr views.works views.line
  · rw [elect]
    exact views.slotMark
  · unfold State.BecomesAt
    rw [elect, views.elect]
    rfl
  · rw [is, port_trySend, port_markAndFinish_self, views.port]

/-- A claiming port withdraws: behind a CLAIM as behind a CONTENTION. -/
theorem withdraws_of {t : State} (same : v.elect x = { s.elect x with conflict := (v.elect x).conflict })
    (moved : v = { s.tookHeard rest with election := v.election }) (is : t = trySend (withdrawClaim v x .released)) :
      t.BecomesAt x ((s.elect x).entered .released) ∧ t.port x = s.port x ∧
      t.line = (trySend (withdrawFrame (s.tookHeard rest) x)).line ∧
      (t.elect x).slotMark = ((withdrawFrame (s.tookHeard rest) x).elect x).slotMark := by
  have elect : t.elect x =
      { (v.elect x).entered .released with slotMark := ((withdrawFrame v x).elect x).slotMark } := by
    rw [is, elect_trySend, elect_withdrawClaim_self]
  refine ⟨?_, ?_, ?_, ?_⟩
  · unfold State.BecomesAt
    rw [elect, same]
    rfl
  · rw [is, port_trySend, port_withdrawClaim, moved]
    rfl
  · rw [is]
    refine line_trySend_congr ?_ ?_
    · rw [rest_withdrawFrame (s.tookHeard rest)]
      unfold withdrawClaim
      rw [rest_withdrawFrame v, moved]
      rfl
    · rw [line_withdrawClaim, line_withdrawFrame, line_withdrawFrame, moved]
  · rw [elect]
    rw [elect_withdrawFrame_self, elect_withdrawFrame_self, same, moved]
    rfl

end Outcomes

section Port
variable {s : State} {f : Frame} {rest : List Frame} {x : Port} {c : PortConfig} {d : ServiceConfig} {lane : Fin 16}
  {v t : State}

/-- What the port of the lane does with a CLAIM for its identifier, by its lane state (R134, R136). -/
theorem claim_at_lane (views : (s.tookHeard rest).ViewsClaim f lane v) (bound : v.portConfig x = some c)
    (calm : s.election.restarting = false) (is : t = trySend (portHearsClaim v x f)) :
    ((s.elect x).lane = .released → t.port x = s.port x ∧
      (t.line = (trySend (s.tookHeard rest)).line ∧ (t.elect x).slotMark = (s.elect x).slotMark) ∧
      ((s.beatenBy c f → t.BecomesAt x { s.elect x with challenge := 0 }) ∧
        (¬ s.beatenBy c f → t.elect x = { s.elect x with conflict := (t.elect x).conflict }))) ∧
    ((s.elect x).lane = .claiming →
      (s.beatenBy c f → t.BecomesAt x ((s.elect x).entered .released) ∧ t.port x = s.port x ∧
        t.line = (trySend (withdrawFrame (s.tookHeard rest) x)).line ∧
        (t.elect x).slotMark = ((withdrawFrame (s.tookHeard rest) x).elect x).slotMark) ∧
      (¬ s.beatenBy c f → s.KeepsAt rest x t)) ∧
    ((s.elect x).lane = .driving →
      ((s.elect x).mark = none ∧ s.ownFigure c + 48 ≤ f.claimSF → t = trySend (markAndFinish v x .handover)) ∧
      (¬ ((s.elect x).mark = none ∧ s.ownFigure c + 48 ≤ f.claimSF) → s.KeepsAt rest x t)) ∧
    ((s.elect x).lane = .holding →
      ((s.elect x).mark = none → t = trySend (markAndFinish v x .dark)) ∧
      ((s.elect x).mark ≠ none → s.KeepsAt rest x t)) ∧
    ((s.elect x).lane = .disabled ∨ (s.elect x).lane = .backoff → s.KeepsAt rest x t) := by
  classical
  have restarting : v.election.restarting = false := by rw [views.election]; exact calm
  have lane : (v.elect x).lane = (s.elect x).lane := by rw [views.elect]; rfl
  have mark : (v.elect x).mark = (s.elect x).mark := by rw [views.elect]; rfl
  have own : v.ownFigure c = s.ownFigure c := by rw [views.rest]; rfl
  have beaten : v.beatenBy c f = s.beatenBy c f := by rw [views.rest]; rfl
  have keeps := keepsAt_of_viewed (x := x) views
  rw [portHearsClaim_eq bound restarting, lane, mark, own] at is
  simp only [beaten] at is
  refine ⟨fun at_ => ?_, fun at_ => ?_, fun at_ => ?_, fun at_ => ?_, ?_⟩
  · rw [at_] at is
    dsimp only at is
    by_cases better : s.beatenBy c f
    · rw [if_pos better] at is
      obtain ⟨port, stands, becomes⟩ := unchallenged_of_viewed views is
      exact ⟨port, stands, fun _ => becomes, fun not_ => absurd better not_⟩
    · rw [if_neg better] at is
      obtain ⟨same, stands, port⟩ := keeps
      rw [is]
      exact ⟨port, stands, fun yes => absurd yes better, fun _ => same⟩
  · rw [at_] at is
    refine ⟨fun better => withdraws_of (views.elect x) views.rest (is.trans (congrArg trySend (if_pos better))),
      fun not_ => ?_⟩
    rw [is]
    dsimp only
    rw [if_neg not_]
    exact keeps
  · rw [at_] at is
    refine ⟨fun both => is.trans (congrArg trySend (if_pos both)), fun not_ => ?_⟩
    rw [is]
    dsimp only
    rw [if_neg not_]
    exact keeps
  · rw [at_] at is
    refine ⟨fun free => is.trans (congrArg trySend (if_pos free)), fun marked => ?_⟩
    rw [is]
    dsimp only
    rw [if_neg marked]
    exact keeps
  · rintro (at_ | at_)
    all_goals rw [at_] at is; rw [is]; exact keeps

end Port

/-- Settles O44: the peer view first, then the port of the lane, by its lane state. -/
theorem portsAnswerClaimAndContention : Obligations.PortsAnswerClaimAndContention := by
  refine ⟨fun f rest s running awake heard other none_ => ?_, ?_⟩
  · have hears : s.Hears f rest := ⟨running, awake, heard⟩
    refine ⟨claim_of_none hears other none_, fun contention => ?_⟩
    refine congrArg Host.Outcome.next ((hears.peer (act := hearContention) contention other).trans ?_)
    rw [hearContention_of_none (s := s.tookHeard rest) none_]
    rfl
  intro x c d f rest s running awake heard other bound serves lane alone taken own beaten e viewed recorded same becomes
    marks stands withdraws
  have hears : s.Hears f rest := ⟨running, awake, heard⟩
  refine ⟨fun claim => ?_, fun contention => ?_⟩
  · have answer := hears.peer (act := hearClaim) claim other
    rw [hearClaim_of_port (s := s.tookHeard rest) bound serves lane alone] at answer
    have views := viewsClaim_viewedClaim (s.tookHeard rest) f
    generalize (s.tookHeard rest).viewedClaim f = v at views answer
    rw [lane] at views
    have there : v.portConfig x = some c := by rw [views.rest]; exact bound
    have acts : v.ActsAt x (if f.claimMux = d.muxId then portHearsClaim v x f else v) := by
      split
      · exact actsAt_portHearsClaim there
      · exact .refl ..
    obtain ⟨w, is⟩ : ∃ w, w = (if f.claimMux = d.muxId then portHearsClaim v x f else v) := ⟨_, rfl⟩
    rw [← is] at answer acts
    have conflict (y : Port) : ((trySend w).elect y).conflict = (v.elect y).conflict := by
      rw [elect_trySend]
      by_cases here : y = x
      · rw [here]; exact acts.conflict
      · rw [(acts.others y here).2]
    have election : (trySend w).election = w.election := by rw [rest_trySend]
    refine ⟨trySend w, congrArg Host.Outcome.next answer, fun y away => ⟨?_, ?_⟩, ?_, ?_,
      fun named y q b bound serves => ?_,
      fun unnamed y => ?_, ?_, ?_⟩
    · rw [port_trySend, (acts.others y away).1]
      exact views.port
    · rw [elect_trySend, (acts.others y away).2]
      exact views.elect y
    · rw [rest_trySend]
      dsimp only
      generalize (trySend w).line = line
      conv_lhs => rw [acts.rest, views.rest]
      rfl
    · rw [election, acts.election, views.election]
      rfl
    · rw [conflict, election]
      have peers : w.election.peers = v.election.peers := by rw [acts.election]
      rw [peers]
      exact views.named named y q b bound serves
    · rw [conflict]
      exact views.unnamed unnamed y
    · intro idle
      have stays : w = v := by
        rw [is]
        obtain restarts | elsewhere := idle
        · split
          · exact portHearsClaim_of_restarting (by rw [views.election]; exact restarts)
          · rfl
        · exact if_neg elsewhere
      rw [stays]
      exact keepsAt_of_viewed views
    · intro calm ours
      rw [if_pos ours] at is
      obtain ⟨released, claiming, driving, holding, out⟩ := claim_at_lane views there calm (congrArg trySend is)
      refine ⟨released, claiming, fun at_ => ?_, fun at_ => ?_, out⟩
      · obtain ⟨marked, kept⟩ := driving at_
        by_cases both : e.mark = none ∧ own + 48 ≤ f.claimSF
        · obtain ⟨stays, election, port⟩ := marks_of_viewed views (marked both)
          refine ⟨stays, fun _ _ => ⟨election, port⟩, fun not_ => ?_⟩
          obtain marked | low := not_
          · exact absurd both.1 marked
          · exact absurd both.2 (not_le.mpr low)
        · obtain ⟨same, stays, port⟩ := kept both
          exact ⟨stays, fun free enough => absurd ⟨free, enough⟩ both, fun _ => ⟨same, port⟩⟩
      · obtain ⟨marked, kept⟩ := holding at_
        by_cases free : e.mark = none
        · obtain ⟨stays, election, port⟩ := marks_of_viewed views (marked free)
          exact ⟨stays, fun _ => ⟨election, port⟩, fun not_ => absurd free not_⟩
        · obtain ⟨same, stays, port⟩ := kept free
          exact ⟨stays, fun yes => absurd yes free, fun _ => ⟨same, port⟩⟩
  · have answer := hears.peer (act := hearContention) contention other
    rw [hearContention_of_port (s := s.tookHeard rest) bound lane alone] at answer
    obtain ⟨v, is⟩ : ∃ v, v = (s.tookHeard rest).viewedContention f := ⟨_, rfl⟩
    rw [← is] at answer
    have moved : v = { s.tookHeard rest with election := v.election } := by rw [is]; rfl
    have election : v.election = { s.election with peers := viewed fun r => { r with state := .backoff } } := by
      rw [is, State.viewedContention, lane]
      rfl
    have elect (y : Port) : v.elect y = s.elect y := by rw [is]; rfl
    have port (y : Port) : v.port y = s.port y := by rw [is]; rfl
    obtain ⟨w, acted⟩ : ∃ w, w = if s.election.restarting then v
      else if e.lane.drives then enterBackoff v x
      else if e.lane = .claiming then withdrawClaim v x .released else v := ⟨_, rfl⟩
    have answer : exec .contentionFrame s = .next (trySend w) := by
      rw [acted]
      exact congrArg Host.Outcome.next answer
    have acts : v.ActsAt x w := by
      rw [acted]
      split
      · exact .refl ..
      · split
        · exact actsAt_enterBackoff ..
        · split
          · exact actsAt_withdrawClaim ..
          · exact .refl ..
    have stays : (trySend v).line = (trySend taken).line := line_trySend_congr (by rw [moved]; rfl) (by rw [moved]; rfl)
    have same : (trySend v).elect x = e := (elect_trySend ..).trans (elect x)
    have keeps : (trySend v).elect x = e ∧ stands (trySend v) ∧ (trySend v).port x = s.port x :=
      ⟨same, ⟨stays, congrArg PortElection.slotMark same⟩, (port_trySend ..).trans (port x)⟩
    refine ⟨trySend w, answer, fun y away => ⟨?_, ?_⟩, ?_, ?_, fun restarts => ?_, fun calm =>
      ⟨fun drives => ?_, fun claims => ?_,
      fun idle => ?_⟩⟩
    · rw [port_trySend, (acts.others y away).1]
      exact port y
    · rw [elect_trySend, (acts.others y away).2]
      exact elect y
    · rw [rest_trySend]
      dsimp only
      generalize (trySend w).line = line
      conv_lhs => rw [acts.rest, moved]
      rfl
    · rw [rest_trySend]
      dsimp only
      rw [acts.election, election]
    · rw [if_pos restarts] at acted
      rw [acted]
      exact keeps
    all_goals rw [if_neg (by rw [calm]; exact Bool.false_ne_true)] at acted
    · rw [if_pos (LaneState.drives_iff.mpr drives)] at acted
      have backs : (trySend w).elect x
        = { e.entered .backoff with backoff := 2 * (s.loader.stationNumber.val + 1) } := by
        rw [elect_trySend, acted, elect_enterBackoff_self, elect, moved]
        rfl
      refine ⟨backs, ⟨?_, ?_⟩, ?_⟩
      · rw [acted]
        exact line_trySend_congr (by rw [moved]; rfl) (by rw [moved]; rfl)
      · rw [backs]
        rfl
      · rw [port_trySend, acted]
        exact (State.port_updPort_self ..).trans (congrArg PortUnit.cutOff (port x))
    · have quiet : e.lane.drives ≠ true := by rw [claims]; decide
      rw [if_neg quiet, if_pos claims] at acted
      refine ⟨withdraws_of (by rw [elect]) moved (congrArg trySend acted), ?_⟩
      rw [elect_trySend, acts.conflict, elect]
    · rw [if_neg fun drives => idle ((LaneState.drives_iff.mp drives).imp id .inl),
        if_neg fun claims => idle (.inr (.inr claims))] at acted
      rw [acted]
      exact keeps

end Sys2Proof.Machine
end

section
/-!
The responder (R189 to R193): the pages by their fields, their lengths, the first part of a page. O53.
-/
namespace Sys2Proof.Machine

/-! ### Fields (Tables 6-4 and 11-1 to 11-4) -/

section Fields

theorem numBytes_three (v : Nat) : numBytes 3 v = bytes3 v := by
  simp [numBytes, bytes3, byte, List.range_succ]

theorem Fitness.number_eq (f : Fitness) : ([.listen, .fit, .unfit, .unconfigured] : List Fitness).idxOf f = f.code := by
  cases f <;> rfl

theorem LaneState.number_eq (l : LaneState) : l.number = l.code := by
  cases l <;> rfl

theorem Cause.number_eq (c : Cause) : c.number = c.code := by
  cases c <;> rfl

theorem PathState.number_eq (l : PathState) :
    ([.parked, .gain, .mode, .timing, .frame, .tracking, .hold] : List PathState).idxOf l = l.code := by
  cases l <;> rfl

theorem Failure.number_eq (l : Failure) :
    ([.noFailure, .noSignal, .noMode, .noTiming, .noFrame, .wrongMux, .holdExpired, .modeMismatch] : List Failure).idxOf
      l =
      l.code := by
  cases l <;> rfl

theorem SymbolMode.number_eq (m : SymbolMode) : ([.short, .long] : List SymbolMode).idxOf m = m.code := by
  cases m <;> rfl

theorem Guard.number_eq (g : Guard) : ([.quarter, .eighth, .sixteenth, .thirtySecond] : List Guard).idxOf g
    = g.code := by
  cases g <;> rfl

theorem CodeRate.number_eq (r : CodeRate) :
    ([.half, .twoThirds, .threeQuarters, .fiveSixths, .sevenEighths] : List CodeRate).idxOf r = r.code := by
  cases r <;> rfl

theorem LineState.number_eq (l : LineState) : ([.idle, .busy, .stuck] : List LineState).idxOf l = l.code := by
  cases l <;> rfl

theorem ServiceState.number_eq (v : ServiceState) : (if v = .dark then 1 else 2) = v.code := by
  cases v <;> rfl

theorem Activity.number_eq (a : Activity) : (if a = .quiet then 0 else 1) = a.code := by
  cases a <;> rfl

theorem byte_toNat_bool (b : Bool) : byte b.toNat = flagByte b := by
  cases b <;> rfl

/-- An absent entry reads FF hex. -/
theorem byte_getD {α : Type} (g : α → Nat) (o : Option α) : byte ((o.map g).getD 255) = (o.map fun a =>
    byte (g a)).getD 0xFF := by
  cases o <;> rfl

theorem byte_getD_nat (o : Option Nat) : byte (o.getD 255) = (o.map byte).getD 0xFF := by
  cases o <;> rfl

theorem faultsByte_eq (f : FitnessUnit) : faultsByte f = [fitnessFaultsByte f.state f.faults] := by
  unfold faultsByte fitnessFaultsByte
  rw [numBytes_one, Fitness.number_eq]
  simp only [List.foldl]
  refine congrArg (fun n => [byte n]) ?_
  ring

theorem readingByte_eq (reading : Int) : readingByte reading = [temperatureByte reading] := by
  unfold readingByte temperatureByte twosComplement clampInt
  rw [numBytes_one, BitVec.toNat_ofInt]
  rfl

theorem twosComplement_eq (x : Int) : twosComplement 24 x = (x % 16777216).toNat := BitVec.toNat_ofInt ..

end Fields

/-! ### Pages by their fields -/

section Pages
variable (s : State)

theorem stackBytes_eq (stack : List Path) :
    stackBytes stack = [0, 1, 2].flatMap fun i => numBytes 1 ((stack.reverse[i]?.map Fin.val).getD 255) := by
  simp only [numBytes_one, byte_getD]
  rfl

theorem blockListBytes_eq (l : List Nat) :
    blockListBytes l = numBytes 1 l.length ++ numBytes 1 (l[0]?.getD 255) ++ numBytes 1 (l[1]?.getD 255) := by
  simp only [numBytes_one, byte_getD_nat]
  rfl

/-- Table 11-1. -/
theorem stationPage_eq : s.stationPage =
    let v : Fin 8 → Byte := fun i => s.freeByte i
    let shown (l : List Nat) : List Byte :=
      numBytes 1 l.length ++ numBytes 1 (l[0]?.getD 255) ++ numBytes 1 (l[1]?.getD 255)
    faultsByte s.fitness ++ numBytes 1 s.loader.cause.number ++ numBytes 2 s.loader.restartCount ++
      readingByte s.thermal.reading ++ numBytes 1 s.thermal.stack.length ++
      ([0, 1, 2].flatMap fun i => numBytes 1 ((s.thermal.stack.reverse[i]?.map Fin.val).getD 255)) ++
      numBytes 1 s.loader.record.memoryAnswered.toNat ++ numBytes 1 s.loader.record.notes ++
      shown s.loader.record.corrected ++ shown s.loader.record.failed ++
      numBytes 1 ((s.fitness.underCheck.map Fin.val).getD 255) ++
      (match s.fitness.lastResult with
        | some r => numBytes 1 r.slot.val ++ numBytes 2 r.checked ++ numBytes 2 r.mismatches
        | none => [255, v 0, v 1, v 2, v 3]) ++
      (match s.fitness.mergeFault with
        | some (k, n) => numBytes 1 k.val ++ numBytes 2 n
        | none => [255, v 4, v 5]) ++
      numBytes 2 (s.fitness.checkValue.getD 0).toNat ++
      (match s.fitness.configFault with
        | some found => 1 :: numBytes 2 found.toNat
        | none => [0, v 6, v 7]) := by
  have last : s.fitness.lastResultBytes s.freeByte = (match s.fitness.lastResult with
      | some r => numBytes 1 r.slot.val ++ numBytes 2 r.checked ++ numBytes 2 r.mismatches
      | none => [255, s.freeByte 0, s.freeByte 1, s.freeByte 2, s.freeByte 3]) := by
    unfold FitnessUnit.lastResultBytes
    cases s.fitness.lastResult with
    | none => rfl
    | some r => simp only [numBytes_one, numBytes_two]; rfl
  have fault : s.fitness.mergeFaultBytes s.freeByte = (match s.fitness.mergeFault with
      | some (k, n) => numBytes 1 k.val ++ numBytes 2 n
      | none => [255, s.freeByte 4, s.freeByte 5]) := by
    unfold FitnessUnit.mergeFaultBytes
    cases s.fitness.mergeFault with
    | none => rfl
    | some r => simp only [numBytes_one, numBytes_two]; rfl
  have config : s.fitness.configFaultBytes s.freeByte = (match s.fitness.configFault with
      | some found => 1 :: numBytes 2 found.toNat
      | none => [0, s.freeByte 6, s.freeByte 7]) := by
    unfold FitnessUnit.configFaultBytes
    cases s.fitness.configFault with
    | none => rfl
    | some r => simp only [numBytes_two]
  unfold State.stationPage
  rw [last, fault, config, stackBytes_eq, blockListBytes_eq, blockListBytes_eq]
  simp only [faultsByte_eq, readingByte_eq, numBytes_one, numBytes_two, byte_getD, byte_toNat_bool,
    Cause.number_eq, List.append_assoc, List.cons_append, List.nil_append]
  rfl

/-- Table 11-2. -/
theorem pathPage_eq (p : Path) : ∃ a b c : Byte,
    let u := s.path p
    let part := s.interval.published.paths.get p
    let n := part.counters
    s.pathPage p =
      numBytes 1 (([.parked, .gain, .mode, .timing, .frame, .tracking, .hold] : List PathState).idxOf u.state) ++
      numBytes 1 u.candidateIndex ++ numBytes 1 u.attempts ++
      numBytes 1 (([.noFailure, .noSignal, .noMode, .noTiming, .noFrame, .wrongMux, .holdExpired,
        .modeMismatch] : List Failure).idxOf u.lastFailure) ++
      (match u.measurements with
        | some m => numBytes 2 m.mer ++ numBytes 1 m.level ++ numBytes 3 (m.offset % 16777216).toNat
        | none => List.replicate 6 255) ++
      (match u.decoded with
        | some d =>
          numBytes 1 (([.short, .long] : List SymbolMode).idxOf d.symbolMode) ++
          numBytes 1 (([.quarter, .eighth, .sixteenth, .thirtySecond] : List Guard).idxOf d.guard) ++
          numBytes 1
            (([.half, .twoThirds, .threeQuarters, .fiveSixths, .sevenEighths] : List CodeRate).idxOf d.codeRate) ++
          numBytes 2 d.n ++ numBytes 2 d.muxId.toNat
        | none => List.replicate 7 255) ++
      (match u.counter with
        | some q => numBytes 1 q.superframe.val ++ numBytes 1 q.frame.val ++ numBytes 2 q.packet
        | none => [a, 255, b, c]) ++
      numBytes 2 n.delivered ++ numBytes 2 n.clean ++ numBytes 2 n.correctedPackets ++
      numBytes 3 n.correctedBytes ++ numBytes 2 n.uncorrectable ++ numBytes 2 n.refused ++
      numBytes 2 n.slips ++ numBytes 2 n.continuityFaults ++ numBytes 4 part.cumulativeUncorrectable := by
  refine ⟨s.freeByte 0, s.freeByte 1, s.freeByte 2, ?_⟩
  unfold State.pathPage measurementBytes decodedBytes counterBytes PathCounters.bytes
  simp only [numBytes_one, numBytes_two, numBytes_three, numBytes_four, PathState.number_eq, Failure.number_eq,
    SymbolMode.number_eq, Guard.number_eq, CodeRate.number_eq, twosComplement_eq, List.append_assoc]
  cases (s.path p).measurements <;> cases (s.path p).decoded <;> cases (s.path p).counter <;> rfl

/-- Table 11-3. -/
theorem servicePage_eq {k : SlotNo} {c : ServiceConfig} (configured : s.slotConfig k = some c) :
    let f := (s.interval.published.figures.get k).getD ⟨0, 0, 0, 0, 0⟩
    let n := ((s.interval.published.services.get k).map ServicePart.counters).getD ServiceCounters.reset
    s.servicePage k =
      numBytes 1 (if (s.service k).state = .dark then 1 else 2) ++
      numBytes 2 f.sf ++ numBytes 2 f.mer ++ numBytes 2 f.p ++ numBytes 2 f.u ++ numBytes 3 f.c ++
      numBytes 2 n.resolved ++ numBytes 2 n.outputUncorrectable ++ numBytes 2 n.missing ++
      numBytes 3 n.correctedBytes ++ numBytes 2 n.forced ++ numBytes 1 n.windowPeak ++
      numBytes 1 n.darkMark.toNat ++
      ([0, 1, 2, 3].flatMap fun p =>
        if c.contributors.get p then
          numBytes 2 (n.selected.get p) ++ numBytes 2 (n.unselected.get p) ++ numBytes 2 (n.late.get p)
        else List.replicate 6 0) ++
      numBytes 4 n.cumulativeMissing ++ numBytes 4 n.cumulativeOutputUncorrectable := by
  unfold State.servicePage FigurePart.bytes ServiceCounters.bytes pathCountBytes
  rw [configured]
  simp only [numBytes_one, numBytes_two, numBytes_three, numBytes_four, ServiceState.number_eq, byte_toNat_bool,
    List.append_assoc]
  rfl

/-- Table 11-4, a port. -/
theorem portBytes_fields (x : Port) : s.portBytes x =
    match s.portConfig x with
    | some c =>
      let q := s.interval.published.ports.get x
      let n := q.counters
      numBytes 1 (s.elect x).lane.number ++ numBytes 1 c.lane.val ++ numBytes 1 (s.elect x).conflict.toNat ++
      numBytes 1 q.fill ++ numBytes 1 q.peak ++ numBytes 3 (q.rEst.getD 16777215) ++
      numBytes 2 (q.rOut.getD 65535) ++ numBytes 1 (if q.activity = .quiet then 0 else 1) ++
      numBytes 2 n.marked ++ numBytes 2 n.nulled ++ numBytes 2 n.omitted ++ numBytes 2 n.sent ++
      numBytes 2 n.stuffed ++ numBytes 2 n.overflow ++ numBytes 2 n.shadowDiscards ++
      numBytes 2 n.contentionEvents ++ numBytes 4 (s.elect x).refused
    | none => [0, 255, 0, 0, 0, 255, 255, 255, 255, 255] ++ List.replicate 21 0 := by
  unfold State.portBytes
  cases s.portConfig x with
  | none => rfl
  | some c =>
    unfold PortPart.bytes
    simp only [numBytes_one, numBytes_two, numBytes_three, numBytes_four, LaneState.number_eq, Activity.number_eq,
      byte_toNat_bool, List.append_assoc]
    rfl

theorem peerBytes_eq (o : Option PeerEntry) : peerBytes o =
    match o with
    | some e => numBytes 1 e.age ++ [e.fitnessFaults] ++ numBytes 1 e.cause.number
    | none => [255, 255, 255] := by
  cases o with
  | none => rfl
  | some e => simp only [numBytes_one, Cause.number_eq]; rfl

theorem linePage_eq : s.linePage =
    let n := s.line.counters
    numBytes 4 n.badCheck ++ numBytes 4 n.truncated ++ numBytes 4 n.badLength ++ numBytes 4 n.badField ++
      numBytes 4 n.numberClashes ++ numBytes 4 n.arbitrationLosses ++ numBytes 4 n.readbackFaults ++
      numBytes 4 n.stuckEpisodes ++ numBytes 1 (([.idle, .busy, .stuck] : List LineState).idxOf s.line.state) := by
  unfold State.linePage LineCounters.bytes
  simp only [numBytes_one, numBytes_four, LineState.number_eq]

end Pages

/-! ### Lengths -/

section Lengths
variable (s : State)

theorem length_stationPage : s.stationPage.length = 31 := by
  unfold State.stationPage FitnessUnit.lastResultBytes FitnessUnit.mergeFaultBytes FitnessUnit.configFaultBytes
  cases s.fitness.lastResult <;> cases s.fitness.mergeFault <;> cases s.fitness.configFault <;> rfl

theorem length_measurementBytes (o : Option Measurement) : (measurementBytes o).length = 6 := by
  cases o <;> rfl

theorem length_decodedBytes (o : Option Decoded) : (decodedBytes o).length = 7 := by
  cases o <;> rfl

theorem length_counterBytes (o : Option Position) (free : Nat → Byte) : (counterBytes o free).length = 4 := by
  cases o <;> rfl

theorem length_pathPage (p : Path) : (s.pathPage p).length = 42 := by
  unfold State.pathPage
  simp only [List.length_append, length_measurementBytes, length_decodedBytes, length_counterBytes]
  rfl

theorem length_pathCountBytes (c : ServiceCounters) (contributors : Quad Bool) :
    (pathCountBytes c contributors).length = 24 := by
  have six (p : Path) : (if contributors.get p then bytes2 (c.selected.get p) ++ bytes2 (c.unselected.get p) ++
      bytes2 (c.late.get p) else List.replicate 6 0).length = 6 := by split <;> rfl
  unfold pathCountBytes four
  simp only [List.flatMap_cons, List.flatMap_nil, List.length_append, six, List.length_nil]

theorem length_servicePage (k : SlotNo) : (s.servicePage k).length = if (s.slotConfig k).isSome then 57 else 1 := by
  unfold State.servicePage
  cases s.slotConfig k with
  | none => rfl
  | some c =>
    unfold ServiceCounters.bytes
    simp only [List.length_append, length_pathCountBytes]
    rfl

theorem length_portBytes (x : Port) : (s.portBytes x).length = 31 := by
  unfold State.portBytes
  cases s.portConfig x <;> rfl

theorem length_peerBytes (o : Option PeerEntry) : (peerBytes o).length = 3 := by
  cases o <;> rfl

/-- One of several parts of the same length. -/
theorem part_flatMap {α : Type} {g : α → List Byte} {w : Nat} (long : ∀ a, (g a).length = w) :
    ∀ {l : List α} {i : Nat} (below : i < l.length), ((l.flatMap g).drop (w * i)).take w = g l[i]
  | a :: l, 0, _ => by
    rw [List.flatMap_cons, Nat.mul_zero, List.drop_zero, List.take_left' (long a), List.getElem_cons_zero]
  | a :: l, i + 1, below => by
    rw [List.flatMap_cons, Nat.mul_succ, Nat.add_comm, ← List.drop_drop, List.drop_left' (long a),
      List.getElem_cons_succ]
    exact part_flatMap long (Nat.lt_of_succ_lt_succ below)

theorem part_portsPage (x : Port) : (s.portsPage.drop (31 * x.val)).take 31 = s.portBytes x := by
  have place : four[x.val] = x := by fin_cases x <;> rfl
  unfold State.portsPage
  exact (part_flatMap (length_portBytes s) (l := four) (i := x.val) x.isLt).trans (congrArg s.portBytes place)

theorem part_peerPage (i : Station) : (s.peerPage.drop (3 * i.val)).take 3 = peerBytes (s.election.peers.get i) := by
  have place : eight[i.val] = i := by fin_cases i <;> rfl
  unfold State.peerPage
  exact (part_flatMap (fun _ => length_peerBytes _) (l := eight) (i := i.val) i.isLt).trans
    (congrArg (fun j => peerBytes (s.election.peers.get j)) place)

theorem length_portsPage : s.portsPage.length = 124 := by
  unfold State.portsPage four
  simp only [List.flatMap_cons, List.flatMap_nil, List.length_append, length_portBytes, List.length_nil]

theorem length_peerPage : s.peerPage.length = 24 := by
  unfold State.peerPage eight
  simp only [List.flatMap_cons, List.flatMap_nil, List.length_append, length_peerBytes, List.length_nil]

/-! ### Pages by their numbers (R189 (1)) -/

theorem pageContent_of_station {n : Nat} (is : n = 0 ∨ 11 < n) : s.pageContent n = s.stationPage := by
  obtain rfl | above := is
  · rfl
  · obtain ⟨k, rfl⟩ := Nat.exists_eq_add_of_lt above
    rw [show 11 + k + 1 = k + 12 by ring]
    rfl

theorem pageContent_path (p : Path) : s.pageContent (1 + p.val) = s.pathPage p := by
  fin_cases p <;> rfl

theorem pageContent_service (k : SlotNo) : s.pageContent (5 + k.val) = s.servicePage k := by
  fin_cases k <;> rfl

theorem pageContent_tookHeard (rest : List Frame) (n : Nat) : (s.tookHeard rest).pageContent n = s.pageContent n := by
  unfold State.pageContent
  split <;> rfl

/-- R189 (3): part 0 of a page. -/
theorem placePart_zero (page : Nat) (content : List Byte) : placePart s page content 0 =
    { s with reply := some ⟨page, content, 0, s.line.serial⟩ }.placeFrame .report
      ⟨5, s.loader.stationNumber, byte page :: content.take 31⟩ := by
  unfold placePart partOf reportOf
  rw [Nat.mul_zero, Nat.zero_add, List.drop_zero]

end Lengths

/-- Settles O53: the QUERY by its station number, then the pages one by one. -/
theorem queryPlacesFirstPartOfPage : Obligations.QueryPlacesFirstPartOfPage := by
  refine ⟨fun f rest s running awake heard query => ?_, fun s => ?_⟩
  · have hears : s.Hears f rest := ⟨running, awake, heard⟩
    intro taken asked page
    refine ⟨fun other => congrArg Host.Outcome.next (hears.notAddressed query other), fun own => ?_⟩
    refine congrArg Host.Outcome.next ((hears.addressed query own).trans (congrArg trySend ?_))
    have asks : (f.body.getD 0 0).toNat = asked := by
      show _ = (f.body.headD 0).toNat
      cases f.body <;> rfl
    rw [asks]
    show answerQuery (s.tookHeard rest) asked = _
    unfold answerQuery
    rw [placePart_zero, pageContent_tookHeard]
    rfl
  · refine ⟨fun n is => ?_, fun n low high => ?_, fun n _ _ k is => ?_, length_portsPage s, length_peerPage s, rfl,
      ⟨fun i => s.freeByte i, stationPage_eq s⟩, fun p => ?_, fun k c configured => ?_, fun k none_ => ?_, fun x => ?_,
      fun i => ?_, linePage_eq s⟩
    · rw [pageContent_of_station s is, length_stationPage]
    · have page := pageContent_path s ⟨n - 1, by omega⟩
      rw [Nat.add_sub_cancel' low] at page
      rw [page, length_pathPage]
    · rw [is, pageContent_service, length_servicePage]
    · rw [pageContent_path]
      exact pathPage_eq s p
    · rw [pageContent_service]
      exact servicePage_eq s configured
    · rw [pageContent_service]
      unfold State.servicePage
      rw [none_]
    · exact (part_portsPage s x).trans (portBytes_fields s x)
    · exact (part_peerPage s i).trans (peerBytes_eq _)

end Sys2Proof.Machine
end

section
/-!
The check code of a block (R175): one flipped bit turns the parity and adds its number to the syndrome. O7.
-/
namespace Sys2Proof.Machine

/-! ### Ones by their numbers -/

section Numbers
variable {ns : List Nat} {bs : List Bool} {k : Nat}

/-- The numbers of the bits at 1, of any bits with numbers. -/
def onesAmong (ns : List Nat) (bs : List Bool) : List Nat :=
  (ns.zip bs).filterMap fun b => if b.2 then some b.1 else none

theorem onesAmong_cons (n : Nat) (b : Bool) :
    onesAmong (n :: ns) (b :: bs) = if b then n :: onesAmong ns bs else onesAmong ns bs := by
  cases b <;> rfl

theorem foldl_xor (a : Nat) (l : List Nat) : l.foldl Nat.xor a = a ^^^ l.foldl Nat.xor 0 := by
  induction l generalizing a with
  | nil => exact (Nat.xor_zero a).symm
  | cons b l ih =>
    rw [List.foldl_cons, List.foldl_cons, ih, ih (Nat.xor 0 b)]
    show (a ^^^ b) ^^^ _ = a ^^^ ((0 ^^^ b) ^^^ _)
    rw [Nat.zero_xor, Nat.xor_assoc]

theorem foldl_xor_cons (n : Nat) (l : List Nat) : (n :: l).foldl Nat.xor 0 = n ^^^ l.foldl Nat.xor 0 := by
  rw [List.foldl_cons, foldl_xor]
  exact congrArg (· ^^^ _) (Nat.zero_xor n)

theorem flipAt_zero (b : Bool) (bs : List Bool) : flipAt (b :: bs) 0 = (!b) :: bs := rfl

theorem flipAt_succ (b : Bool) (bs : List Bool) (k : Nat) : flipAt (b :: bs) (k + 1) = b :: flipAt bs k := rfl

/-- A flipped bit adds its number to the syndrome. -/
theorem syndrome_flipAt (numbered : k < ns.length) (there : k < bs.length) :
    (onesAmong ns (flipAt bs k)).foldl Nat.xor 0 = (onesAmong ns bs).foldl Nat.xor 0 ^^^ ns[k] := by
  induction k generalizing ns bs with
  | zero =>
    obtain ⟨n, ns, rfl⟩ := List.exists_cons_of_length_pos numbered
    obtain ⟨b, bs, rfl⟩ := List.exists_cons_of_length_pos there
    rw [flipAt_zero, onesAmong_cons, onesAmong_cons, List.getElem_cons_zero]
    cases b
    · rw [Bool.not_false, if_pos rfl, if_neg Bool.false_ne_true, foldl_xor_cons, Nat.xor_comm]
    · rw [Bool.not_true, if_pos rfl, if_neg Bool.false_ne_true, foldl_xor_cons, Nat.xor_comm n, Nat.xor_assoc,
        Nat.xor_self,
        Nat.xor_zero]
  | succ k ih =>
    obtain ⟨n, ns, rfl⟩ := List.exists_cons_of_length_pos (Nat.zero_lt_of_lt numbered)
    obtain ⟨b, bs, rfl⟩ := List.exists_cons_of_length_pos (Nat.zero_lt_of_lt there)
    have later := ih (Nat.lt_of_succ_lt_succ numbered) (Nat.lt_of_succ_lt_succ there)
    rw [flipAt_succ, onesAmong_cons, onesAmong_cons, List.getElem_cons_succ]
    cases b
    · exact later
    · rw [if_pos rfl, if_pos rfl, foldl_xor_cons, foldl_xor_cons, later, Nat.xor_assoc]

/-- A flipped bit turns the parity. -/
theorem parity_flipAt (numbered : k < ns.length) (there : k < bs.length) :
    (onesAmong ns (flipAt bs k)).length % 2 = ((onesAmong ns bs).length + 1) % 2 := by
  induction k generalizing ns bs with
  | zero =>
    obtain ⟨n, ns, rfl⟩ := List.exists_cons_of_length_pos numbered
    obtain ⟨b, bs, rfl⟩ := List.exists_cons_of_length_pos there
    rw [flipAt_zero, onesAmong_cons, onesAmong_cons]
    cases b
    · rfl
    · exact (Nat.add_mod_right ..).symm
  | succ k ih =>
    obtain ⟨n, ns, rfl⟩ := List.exists_cons_of_length_pos (Nat.zero_lt_of_lt numbered)
    obtain ⟨b, bs, rfl⟩ := List.exists_cons_of_length_pos (Nat.zero_lt_of_lt there)
    have later := ih (Nat.lt_of_succ_lt_succ numbered) (Nat.lt_of_succ_lt_succ there)
    rw [flipAt_succ, onesAmong_cons, onesAmong_cons]
    cases b
    · exact later
    · rw [if_pos rfl, if_pos rfl, List.length_cons, List.length_cons]
      omega

end Numbers

/-! ### A block with a flipped bit -/

section Flips
variable {b : Block} {i : Nat}

theorem getElem_natBits {w n k : Nat} (below : k < w) :
    (natBits w n)[k]'(by rw [length_natBits]; exact below) = n.testBit (w - 1 - k) := by
  induction w generalizing k with
  | zero => exact absurd below (Nat.not_lt_zero k)
  | succ w ih =>
    cases k with
    | zero => rfl
    | succ k =>
      refine (ih (Nat.lt_of_succ_lt_succ below)).trans (congrArg n.testBit ?_)
      omega

theorem getLsbD_flip {j : Nat} (below : j < 72) : (b ^^^ (1#72 <<< i)).getLsbD j = (b.getLsbD j ^^ decide (j = i)) := by
  rw [BitVec.getLsbD_xor, BitVec.getLsbD_shiftLeft]
  refine congrArg (b.getLsbD j ^^ ·) ?_
  rw [BitVec.getLsbD_one]
  by_cases here : j = i
  · subst here; simp [below]
  · rw [decide_eq_false here]
    by_cases low : j < i
    · simp [low]
    · have apart : j - i ≠ 0 := by omega
      simp [apart]

/-- The bits of a block with one bit flipped. -/
theorem natBits_flip (below : i < 72) :
    natBits 72 (b ^^^ (1#72 <<< i)).toNat = flipAt (natBits 72 b.toNat) (71 - i) := by
  have inside : 71 - i < (natBits 72 b.toNat).length := by rw [length_natBits]; omega
  refine List.ext_getElem (by rw [length_flipAt, length_natBits, length_natBits]) fun k short _ => ?_
  rw [length_natBits] at short
  have bit : (natBits 72 (b ^^^ (1#72 <<< i)).toNat)[k]'(by rw [length_natBits]; exact short) =
      (b.getLsbD (71 - k) ^^ decide (71 - k = i)) := (getElem_natBits short).trans (getLsbD_flip (by omega))
  rw [bit]
  simp only [flipAt_eq inside, List.getElem_set, getElem_natBits short,
    getElem_natBits (show 71 - i < 72 by omega)]
  by_cases here : k = 71 - i
  · subst here
    rw [if_pos rfl, show 71 - (71 - i) = i by omega, decide_eq_true rfl, Bool.xor_true]
    exact congrArg (! b.toNat.testBit ·) (by omega)
  · rw [if_neg (Ne.symm here), decide_eq_false (by omega), Bool.xor_false]
    rfl

theorem length_bitNumbers : bitNumbers.length = 72 := by decide

theorem bitNumbers_nodup : bitNumbers.Nodup := by decide

theorem bitNumbers_le : ∀ n ∈ bitNumbers, n ≤ 71 := by decide

theorem onesOf_eq (b : Block) : onesOf b = onesAmong bitNumbers (natBits 72 b.toNat) := rfl

/-- The number of a bit, by its place from the least significant one. -/
def numberAt (i : Nat) : Nat := bitNumbers.getD (71 - i) 0

theorem numberAt_eq (i : Nat) : numberAt i = bitNumbers[71 - i]'(by rw [length_bitNumbers]; omega) :=
  List.getD_eq_getElem ..

theorem numberAt_le (i : Nat) : numberAt i ≤ 71 := by
  rw [numberAt_eq]
  exact bitNumbers_le _ (List.getElem_mem _)

theorem idxOf_numberAt (i : Nat) : bitNumbers.idxOf (numberAt i) = 71 - i := by
  rw [numberAt_eq]
  exact bitNumbers_nodup.idxOf_getElem _ _

theorem syndrome_flip (below : i < 72) : syndrome (b ^^^ (1#72 <<< i)) = syndrome b ^^^ numberAt i := by
  rw [numberAt_eq]
  unfold syndrome
  rw [onesOf_eq, onesOf_eq, natBits_flip below]
  exact syndrome_flipAt _ (by rw [length_natBits]; omega)

theorem oddParity_flip (below : i < 72) : oddParity (b ^^^ (1#72 <<< i)) = !oddParity b := by
  have turned : (onesOf (b ^^^ (1#72 <<< i))).length % 2 = ((onesOf b).length + 1) % 2 := by
    rw [onesOf_eq, onesOf_eq, natBits_flip below]
    exact parity_flipAt (by rw [length_bitNumbers]; omega) (by rw [length_natBits]; omega)
  unfold oddParity
  rw [turned]
  obtain even | odd := Nat.mod_two_eq_zero_or_one (onesOf b).length
  · rw [Nat.succ_mod_two_eq_one_iff.mpr even, even]; rfl
  · rw [Nat.succ_mod_two_eq_zero_iff.mpr odd, odd]; rfl

theorem oddParity_allOnes : oddParity (BitVec.allOnes 72) = false := by decide +kernel

end Flips

/-! ### Decoding -/

section Decode
variable {b : Block} {i j : Nat}

theorem decodeBits_good_iff : decodeBits b = .good ↔ b ≠ BitVec.allOnes 72 ∧ oddParity b = false ∧ syndrome b = 0 := by
  unfold decodeBits
  split_ifs with ones odd low zero
  · exact ⟨nofun, fun ⟨not_, _⟩ => absurd ones not_⟩
  · exact ⟨nofun, fun ⟨_, even, _⟩ => absurd (odd.symm.trans even) (Ne.symm Bool.false_ne_true)⟩
  · exact ⟨nofun, fun ⟨_, even, _⟩ => absurd (odd.symm.trans even) (Ne.symm Bool.false_ne_true)⟩
  · exact ⟨fun _ => ⟨ones, Bool.eq_false_iff.mpr odd, zero⟩, fun _ => rfl⟩
  · exact ⟨nofun, fun ⟨_, _, none_⟩ => absurd none_ zero⟩

theorem decodeBits_of_odd (odd : oddParity b = true) (low : syndrome b ≤ 71) : decodeBits b = .corrected := by
  unfold decodeBits
  rw [if_neg, if_pos odd, if_pos low]
  intro ones
  rw [ones, oddParity_allOnes] at odd
  exact Bool.false_ne_true odd

theorem decodeBits_of_even (even : oddParity b = false) (wrong : syndrome b ≠ 0) : decodeBits b = .failed := by
  unfold decodeBits
  rw [even, if_neg Bool.false_ne_true, if_neg wrong, ite_self]

theorem readData_of_failed (failed : decodeBits b = .failed) : readData b = none := by
  unfold readData
  rw [failed]

theorem flipNumbered_flip (below : i < 72) : flipNumbered (b ^^^ (1#72 <<< i)) (numberAt i) = b := by
  unfold flipNumbered
  rw [idxOf_numberAt, show 71 - (71 - i) = i by omega, BitVec.xor_assoc, BitVec.xor_self, BitVec.xor_zero]

theorem numberAt_injective (first : i < 72) (second : j < 72) (apart : i ≠ j) : numberAt i ≠ numberAt j := by
  intro same
  have places := congrArg bitNumbers.idxOf same
  rw [idxOf_numberAt, idxOf_numberAt] at places
  omega

end Decode

/-- Settles O7: parity and syndrome behind one flip and behind two. -/
theorem checkCodeCorrectsOneFlipDetectsTwo : Obligations.CheckCodeCorrectsOneFlipDetectsTwo := by
  unfold Obligations.CheckCodeCorrectsOneFlipDetectsTwo
  intro numbers b good
  have listed : numbers = bitNumbers := by decide
  obtain ⟨-, even, zero⟩ := decodeBits_good_iff.mp good
  refine ⟨?_, fun i below => ?_, fun i first j second apart => ?_⟩
  · unfold readData
    rw [good]
    rfl
  · have number : syndrome (b ^^^ (1#72 <<< i)) = numberAt i := by rw [syndrome_flip below, zero, Nat.zero_xor]
    have corrected : decodeBits (b ^^^ (1#72 <<< i)) = .corrected :=
      decodeBits_of_odd (by rw [oddParity_flip below, even]; rfl) (by rw [number]; exact numberAt_le i)
    refine ⟨corrected, ?_, ?_⟩
    · rw [number, numberAt_eq, listed]
      exact List.getElem?_eq_getElem _
    · unfold readData
      rw [corrected]
      dsimp only
      rw [number, flipNumbered_flip below]
      rfl
  · have failed : decodeBits (b ^^^ (1#72 <<< i) ^^^ (1#72 <<< j)) = .failed := by
      refine decodeBits_of_even ?_ ?_
      · rw [oddParity_flip second, oddParity_flip first, even]
        rfl
      · rw [syndrome_flip second, syndrome_flip first, zero, Nat.zero_xor]
        exact fun same => numberAt_injective first second apart (Nat.xor_eq_zero_iff.mp same)
    exact ⟨failed, readData_of_failed failed⟩

end Sys2Proof.Machine
end

section
/-!
Steps of the election unit port by port (R127, R141): each port's step leaves what the other ports' steps see, so a run
over the ports is told at one port by its own step.
-/
namespace Sys2Proof.Machine

/-! ### What a port's step leaves -/

/-- A retry mark is of a slot with nothing pending. -/
def LineUnit.retryIdle (l : LineUnit) : Prop := ∀ k, l.retry = some k → l.slots.get k = none

/-- Steps of the election unit at its ports change the ports, their elections and their transmit slots alone. -/
structure State.LaneFrame (s t : State) : Prop where
  rest : t = { s with ports := t.ports, election := { s.election with ports := t.election.ports }, line := t.line }
  line : t.line = { s.line with
    slots := t.line.slots, retry := t.line.retry, serial := t.line.serial, flight := t.line.flight }
  announce : t.line.slots.announce = s.line.slots.announce
  report : t.line.slots.report = s.line.slots.report
  flight : t.line.flight.map Flight.slot = s.line.flight.map Flight.slot
  retry : s.line.retryIdle → t.line.retryIdle

/-- They have left one port alone. -/
structure State.Apart (x : Port) (s t : State) : Prop extends s.LaneFrame t where
  elect : t.elect x = s.elect x
  port : t.port x = s.port x
  slot : t.line.slots.get (.lane x) = s.line.slots.get (.lane x)
  own : ∀ g : Flight, g.slot = .lane x → (t.line.flight = some g ↔ s.line.flight = some g)

/-- They have touched one port at most. -/
structure State.Touches (x : Port) (s t : State) : Prop where
  frame : s.LaneFrame t
  others : ∀ y, y ≠ x → s.Apart y t

section Frames
variable {s t u : State} {x y : Port}

theorem State.LaneFrame.refl (s : State) : s.LaneFrame s := ⟨rfl, rfl, rfl, rfl, rfl, id⟩

theorem State.LaneFrame.trans (first : s.LaneFrame t) (second : t.LaneFrame u) : s.LaneFrame u where
  rest := by
    have later := second.rest
    rw [first.rest] at later
    exact later
  line := by
    have later := second.line
    rw [first.line] at later
    exact later
  announce := second.announce.trans first.announce
  report := second.report.trans first.report
  flight := second.flight.trans first.flight
  retry := second.retry ∘ first.retry

theorem State.Apart.refl (x : Port) (s : State) : State.Apart x s s := ⟨.refl s, rfl, rfl, rfl, fun _ _ => Iff.rfl⟩

theorem State.Apart.trans (first : State.Apart x s t) (second : State.Apart x t u) : State.Apart x s u where
  toLaneFrame := first.toLaneFrame.trans second.toLaneFrame
  elect := second.elect.trans first.elect
  port := second.port.trans first.port
  slot := second.slot.trans first.slot
  own g mine := (second.own g mine).trans (first.own g mine)

theorem State.Touches.refl (x : Port) (s : State) : State.Touches x s s := ⟨.refl s, fun y _ => .refl y s⟩

theorem State.Touches.trans (first : State.Touches x s t) (second : State.Touches x t u) : State.Touches x s u :=
  ⟨first.frame.trans second.frame, fun y other => (first.others y other).trans (second.others y other)⟩

theorem State.Apart.config (apart : State.Apart x s t) : t.config = s.config := by rw [apart.rest]

theorem State.LaneFrame.flightNone (frame : s.LaneFrame t) : t.line.flight = none ↔ s.line.flight = none := by
  rw [← Option.map_eq_none_iff (f := Flight.slot), frame.flight, Option.map_eq_none_iff]

theorem touches_updElect (s : State) (x : Port) (f : PortElection → PortElection) :
    State.Touches x s (s.updElect x f) :=
  have frame : s.LaneFrame (s.updElect x f) := ⟨rfl, rfl, rfl, rfl, rfl, id⟩
  ⟨frame, fun _ other => ⟨frame, State.elect_updElect_of_ne s f other, rfl, rfl, fun _ _ => Iff.rfl⟩⟩

theorem touches_updPort (s : State) (x : Port) (f : PortUnit → PortUnit) : State.Touches x s (s.updPort x f) :=
  have frame : s.LaneFrame (s.updPort x f) := ⟨rfl, rfl, rfl, rfl, rfl, id⟩
  ⟨frame, fun _ other => ⟨frame, rfl, State.port_updPort_of_ne s f other, rfl, fun _ _ => Iff.rfl⟩⟩

theorem LineUnit.retryIdle_place {l : LineUnit} (k : TxSlot) (f : Frame) (idle : l.retryIdle) :
    (l.place k f).retryIdle := by
  intro j marked
  have kept : (if l.retry = some k then none else l.retry) = some j := marked
  split at kept
  · exact absurd kept nofun
  next other =>
    rw [LineUnit.place, TxSlots.get_set_of_ne _ _ fun same => other (kept.trans (congrArg some same))]
    exact idle j kept

theorem touches_placeFrame (s : State) (x : Port) (f : Frame) : State.Touches x s (s.placeFrame (.lane x) f) :=
  have frame : s.LaneFrame (s.placeFrame (.lane x) f) := ⟨rfl, rfl, rfl, rfl, rfl, LineUnit.retryIdle_place _ f⟩
  ⟨frame, fun _ other => ⟨frame, rfl, rfl, TxSlots.get_set_of_ne _ _ fun same => other (TxSlot.lane.inj same),
    fun _ _ => Iff.rfl⟩⟩

theorem LineUnit.retryIdle_withdrawLane {l : LineUnit} (x : Port) (idle : l.retryIdle) :
    (l.withdrawLane x).retryIdle := by
  intro j marked
  have kept : (if l.retry = some (.lane x) then none else l.retry) = some j := marked
  split at kept
  · exact absurd kept nofun
  next other =>
    rw [LineUnit.withdrawLane, TxSlots.get_set_of_ne _ _ fun same => other (kept.trans (congrArg some same))]
    exact idle j kept

theorem frame_withdrawFrame (s : State) (x : Port) : s.LaneFrame (withdrawFrame s x) := by
  have line := line_withdrawFrame s x
  refine ⟨?_, by rw [line]; rfl, by rw [line]; rfl, by rw [line]; rfl, ?_, ?_⟩
  · conv_lhs => rw [rest_withdrawFrame]
    rw [show (withdrawFrame s x).ports = s.ports by rw [rest_withdrawFrame]]
  · rw [line, LineUnit.withdrawLane, Option.map_map]
    refine congrArg (fun h => Option.map h s.line.flight) (funext fun g => ?_)
    rw [Function.comp_apply]
    split <;> rfl
  · rw [line]
    exact LineUnit.retryIdle_withdrawLane x

theorem touches_withdrawFrame (s : State) (x : Port) : State.Touches x s (withdrawFrame s x) := by
  refine ⟨frame_withdrawFrame s x, fun y other => ⟨frame_withdrawFrame s x, elect_withdrawFrame_of_ne other, ?_, ?_,
    fun g mine => ?_⟩⟩
  · rw [rest_withdrawFrame]
    rfl
  · rw [line_withdrawFrame]
    exact TxSlots.get_set_of_ne _ _ fun same => other (TxSlot.lane.inj same)
  · have away : g.slot ≠ .lane x := fun same => other (TxSlot.lane.inj (mine.symm.trans same))
    rw [line_withdrawFrame, LineUnit.withdrawLane, Option.map_eq_some_iff]
    constructor
    · rintro ⟨h, flight, same⟩
      split at same
      next own => exact absurd (by rw [← same]; exact own) away
      next => rw [flight, same]
    · exact fun flight => ⟨g, flight, if_neg away⟩

end Frames

/-! ### A run over the ports -/

/-- Each step touches its own port at most. -/
def LaneLocal (op : State → Port → State) : Prop := ∀ s x, State.Touches x s (op s x)

section Runs
variable {op : State → Port → State} {s : State} {xs : List Port} {x : Port}

theorem LaneLocal.frame (local_ : LaneLocal op) : ∀ (xs : List Port) (s : State), s.LaneFrame (xs.foldl op s)
  | [], s => .refl s
  | x :: xs, s => (local_ s x).frame.trans (LaneLocal.frame local_ xs (op s x))

theorem LaneLocal.apart (local_ : LaneLocal op) (absent : x ∉ xs) : State.Apart x s (xs.foldl op s) := by
  induction xs generalizing s with
  | nil => exact .refl x s
  | cons y xs ih =>
    obtain ⟨other, absent⟩ := List.ne_and_not_mem_of_not_mem_cons absent
    exact ((local_ s y).others x other).trans (ih absent)

/-- A run tells of a port what the port's own step does, in a state that has left the port alone. -/
theorem LaneLocal.between (local_ : LaneLocal op) (once : xs.Nodup) (member : x ∈ xs) :
    ∃ u, State.Apart x s u ∧ State.Apart x (op u x) (xs.foldl op s) := by
  induction xs generalizing s with
  | nil => exact absurd member List.not_mem_nil
  | cons y xs ih =>
    obtain ⟨absent, once⟩ := List.nodup_cons.mp once
    by_cases here : x = y
    · subst here
      exact ⟨s, .refl x s, local_.apart absent⟩
    · obtain ⟨u, before, after⟩ := ih (s := op s y) once ((List.mem_cons.mp member).resolve_left here)
      exact ⟨u, ((local_ s y).others x here).trans before, after⟩

theorem four_nodup : four.Nodup := by decide

theorem LaneLocal.betweenFour (local_ : LaneLocal op) (s : State) (x : Port) :
    ∃ u, State.Apart x s u ∧ State.Apart x (op u x) (four.foldl op s) := local_.between four_nodup (mem_four x)

end Runs

/-! ### The change to UNFIT at a port (R141, R142) -/

section Unfit
variable {s : State} {x : Port} {c : PortConfig}

theorem touches_placeLane (s : State) (x : Port) (f : Station → Fin 16 → Frame) :
    State.Touches x s (placeLane s x f) := by
  unfold placeLane
  split
  · exact touches_placeFrame ..
  · exact .refl x s

theorem touches_standDown (s : State) (x : Port) (l : LaneState) : State.Touches x s (standDown s x l) :=
  (touches_updElect ..).trans (touches_updPort ..)

theorem laneLocal_unfitPort : LaneLocal unfitPort := by
  intro s x
  have released (r : ReleaseReason) : State.Touches x s (placeRelease (standDown s x .disabled) x r) :=
    (touches_standDown s x .disabled).trans (touches_placeLane ..)
  have drives : State.Touches x s (if (s.elect x).mark = some .restart then
      (placeRelease (standDown s x .disabled) x .restart).updElect x fun e => { e with releaseOut := true }
      else placeRelease (standDown s x .disabled) x .unfit) := by
    split
    · exact (released .restart).trans (touches_updElect ..)
    · exact released .unfit
  unfold unfitPort
  dsimp only
  split
  · exact drives
  · exact drives
  · exact (touches_withdrawFrame s x).trans (touches_updElect ..)
  · exact touches_updElect ..

/-- A port that drives, or holds, leaves its lane. -/
theorem unfitPort_of_drives (drives : (s.elect x).lane = .driving ∨ (s.elect x).lane = .holding) : unfitPort s x =
    if (s.elect x).mark = some .restart then
      (placeRelease (standDown s x .disabled) x .restart).updElect x fun e => { e with releaseOut := true }
    else placeRelease (standDown s x .disabled) x .unfit := by
  unfold unfitPort
  dsimp only
  obtain drive | hold := drives
  · rw [drive]
  · rw [hold]

theorem unfitPort_of_claiming (claims : (s.elect x).lane = .claiming) :
    unfitPort s x = withdrawClaim s x .disabled := by
  unfold unfitPort
  dsimp only
  rw [claims]

theorem unfitPort_of_quiet (quiet : (s.elect x).lane ≠ .driving) (idle : (s.elect x).lane ≠ .holding)
    (still : (s.elect x).lane ≠ .claiming) : unfitPort s x = s.updElect x fun e => e.moveTo .disabled := by
  unfold unfitPort
  dsimp only
  split
  next drive => exact absurd drive quiet
  next hold => exact absurd hold idle
  next claim => exact absurd claim still
  next => rfl

theorem port_placeRelease (s : State) (x y : Port) (r : ReleaseReason) : (placeRelease s x r).port y = s.port y := by
  unfold placeRelease placeLane
  split <;> rfl

theorem port_unfitPort_self (s : State) (x : Port) : (unfitPort s x).port x =
    if (s.elect x).lane = .driving ∨ (s.elect x).lane = .holding then (s.port x).cutOff else s.port x := by
  split
  next drives =>
    rw [unfitPort_of_drives drives]
    split
    · rw [State.port_updElect, port_placeRelease, port_standDown_self]
    · rw [port_placeRelease, port_standDown_self]
  next quiet =>
    obtain ⟨drive, hold⟩ := not_or.mp quiet
    by_cases claims : (s.elect x).lane = .claiming
    · rw [unfitPort_of_claiming claims, port_withdrawClaim]
    · rw [unfitPort_of_quiet drive hold claims]
      rfl

/-- The drivers of a port that drives go off; nothing else of a port changes. -/
theorem port_electionUnfit (s : State) (x : Port) : (electionUnfit s).port x =
    if (s.elect x).lane = .driving ∨ (s.elect x).lane = .holding then (s.port x).cutOff else s.port x := by
  obtain ⟨u, before, after⟩ := laneLocal_unfitPort.betweenFour s x
  unfold electionUnfit
  rw [after.port, port_unfitPort_self, before.elect, before.port]

/-- R141: the RELEASE of a port that drove, where it waits. -/
theorem slot_unfitPort_of_drives (drives : (s.elect x).lane = .driving ∨ (s.elect x).lane = .holding)
    (bound : s.portConfig x = some c) : ((unfitPort s x).line.slots.get (.lane x)).map PlacedFrame.frame =
      some ⟨1, s.loader.stationNumber,
        numBytes 1 c.lane.val ++ [if (s.elect x).mark = some .restart then 3 else 2]⟩ := by
  have placed (r : ReleaseReason) : ((placeRelease (standDown s x .disabled) x r).line.slots.get (.lane x)).map
    PlacedFrame.frame =
      some (releaseOf s.loader.stationNumber c.lane r) := by
    unfold placeRelease
    rw [placeLane_of_bound (s := standDown s x .disabled) bound]
    exact congrArg (Option.map PlacedFrame.frame) (LineUnit.get_place ..)
  rw [unfitPort_of_drives drives, numBytes_one]
  split
  · exact placed .restart
  · exact placed .unfit

theorem slot_unfitPort_of_claiming (claims : (s.elect x).lane = .claiming) :
    (unfitPort s x).line.slots.get (.lane x) = none := by
  rw [unfitPort_of_claiming claims]
  exact withdrawFrame_slot s x

theorem slot_unfitPort_of_quiet (quiet : (s.elect x).lane ≠ .driving) (idle : (s.elect x).lane ≠ .holding)
    (still : (s.elect x).lane ≠ .claiming) : (unfitPort s x).line.slots.get (.lane x) = s.line.slots.get (.lane x) := by
  rw [unfitPort_of_quiet quiet idle still]
  rfl

/-- The frame in flight of a claiming port is marked withdrawn, the slot mark set. -/
theorem flight_unfitPort_of_claiming {g : Flight} (claims : (s.elect x).lane = .claiming)
    (flight : s.line.flight = some g)
    (own : g.slot = .lane x) : (unfitPort s x).line.flight = some { g with withdrawn := true } ∧
      ((unfitPort s x).elect x).slotMark = true := by
  rw [unfitPort_of_claiming claims, elect_withdrawClaim_self, line_withdrawClaim, withdrawFrame_of_own flight own]
  refine ⟨rfl, ?_⟩
  show ((State.updElect _ x _).elect x).slotMark = true
  rw [State.elect_updElect_self]

theorem releaseOut_unfitPort_of_drives (drives : (s.elect x).lane = .driving ∨ (s.elect x).lane = .holding)
    (marked : (s.elect x).mark = some .restart) : ((unfitPort s x).elect x).releaseOut = true := by
  rw [unfitPort_of_drives drives, if_pos marked, State.elect_updElect_self]

end Unfit

end Sys2Proof.Machine
end

section
/-!
The latch of an interval end (R33, R62, R67, R99): what the other takers leave of all that it copies. O30.
-/
namespace Sys2Proof.Machine

/-! ### The fitness monitor's event and the election unit -/

section Fitness
variable {s : State} {x : Port}

theorem frame_electionFit (s : State) : s.LaneFrame (electionFit s) := by
  unfold electionFit
  split
  · exact .refl s
  · exact ⟨rfl, rfl, rfl, rfl, rfl, id⟩

/-- R148: what the event leaves beside the fitness monitor's own state. -/
theorem frame_fitnessOnInterval (s : State) :
    ({ s with fitness := s.fitness.intervalEnd s.config } : State).LaneFrame (fitnessOnInterval s) := by
  unfold fitnessOnInterval
  dsimp only
  split
  · exact frame_electionFit _
  · exact laneLocal_unfitPort.frame four _
  · exact .refl _

theorem port_fitnessOnInterval (s : State) (x : Port) :
    (fitnessOnInterval s).port x = s.port x ∨ (fitnessOnInterval s).port x = (s.port x).cutOff := by
  unfold fitnessOnInterval
  dsimp only
  split
  · left
    unfold electionFit
    split <;> rfl
  · rw [port_electionUnfit]
    split
    · exact .inr rfl
    · exact .inl rfl
  · exact .inl rfl

end Fitness

/-! ### A reading below 125 °C (R161 to R168) -/

section Reading
variable {s : State} {sensor r : Int} {h : ThermalUnit} {more : List Request} {clears : Bool}

/-- The station once the thermal controller has taken a reading: its own state, the requests that it sends, and whether
THERMAL_SHED is cleared. -/
def State.afterReading (s : State) (h : ThermalUnit) (more : List Request) (clears : Bool) : State :=
  { s with
    thermal := h
    requests := s.requests ++ more
    fitness := { s.fitness with
      faults := { s.fitness.faults with thermalShed := s.fitness.faults.thermalShed && !clears } } }

theorem State.afterReading_quiet (s : State) (h : ThermalUnit) :
    s.afterReading h [] false = { s with thermal := h } := by
  unfold State.afterReading
  rw [List.append_nil, Bool.not_false, Bool.and_true]

theorem State.afterReading_asks (s : State) (h : ThermalUnit) (more : List Request) :
    s.afterReading h more false = { s with thermal := h, requests := s.requests ++ more } := by
  unfold State.afterReading
  rw [Bool.not_false, Bool.and_true]

theorem State.afterReading_clears (s : State) (h : ThermalUnit) (more : List Request) :
    s.afterReading h more true =
      { s with thermal := h, requests := s.requests ++ more, fitness := s.fitness.signalShed false } := by
  unfold State.afterReading
  rw [Bool.not_true, Bool.and_false]
  rfl

/-- What a reading brings is told by the thermal controller's state, T_w and the path that would be parked. -/
theorem takeReading_effect (boot : BootInputs) (read : clampInt sensor (-40) 150 = r)
    (awake : s.thermal.shutdown = false)
    (below : r < 125) : ∃ h more clears, h.shutdown = false ∧ h.reading = r ∧
      ∀ u : State, u.thermal = s.thermal → u.config = s.config → u.pathToPark = s.pathToPark →
        takeReading u sensor boot = u.afterReading h more clears := by
  by_cases unasked : s.thermal.outstanding = none
  case neg =>
    refine ⟨{ s.thermal with reading := r }, [], false, awake, rfl, fun u same _ _ => ?_⟩
    rw [State.afterReading_quiet,
      takeReading_of_outstanding boot read (by rw [same]; exact awake) below (by rw [same]; exact unasked), ← same]
    rfl
  by_cases fails : s.shedTestFails r
  case neg =>
    obtain ⟨hot, spaced, found⟩ : ¬ r < s.config.tw ∧ s.thermal.spacing = 4 ∧ s.pathToPark ≠ none := by
      simpa only [State.shedTestFails, not_or, not_not] using fails
    obtain ⟨p, found⟩ := Option.ne_none_iff_exists'.mp found
    refine ⟨{ s.thermal with reading := r, outstanding := some (.park p), spacing := 0, cool := 0 }, [.park p], false,
      awake,
      rfl, fun u same config park => ?_⟩
    rw [State.afterReading_asks, takeReading_of_sheds boot read (by rw [same]; exact awake) below
      (by rw [same]; exact unasked)
      (by rw [config]; exact not_lt.mp hot) (by rw [same]; exact spaced) (park.trans found), same]
  have fails_ (u : State) (same : u.thermal = s.thermal) (config : u.config = s.config)
    (park : u.pathToPark = s.pathToPark) :
      u.shedTestFails r := by
    unfold State.shedTestFails
    rw [same, config, park]
    exact fails
  by_cases warm : s.thermal.stack = [] ∨ (s.config.tw : Int) - 5 < r
  case pos =>
    refine ⟨{ s.thermal with reading := r, spacing := min 4 (s.thermal.spacing + 1), cool := 0 }, [], false, awake, rfl,
      fun u same config park => ?_⟩
    rw [State.afterReading_quiet, takeReading_of_warm boot read (by rw [same]; exact awake) below
      (by rw [same]; exact unasked)
      (fails_ u same config park) (by rw [same, config]; exact warm), same]
  obtain ⟨stacked, cool⟩ := not_or.mp warm
  obtain ⟨p, rest, stacked⟩ := List.exists_cons_of_ne_nil stacked
  have counted (u : State) (same : u.thermal = s.thermal) (config : u.config = s.config)
    (park : u.pathToPark = s.pathToPark) :=
    takeReading_of_cool boot read (s := u) (by rw [same]; exact awake) below (by rw [same]; exact unasked)
      (fails_ u same config park) (by rw [same]; exact stacked) (by rw [config]; exact not_lt.mp cool)
  by_cases eighth : 8 ≤ s.thermal.cool + 1
  case neg =>
    refine ⟨{ s.thermal with reading := r, spacing := min 4 (s.thermal.spacing + 1), cool := s.thermal.cool + 1 }, [],
      false,
      awake, rfl, fun u same config park => ?_⟩
    rw [State.afterReading_quiet, counted u same config park, if_neg (by rw [same]; exact eighth), same]
  refine ⟨{ s.thermal with
      reading := r, spacing := min 4 (s.thermal.spacing + 1), stack := rest, outstanding := some (.unpark p),
        cool := 0 },
    [.unpark p], decide (rest = []), awake, rfl, fun u same config park => ?_⟩
  rw [counted u same config park, if_pos (by rw [same]; exact eighth)]
  unfold unparkTop State.unshed
  by_cases last : rest = []
  · rw [if_pos last, decide_eq_true last, State.afterReading_clears, same]
  · rw [if_neg last, decide_eq_false last, State.afterReading_asks, same]

end Reading

/-! ### What the latch copies stands -/

/-- A snapshot less its figures. -/
def Snapshot.unfigured (w : Snapshot) : Snapshot := { w with figures := .fill none }

/-- What the takers but the latch leave of what it copies, and of the snapshot it has filled. -/
structure State.SparesLatch (s u : State) : Prop where
  paths : u.paths = s.paths
  services : u.services = s.services
  ports : ∀ x, u.port x = { s.port x with
    driversOn := (u.port x).driversOn, onLane := (u.port x).onLane, finishOrder := (u.port x).finishOrder }
  latched : u.interval.latched = s.interval.latched
  working : u.interval.working.map Snapshot.unfigured = s.interval.working.map Snapshot.unfigured
  awake : u.thermal.shutdown = s.thermal.shutdown
  kept : s.keptByInterval u

section Spares
variable {s t u : State} {sensor : Int} {boot : BootInputs} {x : Taker}

theorem State.SparesLatch.refl (s : State) : s.SparesLatch s := ⟨rfl, rfl, fun _ => rfl, rfl, rfl, rfl, rfl, rfl, rfl⟩

theorem State.SparesLatch.trans (first : s.SparesLatch t) (second : t.SparesLatch u) : s.SparesLatch u where
  paths := second.paths.trans first.paths
  services := second.services.trans first.services
  ports x := by
    have later := second.ports x
    rw [first.ports x] at later
    exact later
  latched := second.latched.trans first.latched
  working := second.working.trans first.working
  awake := second.awake.trans first.awake
  kept := State.keptByInterval_trans first.kept second.kept

theorem State.keptByInterval.config (kept : s.keptByInterval u) : u.config = s.config := by rw [kept.2.2]

theorem State.SparesLatch.works (spares : s.SparesLatch u) : u.working = s.working := by
  have loader : u.loader = s.loader := by rw [spares.kept.2.2]
  unfold State.working
  rw [spares.awake, loader]

theorem computeFigures_cases (s : State) : computeFigures s = s ∨
    ∃ w, s.interval.working = some w ∧ s.interval.latched = true ∧ s.interval.figured = false ∧
      computeFigures s = { s with interval := { s.interval with
        working := some (w.withFigures (s.fitness.state == .fit)), figured := true } } := by
  unfold computeFigures
  split
  next w working =>
    split
    next due => exact .inr ⟨w, working, due.1, due.2, rfl⟩
    · exact .inl rfl
  · exact .inl rfl

theorem sparesLatch_computeFigures (s : State) : s.SparesLatch (computeFigures s) := by
  have kept := (sparesThermal_computeFigures s).kept
  obtain same | ⟨w, working, -, -, same⟩ := computeFigures_cases s
  · rw [same]
    exact .refl s
  · rw [same] at kept ⊢
    exact ⟨rfl, rfl, fun _ => rfl, rfl, by rw [working]; rfl, rfl, kept⟩

theorem sparesLatch_ageOnInterval (s : State) : s.SparesLatch (ageOnInterval s) := by
  have kept := (sparesThermal_ageOnInterval s).kept
  obtain ⟨e, only⟩ : ∃ e, ageOnInterval s = { s with election := e } := by
    unfold ageOnInterval
    dsimp only
    split <;> exact ⟨_, rfl⟩
  rw [only] at kept ⊢
  exact ⟨rfl, rfl, fun _ => rfl, rfl, rfl, rfl, kept⟩

theorem sparesLatch_fitnessOnInterval (s : State) : s.SparesLatch (fitnessOnInterval s) := by
  have rest := (frame_fitnessOnInterval s).rest
  refine ⟨by rw [rest], by rw [rest], fun x => ?_, by rw [rest], by rw [rest], by rw [rest],
    (sparesThermal_fitnessOnInterval s).kept⟩
  obtain same | cut := port_fitnessOnInterval s x
  · rw [same]
  · rw [cut]
    rfl

theorem clampInt_below (cool : sensor < 125) : clampInt sensor (-40) 150 < 125 := by unfold clampInt; omega

theorem sparesLatch_takeReading (awake : s.thermal.shutdown = false) (cool : sensor < 125) :
    s.SparesLatch (takeReading s sensor boot) := by
  have kept := keptByInterval_takeReading (s := s) (sensor := sensor) boot rfl awake (clampInt_below cool)
  obtain ⟨h, more, clears, shutdown, -, effect⟩ := takeReading_effect (s := s) (sensor := sensor) boot rfl awake
    (clampInt_below cool)
  rw [effect s rfl rfl rfl] at kept ⊢
  exact ⟨rfl, rfl, fun _ => rfl, rfl, rfl, shutdown.trans awake.symm, kept⟩

theorem sparesLatch_takeEnd (awake : s.thermal.shutdown = false) (cool : sensor < 125) (other : x ≠ .latch) :
    s.SparesLatch (takeEnd sensor boot s x) := by
  have of_working {t : State} (spares : s.SparesLatch t) : s.SparesLatch (if s.working then t else s) := by
    split
    · exact spares
    · exact .refl s
  cases x with
  | latch => exact absurd rfl other
  | figures => exact of_working (sparesLatch_computeFigures s)
  | ageing => exact of_working (sparesLatch_ageOnInterval s)
  | fitness => exact of_working (sparesLatch_fitnessOnInterval s)
  | thermal => exact sparesLatch_takeReading awake cool

theorem sparesLatch_foldl_takeEnd (cool : sensor < 125) : ∀ (xs : List Taker), (∀ x ∈ xs, x ≠ .latch) → ∀ s : State,
    s.thermal.shutdown = false → s.SparesLatch (xs.foldl (takeEnd sensor boot) s)
  | [], _, s, _ => .refl s
  | x :: xs, others, s, awake => by
    obtain ⟨other, others⟩ := List.forall_mem_cons.mp others
    have first := sparesLatch_takeEnd (boot := boot) awake cool other
    exact first.trans (sparesLatch_foldl_takeEnd cool xs others _ (first.awake.trans awake))

theorem sparesLatch_trySend (s : State) : s.SparesLatch (trySend s) := by
  have kept := (sparesThermal_trySend s).kept
  rw [rest_trySend] at kept ⊢
  exact ⟨rfl, rfl, fun _ => rfl, rfl, rfl, rfl, kept⟩

theorem keptByInterval_latch (s : State) : s.keptByInterval (latch s) := (sparesThermal_latch s).kept

end Spares

/-! ### The order of the takers -/

theorem mem_takersInOrder {x : Taker} (order : List Taker)
    (always : x ∈ ([.latch, .ageing, .fitness, .thermal] : List Taker)) :
    x ∈ takersInOrder order := by
  by_cases given : x ∈ order
  · exact List.mem_append_left _ (mem_firstPlaces.mpr given)
  · exact List.mem_append_right _ (List.mem_filter.mpr ⟨always, by simpa using given⟩)

/-- A taker that every interval end has acts once, between some others and the rest. -/
theorem exists_takersInOrder_split {x : Taker} (order : List Taker)
    (always : x ∈ ([.latch, .ageing, .fitness, .thermal] : List Taker)) :
    ∃ before after, takersInOrder order = before ++ x :: after ∧ (∀ y ∈ before, y ≠ x) ∧ ∀ y ∈ after, y ≠ x := by
  obtain ⟨before, after, placed⟩ := List.append_of_mem (mem_takersInOrder order always)
  have once := nodup_takersInOrder order
  rw [placed, List.nodup_middle, List.nodup_cons, List.mem_append, not_or] at once
  obtain ⟨⟨not_before, not_after⟩, -⟩ := once
  exact ⟨before, after, placed, fun y member => ne_of_mem_of_not_mem member not_before,
    fun y member => ne_of_mem_of_not_mem member not_after⟩

section Latch
variable {s u : State} {p : Path}

theorem State.tracked_iff : s.tracked p = true ↔ ∃ k, (s.slotConfig k).isSome = true ∧
    (s.service k).tracking.get p = true := by
  unfold State.tracked
  rw [List.any_eq_true]
  constructor
  · rintro ⟨k, -, both⟩
    exact ⟨k, Bool.and_eq_true_iff.mp both⟩
  · rintro ⟨k, both⟩
    exact ⟨k, mem_four k, Bool.and_eq_true_iff.mpr both⟩

theorem path_latch (s : State) (p : Path) : (latch s).path p = { s.path p with counters := .zero } := Quad.get_map ..

theorem State.SparesLatch.path (spares : s.SparesLatch u) (p : Path) : u.path p = s.path p := by
  unfold State.path
  rw [spares.paths]

theorem State.SparesLatch.service (spares : s.SparesLatch u) (k : SlotNo) : u.service k = s.service k := by
  unfold State.service
  rw [spares.services]

theorem State.SparesLatch.part (spares : s.SparesLatch u) (x : Port) : (u.port x).part = (s.port x).part := by
  rw [spares.ports]
  rfl

theorem State.SparesLatch.slotConfig (spares : s.SparesLatch u) (k : SlotNo) : u.slotConfig k = s.slotConfig k := by
  unfold State.slotConfig
  rw [spares.kept.config]

theorem State.SparesLatch.portConfig (spares : s.SparesLatch u) (x : Port) : u.portConfig x = s.portConfig x := by
  unfold State.portConfig
  rw [spares.kept.config]

/-- The latched snapshot does not see the other takers. -/
theorem latchedSnapshot_of_spares (spares : s.SparesLatch u) : u.latchedSnapshot = s.latchedSnapshot := by
  have tracked (p : Path) : u.tracked p = s.tracked p := by
    unfold State.tracked
    simp only [spares.slotConfig, spares.service]
  have ports : u.latchedSnapshot.ports = s.latchedSnapshot.ports := by
    refine Quad.ext_get fun x => ?_
    unfold State.latchedSnapshot
    rw [Quad.get_map, Quad.get_map, spares.portConfig]
    cases s.portConfig x with
    | none => rfl
    | some c => exact spares.part x
  unfold State.latchedSnapshot
  simp only [tracked, spares.slotConfig, spares.paths, spares.services]
  exact congrArg (Snapshot.mk _ _ _ _) ports

end Latch

/-- An interval end whose publication is apart: the latch between takers that spare what it copies. -/
theorem exists_latch_between {order : EndOrder} {sensor : Int} {boot : BootInputs} {s : State} (taken : s.intervalOpen)
    (apart : publishesApart order) (cool : sensor < 125) : ∃ u t, exec (.intervalEnd order sensor boot) s = .next t ∧
      s.SparesLatch u ∧ (latch u).SparesLatch t := by
  obtain ⟨running, awake, -, -⟩ := id taken
  obtain ⟨before, after, placed, sooner, later⟩ := exists_takersInOrder_split (x := .latch) order.takers (by decide)
  have first := sparesLatch_foldl_takeEnd (sensor := sensor) (boot := boot) cool before sooner s awake
  generalize reached : before.foldl (takeEnd sensor boot) s = u at first
  have works : u.working = true := first.works.trans (State.working_iff.mpr ⟨running, awake⟩)
  refine ⟨u, _, execIntervalEnd_of_publishesApart sensor boot taken apart, first, ?_⟩
  rw [placed, takeEnds, List.foldl_append, List.foldl_cons, reached]
  have latched : takeEnd sensor boot u .latch = latch u := if_pos works
  rw [latched]
  exact (sparesLatch_foldl_takeEnd cool after later (latch u) (first.awake.trans awake)).trans (sparesLatch_trySend _)

/-- Settles O30: what the latch copies, in the working snapshot, and what it clears, at every block. -/
theorem latchCopiesAndClearsCounters : Obligations.LatchCopiesAndClearsCounters := by
  intro order sensor boot s taken apart cool
  obtain ⟨u, t, answer, first, second⟩ := exists_latch_between (boot := boot) taken apart cool
  have kept : s.keptByInterval t := State.keptByInterval_trans first.kept
    (State.keptByInterval_trans (keptByInterval_latch u) second.kept)
  obtain ⟨w, working, same⟩ : ∃ w, t.interval.working = some w ∧ w.unfigured = s.latchedSnapshot := by
    have filled : t.interval.working.map Snapshot.unfigured = some s.latchedSnapshot := by
      rw [second.working, ← latchedSnapshot_of_spares first]
      rfl
    exact Option.map_eq_some_iff.mp filled
  have paths : w.paths = s.latchedSnapshot.paths := (congrArg Snapshot.paths same : w.unfigured.paths = _)
  have mers : w.mers = s.latchedSnapshot.mers := (congrArg Snapshot.mers same : w.unfigured.mers = _)
  have services : w.services = s.latchedSnapshot.services := (congrArg Snapshot.services same : w.unfigured.services
    = _)
  have ports : w.ports = s.latchedSnapshot.ports := (congrArg Snapshot.ports same : w.unfigured.ports = _)
  have servicePart (k : SlotNo) : w.services.get k =
      (s.slotConfig k).map fun _ => (⟨(s.service k).counters, (s.service k).tracking⟩ : ServicePart) := by
    rw [services]
    exact Quad.get_map ..
  have service (k : SlotNo) : t.service k = if (s.slotConfig k).isSome then (s.service k).cleared else s.service k := by
    rw [second.service, service_latch, first.slotConfig, first.service]
  have portPart (x : Port) : w.ports.get x = match s.portConfig x with | some _ => (s.port x).part | none => .zero := by
    rw [ports]
    exact Quad.get_map ..
  refine ⟨t, w, answer, second.latched, working, kept.1, fun p => ⟨?_, ?_, ?_⟩, fun k none_ => ⟨?_, ?_⟩,
    fun k c some_ => ⟨?_, ?_⟩,
    fun x c bound => ?_, fun x unbound => ?_, kept⟩
  · rw [paths]
    exact Quad.get_map ..
  · rw [mers]
    refine (Quad.get_map ..).trans ?_
    exact if_congr State.tracked_iff rfl rfl
  · rw [second.path, path_latch, first.path]
    rfl
  · rw [servicePart, none_]
    rfl
  · rw [service, none_]
    rfl
  · rw [servicePart, some_]
    rfl
  · rw [service, some_]
    rfl
  · intro v
    have port : t.port x = { (s.port x).cleared c.depth with
        driversOn := (t.port x).driversOn, onLane := (t.port x).onLane, finishOrder := (t.port x).finishOrder } := by
      conv_lhs => rw [second.ports, port_latch, first.portConfig, bound, first.ports]
      rfl
    rw [portPart, bound, port]
    exact ⟨rfl, rfl, deviation_eq_fillDeviation .., rfl, rfl, rfl, rfl, rfl, rfl, rfl⟩
  · rw [portPart, unbound]

end Sys2Proof.Machine
end

section
/-!
A publication (R76, R77, R85) and the evaluation of the RELEASED ports in it (R127 to R130). O34.
-/
namespace Sys2Proof.Machine

/-! ### What a start leaves pending -/

section Start
variable {s : State} {k j : TxSlot} {g : PlacedFrame}

/-- A frame that waits is still there behind a chance to start, or has started. -/
theorem trySend_waits_or_starts (pending : s.line.slots.get k = some g) :
    (trySend s).line.slots.get k = some g ∨
      ((trySend s).line.slots.get k = none ∧ (trySend s).line.flight = some ⟨k, g, false, false⟩) := by
  obtain ⟨-, -, -, j, f, chosen, sent⟩ | same := trySend_cases s
  · obtain ⟨waits, -⟩ := LineUnit.choose_spec chosen
    rw [sent]
    by_cases here : k = j
    · subst here
      obtain rfl := Option.some.inj (waits.symm.trans pending)
      exact .inr ⟨TxSlots.get_set_self .., rfl⟩
    · exact .inl ((TxSlots.get_set_of_ne _ _ here).trans pending)
  · rw [same]
    exact .inl pending

/-- No frame starts on a line that is not IDLE, or beside another frame. -/
theorem trySend_of_held (held : s.line.state ≠ .idle ∨ s.line.flight ≠ none) : trySend s = s := by
  refine if_neg fun may => ?_
  obtain busy | flies := held
  · exact busy may.2.1
  · exact flies may.2.2

/-- R115: the frame of the lowest kind, the earlier slot among equals, starts where no mark is of a pending frame. -/
theorem trySend_starts (works : s.working = true) (idle : s.line.state = .idle) (none_ : s.line.flight = none)
    (unmarked : s.line.retryIdle) (pending : s.line.slots.get k = some g)
    (least : ∀ j h, j ≠ k → s.line.slots.get j = some h →
      g.frame.kind < h.frame.kind ∨ (g.frame.kind = h.frame.kind ∧ txSlots.idxOf k < txSlots.idxOf j)) :
    (trySend s).line.slots.get k = none ∧ (trySend s).line.flight = some ⟨k, g, false, false⟩ := by
  cases chosen : s.line.choose with
  | none => exact (Option.some_ne_none g (pending.symm.trans (LineUnit.choose_eq_none_iff.mp chosen k))).elim
  | some q =>
    obtain ⟨j, f⟩ := q
    obtain ⟨waits, why⟩ := LineUnit.choose_spec chosen
    have here : j = k := by
      by_contra other
      obtain marked | ⟨-, first⟩ := why
      · exact Option.some_ne_none f (waits.symm.trans (unmarked j marked))
      · obtain lower | ⟨same, earlier⟩ := first k g pending
        · exact (least j f other waits).elim (fun less => lt_asymm less lower) fun ⟨same, _⟩ => lower.ne same.symm
        · exact (least j f other waits).elim (fun less => less.ne same.symm) fun ⟨_, less⟩ =>
            absurd earlier (not_le.mpr less)
    subst here
    obtain rfl := Option.some.inj (waits.symm.trans pending)
    rw [trySend_of_chosen ⟨works, idle, none_⟩ chosen]
    exact ⟨TxSlots.get_set_self .., rfl⟩

end Start

/-! ### The snapshot that is published, and the rate updates -/

section Publication
variable {s : State} {w : Snapshot} {x : Port}

/-- R76: the working snapshot with its figures. -/
def State.filled (s : State) (w : Snapshot) : Snapshot :=
  if s.interval.figured then w
  else { w with figures := Quad.tabulate fun k =>
    (w.services.get k).map (figureOf (decide (s.fitness.state = .fit)) w.mers) }

/-- The station once the snapshot has been published. -/
def State.published (s : State) (w : Snapshot) : State :=
  { s with interval := { s.interval with
    working := some (s.filled w), published := s.filled w, latched := false, figured := true } }

theorem publish_computeFigures (latched : s.interval.latched = true) (working : s.interval.working = some w) :
    publish (computeFigures s) = s.published w := by
  cases figured : s.interval.figured with
  | true =>
    have same : computeFigures s = s := by
      unfold computeFigures
      rw [working]
      exact if_neg fun due => Bool.false_ne_true (due.2.symm.trans figured)
    have published : publish s = { s with interval := { s.interval with published := w, latched := false } } := by
      unfold publish
      rw [working]
    have filled : s.filled w = w := if_pos figured
    rw [same, published]
    unfold State.published
    rw [filled, ← working, ← figured]
  | false =>
    have same : computeFigures s = { s with interval := { s.interval with
        working := some (w.withFigures (s.fitness.state == .fit)), figured := true } } := by
      unfold computeFigures
      rw [working]
      exact if_pos ⟨latched, figured⟩
    rw [same]
    unfold publish State.published State.filled
    rw [figured, if_neg Bool.false_ne_true]
    rfl

theorem laneLocal_rateUpdatePort : LaneLocal rateUpdatePort := by
  intro s x
  unfold rateUpdatePort
  split
  · exact touches_updPort ..
  · exact .refl x s

/-- The station once the rates have been updated from the published snapshot. -/
def State.rated (s : State) (w : Snapshot) : State := four.foldl rateUpdatePort (s.published w)

theorem rest_rated (s : State) (w : Snapshot) : s.rated w = { s.published w with ports := (s.rated w).ports } := by
  obtain ⟨p, only⟩ := rateUpdates_only four (s.published w)
  unfold State.rated
  rw [only]

theorem port_rated (s : State) (w : Snapshot) (x : Port) : (s.rated w).port x =
    match s.portConfig x with
    | some c => (s.port x).rateUpdate c.depth ((s.filled w).ports.get x)
        ((((s.filled w).services.get c.slot).map fun v => v.counters.darkMark).getD true)
    | none => s.port x := by
  obtain ⟨u, before, after⟩ := laneLocal_rateUpdatePort.betweenFour (s.published w) x
  have config : u.portConfig x = s.portConfig x := by unfold State.portConfig; rw [before.config]; rfl
  have interval : u.interval = (s.published w).interval := by rw [before.rest]
  unfold State.rated
  rw [after.port]
  unfold rateUpdatePort
  rw [config]
  cases s.portConfig x with
  | none => exact before.port
  | some c =>
    dsimp only
    rw [State.port_updPort_self, before.port, interval]
    rfl

/-- R76, R77: a latched snapshot is published, the rates follow, the election unit evaluates and announces. -/
theorem publishLatched_of_latched (works : s.working = true) (latched : s.interval.latched = true)
    (working : s.interval.working = some w) : publishLatched s = electOnPublication (s.rated w) := by
  have awaits : s.latchAwaits = true := by
    unfold State.latchAwaits
    rw [works, latched, working]
    rfl
  unfold publishLatched
  rw [if_pos awaits, publish_computeFigures latched working]
  rfl

theorem execPublication_of_latched (works : s.working = true) (latched : s.interval.latched = true)
    (working : s.interval.working = some w) :
      exec .publication s = .next (trySend (electOnPublication (s.rated w))) := by
  have awaits : s.latchAwaits = true := by
    unfold State.latchAwaits
    rw [works, latched, working]
    rfl
  exact (if_pos awaits).trans (by rw [publishLatched_of_latched works latched working])

end Publication

/-! ### The evaluation of one port (R127 to R130) -/

section Evaluation
variable {s u : State} {x y : Port} {c : PortConfig} {m : Half} {own : Nat}

theorem laneLocal_evaluate : LaneLocal evaluate := by
  intro s x
  unfold evaluate
  split
  · split
    · dsimp only
      split
      · split
        · exact ((touches_updElect s x _).trans (touches_updElect _ x _)).trans (touches_placeFrame ..)
        · exact touches_updElect ..
      · exact touches_updElect ..
    · exact .refl x s
  · exact .refl x s

theorem ports_evaluate (s : State) (x : Port) : (evaluate s x).ports = s.ports := by
  unfold evaluate
  split
  · split
    · dsimp only
      split
      · split
        · rfl
        · rfl
      · rfl
    · rfl
  · rfl

theorem ports_evaluateAll (s : State) : (four.foldl evaluate s).ports = s.ports := by
  have each (xs : List Port) : ∀ t : State, (xs.foldl evaluate t).ports = t.ports := by
    induction xs with
    | nil => exact fun _ => rfl
    | cons x xs ih => exact fun t => (ih _).trans (ports_evaluate t x)
  exact each four s

theorem evaluate_of_other (other : (s.elect x).lane ≠ .released) : evaluate s x = s := by
  unfold evaluate
  split
  · exact if_neg other
  · rfl

theorem evaluate_of_ineligible (bound : s.binding x = some (c, m)) (released : (s.elect x).lane = .released)
    (out : s.eligible x (s.publishedSF c.slot) = false) : evaluate s x = s.updElect x fun e =>
      { e with challenge := 0 } := by
  unfold evaluate
  rw [bound]
  refine (if_pos released).trans (if_neg ?_)
  rw [out]
  exact Bool.false_ne_true

theorem evaluate_of_eligible (bound : s.binding x = some (c, m)) (released : (s.elect x).lane = .released)
    (own_ : s.publishedSF c.slot = own) (able : s.eligible x own = true) : evaluate s x =
      if s.claims x c.lane m own then
        ((s.updElect x fun e =>
          { e with challenge := nextChallenge e.challenge own (s.election.drivers c.lane m) }).updElect x
          fun e => e.moveTo .claiming).placeFrame (.lane x) (claimOf s.loader.stationNumber c.lane m own)
      else s.updElect x fun e =>
        { e with challenge := nextChallenge e.challenge own (s.election.drivers c.lane m) } := by
  subst own_
  unfold evaluate
  rw [bound]
  exact (if_pos released).trans (if_pos able)

/-- A port whose slot an evaluation fills was RELEASED and claims. -/
theorem slot_evaluate (s : State) (x : Port) :
    (evaluate s x).line.slots.get (.lane x) = s.line.slots.get (.lane x) ∨
      ((s.elect x).lane = .released ∧ ((evaluate s x).elect x).lane = .claiming ∧
        ∃ g, (evaluate s x).line.slots.get (.lane x) = some g ∧ g.frame.kind = 2) := by
  unfold evaluate
  split
  · split
    next released =>
      dsimp only
      split
      · split
        · refine .inr ⟨released, ?_, _, LineUnit.get_place .., rfl⟩
          show ((State.updElect _ x _).elect x).lane = _
          rw [State.elect_updElect_self]
          rfl
        · exact .inl rfl
      · exact .inl rfl
    · exact .inl rfl
  · exact .inl rfl

theorem elect_evaluateAll_of_other (other : (s.elect x).lane ≠ .released) :
    (four.foldl evaluate s).elect x = s.elect x := by
  obtain ⟨u, before, after⟩ := laneLocal_evaluate.betweenFour s x
  rw [after.elect, evaluate_of_other (by rw [before.elect]; exact other), before.elect]

theorem slot_evaluateAll (s : State) (x : Port) :
    (four.foldl evaluate s).line.slots.get (.lane x) = s.line.slots.get (.lane x) ∨
      ((s.elect x).lane = .released ∧ ((four.foldl evaluate s).elect x).lane = .claiming ∧
        ∃ g, (four.foldl evaluate s).line.slots.get (.lane x) = some g ∧ g.frame.kind = 2) := by
  obtain ⟨u, before, after⟩ := laneLocal_evaluate.betweenFour s x
  rw [after.slot, after.elect, ← before.slot, ← before.elect]
  exact slot_evaluate u x

end Evaluation

/-! ### Drivers and rivals (R124) -/

section Considered
variable {v : ElectionUnit} {lane : Fin 16} {m : Half} {i : Station} {r : ServiceRecord} {own n challenge : Nat}

/-- R124 (1). -/
def ElectionUnit.considers (v : ElectionUnit) (lane : Fin 16) (m : Half) (i : Station) (r : ServiceRecord) : Prop :=
  (∃ e, v.peers.get i = some e ∧ r ∈ e.records) ∧ r.lane = some lane ∧ r.muxId = m

theorem ElectionUnit.mem_considered : (i, r) ∈ v.considered lane m ↔ v.considers lane m i r := by
  unfold ElectionUnit.considered ElectionUnit.considers
  rw [List.mem_filter, ElectionUnit.mem_records, Bool.and_eq_true, beq_iff_eq, beq_iff_eq]

theorem ElectionUnit.mem_drivers : (i, r) ∈ v.drivers lane m ↔
    v.considers lane m i r ∧ (r.state = .driving ∨ r.state = .holding) := by
  unfold ElectionUnit.drivers
  rw [List.mem_filter, ElectionUnit.mem_considered, LaneState.drives_iff]

theorem ElectionUnit.mem_rivals : (i, r) ∈ v.rivals lane m ↔
    v.considers lane m i r ∧ (r.state = .released ∨ r.state = .claiming) := by
  unfold ElectionUnit.rivals
  rw [List.mem_filter, ElectionUnit.mem_considered, Bool.or_eq_true, beq_iff_eq, beq_iff_eq]

/-- A peer drives or holds the lane. -/
def ElectionUnit.driven (v : ElectionUnit) (lane : Fin 16) (m : Half) : Prop :=
  ∃ i r, v.considers lane m i r ∧ (r.state = .driving ∨ r.state = .holding)

/-- The own figure is 48 above every driver's. -/
def ElectionUnit.ahead (v : ElectionUnit) (lane : Fin 16) (m : Half) (own : Nat) : Prop :=
  ∀ i r, v.considers lane m i r → (r.state = .driving ∨ r.state = .holding) → r.sf + 48 ≤ own

theorem ElectionUnit.drivers_eq_nil_iff : v.drivers lane m = [] ↔ ¬ v.driven lane m := by
  rw [List.eq_nil_iff_forall_not_mem]
  constructor
  · rintro empty ⟨i, r, both⟩
    exact empty (i, r) (ElectionUnit.mem_drivers.mpr both)
  · rintro none_ ⟨i, r⟩ member
    exact none_ ⟨i, r, ElectionUnit.mem_drivers.mp member⟩

theorem driverSF_le_iff (ds : List (Station × ServiceRecord)) (bound : Nat) :
    driverSF ds ≤ bound ↔ ∀ r ∈ ds, r.2.sf ≤ bound := by
  have general (ds : List (Station × ServiceRecord)) : ∀ a : Nat,
      ds.foldl (fun m r => max m r.2.sf) a ≤ bound ↔ a ≤ bound ∧ ∀ r ∈ ds, r.2.sf ≤ bound := by
    induction ds with
    | nil => exact fun a => ⟨fun le => ⟨le, List.forall_mem_nil _⟩, fun both => both.1⟩
    | cons d ds ih =>
      intro a
      rw [List.foldl_cons, ih, max_le_iff, List.forall_mem_cons, and_assoc]
  exact (general ds 0).trans ⟨fun both => both.2, fun all => ⟨Nat.zero_le bound, all⟩⟩

theorem driverSF_ahead_iff (some_ : v.driven lane m) : driverSF (v.drivers lane m) + 48 ≤ own ↔ v.ahead lane m own := by
  constructor
  · intro le i r considered drives
    have most := (driverSF_le_iff (v.drivers lane m) (own - 48)).mp (by omega) (i, r)
      (ElectionUnit.mem_drivers.mpr ⟨considered, drives⟩)
    dsimp only at most
    omega
  · intro ahead
    obtain ⟨i, r, considered, drives⟩ := some_
    have enough := ahead i r considered drives
    have most := (driverSF_le_iff (v.drivers lane m) (own - 48)).mpr fun ⟨j, q⟩ member => by
      obtain ⟨considered, drives⟩ := ElectionUnit.mem_drivers.mp member
      have above := ahead j q considered drives
      dsimp only
      omega
    omega

/-- R127, R129: the challenge counter that an evaluation leaves. -/
theorem nextChallenge_eq (is : (v.driven lane m ∧ v.ahead lane m own ∧ n = min 3 (challenge + 1)) ∨
    (¬ (v.driven lane m ∧ v.ahead lane m own) ∧ n = 0)) : nextChallenge challenge own (v.drivers lane m) = n := by
  unfold nextChallenge
  by_cases some_ : v.driven lane m
  · rw [if_neg (mt ElectionUnit.drivers_eq_nil_iff.mp (not_not.mpr some_))]
    obtain ⟨-, ahead, rfl⟩ | ⟨not_, rfl⟩ := is
    · exact if_pos ((driverSF_ahead_iff some_).mpr ahead)
    · exact if_neg fun le => not_ ⟨some_, (driverSF_ahead_iff some_).mp le⟩
  · rw [if_pos (ElectionUnit.drivers_eq_nil_iff.mpr some_)]
    obtain ⟨yes, -⟩ | ⟨-, rfl⟩ := is
    · exact absurd yes some_
    · rfl

/-- R128: a rival is better than the own pair. -/
theorem noBetterRival_iff {s : State} : s.noBetterRival lane m own = true ↔
    ¬ ∃ i r, s.election.considers lane m i r ∧ (r.state = .released ∨ r.state = .claiming) ∧
      (own < r.sf ∨ (own = r.sf ∧ i.val < s.loader.stationNumber.val)) := by
  unfold State.noBetterRival
  rw [List.all_eq_true]
  constructor
  · rintro all ⟨i, r, considered, rival, better⟩
    have not_ := all (i, r) (ElectionUnit.mem_rivals.mpr ⟨considered, rival⟩)
    rw [Bool.not_eq_true'] at not_
    exact Bool.eq_false_iff.mp not_ (betterPair_iff.mpr (better.imp id fun ⟨same, less⟩ => ⟨same.symm, less⟩))
  · rintro none_ ⟨i, r⟩ member
    obtain ⟨considered, rival⟩ := ElectionUnit.mem_rivals.mp member
    rw [Bool.not_eq_true', Bool.eq_false_iff]
    intro better
    exact none_ ⟨i, r, considered, rival, (betterPair_iff.mp better).imp id fun ⟨same, less⟩ => ⟨same.symm, less⟩⟩

/-- R128 to R130: when an eligible port claims. -/
theorem claims_iff {s : State} {x : Port}
    (next : nextChallenge (s.elect x).challenge own (s.election.drivers lane m) = n) :
    s.claims x lane m own = true ↔
      (¬ ∃ i r, s.election.considers lane m i r ∧ (r.state = .released ∨ r.state = .claiming) ∧
        (own < r.sf ∨ (own = r.sf ∧ i.val < s.loader.stationNumber.val))) ∧
      ((¬ s.election.driven lane m ∧ (s.elect x).activity = .quiet) ∨
        (s.election.driven lane m ∧ (n = 3 ∨ ∀ i r, s.election.considers lane m i r →
          (r.state = .driving ∨ r.state = .holding) → r.state = .holding))) := by
  unfold State.claims
  dsimp only
  rw [Bool.and_eq_true, noBetterRival_iff, next]
  refine and_congr_right fun _ => ?_
  by_cases some_ : s.election.driven lane m
  · rw [if_neg (mt ElectionUnit.drivers_eq_nil_iff.mp (not_not.mpr some_)), Bool.or_eq_true, beq_iff_eq,
      List.all_eq_true]
    have holding : (∀ r ∈ s.election.drivers lane m, (r.2.state == LaneState.holding) = true) ↔
        ∀ i r, s.election.considers lane m i r → (r.state = .driving ∨ r.state = .holding) → r.state = .holding := by
      constructor
      · exact fun all i r considered drives =>
          beq_iff_eq.mp (all (i, r) (ElectionUnit.mem_drivers.mpr ⟨considered, drives⟩))
      · rintro all ⟨i, r⟩ member
        obtain ⟨considered, drives⟩ := ElectionUnit.mem_drivers.mp member
        exact beq_iff_eq.mpr (all i r considered drives)
    rw [holding]
    simp [some_]
  · rw [if_pos (ElectionUnit.drivers_eq_nil_iff.mpr some_), beq_iff_eq]
    simp [some_]

theorem eligible_iff {s : State} {x : Port} : s.eligible x own = true ↔
    s.fitness.state = .fit ∧ s.election.lineStuck = false ∧ (s.elect x).service = .live ∧ 0 < own := by
  unfold State.eligible
  rw [Bool.and_eq_true, Bool.and_eq_true, Bool.and_eq_true, beq_iff_eq, Bool.not_eq_true', beq_iff_eq,
    decide_eq_true_eq,
    and_assoc, and_assoc]

end Considered

end Sys2Proof.Machine
end

section
/-!
What a publication leaves of an evaluated port (O34), and the ANNOUNCE behind the evaluations (R131).
-/
namespace Sys2Proof.Machine

section Publication
variable {s u : State} {w : Snapshot} {x : Port} {c : PortConfig} {d : ServiceConfig} {k : TxSlot}

theorem figures_filled (s : State) (w : Snapshot) (k : SlotNo) : (s.filled w).figures.get k =
    if s.interval.figured then w.figures.get k
    else (w.services.get k).map (figureOf (decide (s.fitness.state = .fit)) w.mers) := by
  unfold State.filled
  split
  · rfl
  · exact Quad.get_tabulate ..

/-- The station once every RELEASED port has been evaluated. -/
def State.evaluated (s : State) (w : Snapshot) : State := four.foldl evaluate (s.rated w)

/-- The station once its ANNOUNCE has been placed. -/
def State.announced (s : State) (w : Snapshot) : State :=
  (s.evaluated w).placeFrame .announce (s.evaluated w).announce

theorem electOnPublication_of_calm (calm : s.election.restarting = false) :
    electOnPublication (s.rated w) = s.announced w := by
  have calm_ : (s.rated w).election.restarting = false := by rw [rest_rated]; exact calm
  unfold electOnPublication
  rw [if_neg (by rw [calm_]; exact Bool.false_ne_true)]
  rfl

theorem electOnPublication_of_restarting (restarts : s.election.restarting = true) :
    electOnPublication (s.rated w) = s.rated w := by
  have restarts_ : (s.rated w).election.restarting = true := by rw [rest_rated]; exact restarts
  exact if_pos restarts_

theorem frame_evaluated (s : State) (w : Snapshot) : (s.rated w).LaneFrame (s.evaluated w) :=
  laneLocal_evaluate.frame four (s.rated w)

theorem line_rated (s : State) (w : Snapshot) : (s.rated w).line = s.line := by
  rw [rest_rated]
  rfl

theorem elect_rated (s : State) (w : Snapshot) (x : Port) : (s.rated w).elect x = s.elect x := by
  rw [rest_rated]
  rfl

/-- What a publication leaves beside the ports' elections and their slots. -/
theorem rest_evaluated (s : State) (w : Snapshot) : s.evaluated w =
    { s.published w with
      ports := (s.rated w).ports, election := { s.election with ports := (s.evaluated w).election.ports }
      line := (s.evaluated w).line } := by
  have rest := (frame_evaluated s w).rest
  have ports : (s.evaluated w).ports = (s.rated w).ports := ports_evaluateAll _
  rw [ports, rest_rated] at rest
  exact rest

theorem rest_announced (s : State) (w : Snapshot) : s.announced w =
    { s.published w with
      ports := (s.rated w).ports, election := { s.election with ports := (s.evaluated w).election.ports }
      line := (s.announced w).line } := by
  have placed : s.announced w = { s.evaluated w with line := (s.announced w).line } := rfl
  conv_lhs => rw [placed, rest_evaluated]

theorem working_announced (s : State) (w : Snapshot) : (s.announced w).working = s.working := by
  rw [rest_announced]
  rfl

theorem State.elect_placeFrame (s : State) (k : TxSlot) (f : Frame) (x : Port) :
    (s.placeFrame k f).elect x = s.elect x := rfl

theorem elect_announced (s : State) (w : Snapshot) (x : Port) : (s.announced w).elect x = (s.evaluated w).elect x :=
  State.elect_placeFrame ..

theorem lane_ne_announce (x : Port) : TxSlot.lane x ≠ .announce := fun same => by cases same

theorem slot_announced_of_ne (other : k ≠ .announce) :
    (s.announced w).line.slots.get k = (s.evaluated w).line.slots.get k := TxSlots.get_set_of_ne _ _ other

theorem slot_announced (s : State) (w : Snapshot) : ((s.announced w).line.slots.announce).map PlacedFrame.frame =
    some (s.evaluated w).announce :=
  congrArg (Option.map PlacedFrame.frame) (LineUnit.get_place (s.evaluated w).line .announce (s.evaluated w).announce)

theorem state_announced (s : State) (w : Snapshot) : (s.announced w).line.state = s.line.state := by
  rw [← line_rated s w]
  have line := (frame_evaluated s w).line
  have placed : (s.announced w).line.state = (s.evaluated w).line.state := LineUnit.state_place ..
  rw [placed, line]

theorem flight_announced_iff (s : State) (w : Snapshot) :
    (s.announced w).line.flight = none ↔ s.line.flight = none := by
  have placed : (s.announced w).line.flight = (s.evaluated w).line.flight := LineUnit.flight_place ..
  rw [← line_rated s w, placed]
  exact (frame_evaluated s w).flightNone

theorem retryIdle_announced (empty : ∀ k, s.line.slots.get k = none) : (s.announced w).line.retryIdle := by
  refine LineUnit.retryIdle_place _ _ ((frame_evaluated s w).retry ?_)
  rw [line_rated]
  exact fun k _ => empty k

/-- What waits behind a publication where nothing waited before. -/
theorem waits_announced (empty : ∀ k, s.line.slots.get k = none) {g : PlacedFrame}
    (waits : (s.announced w).line.slots.get k = some g) :
    (k = .announce ∧ g.frame.kind = 3) ∨
      ∃ y, k = .lane y ∧ g.frame.kind = 2 ∧ (s.elect y).lane = .released ∧
        ((s.announced w).elect y).lane = .claiming := by
  cases k with
  | announce =>
    have frame := slot_announced s w
    rw [show (s.announced w).line.slots.announce = some g from waits] at frame
    exact .inl ⟨rfl, by rw [Option.some.inj frame]; rfl⟩
  | report =>
    have none_ : (s.announced w).line.slots.report = none :=
      (frame_evaluated s w).report.trans (by rw [line_rated]; exact empty .report)
    exact (Option.some_ne_none g (waits.symm.trans none_)).elim
  | lane y =>
    rw [slot_announced_of_ne (lane_ne_announce _)] at waits
    obtain same | ⟨released, claiming, f, placed, kind⟩ := slot_evaluateAll (s.rated w) y
    · rw [line_rated, empty] at same
      exact (Option.some_ne_none g (waits.symm.trans same)).elim
    · obtain rfl := Option.some.inj (waits.symm.trans placed)
      rw [elect_rated] at released
      exact .inr ⟨y, rfl, kind, released, claiming⟩

end Publication

/-! ### An evaluated port -/

section Evaluated
variable {s u : State} {w : Snapshot} {x : Port} {c : PortConfig} {d : ServiceConfig} {own n : Nat}

/-- What an evaluation sees, in a state that has left the port alone. -/
structure State.SeesAt (s : State) (x : Port) (c : PortConfig) (d : ServiceConfig) (own : Nat) (u : State) : Prop where
  binding : u.binding x = some (c, d.muxId)
  elect : u.elect x = s.elect x
  own : u.publishedSF c.slot = own
  fitness : u.fitness = s.fitness
  loader : u.loader = s.loader
  election : u.election = { s.election with ports := u.election.ports }

theorem seesAt_of_apart (bound : s.portConfig x = some c) (serves : s.slotConfig c.slot = some d)
    (figure : (((s.filled w).figures.get c.slot).map FigurePart.sf).getD 0 = own) (apart : State.Apart x (s.rated w) u)
      :
    s.SeesAt x c d own u := by
  have rest := apart.rest
  rw [rest_rated] at rest
  have config : u.config = s.config := by rw [rest]; rfl
  have interval : u.interval = (s.published w).interval := by rw [rest]
  refine ⟨?_, apart.elect.trans (elect_rated s w x), ?_, by rw [rest]; rfl, by rw [rest]; rfl, by rw [rest]; rfl⟩
  · refine State.binding_of ?_ ?_
    · unfold State.portConfig
      rw [config]
      exact bound
    · unfold State.slotConfig
      rw [config]
      exact serves
  · unfold State.publishedSF
    rw [interval]
    exact figure

theorem State.SeesAt.eligible_iff (sees : s.SeesAt x c d own u) : u.eligible x own = true ↔
    s.fitness.state = .fit ∧ s.election.lineStuck = false ∧ (s.elect x).service = .live ∧ 0 < own := by
  rw [Machine.eligible_iff, sees.fitness, sees.election, sees.elect]

theorem State.SeesAt.nextChallenge_eq (sees : s.SeesAt x c d own u)
    (is : (s.election.driven c.lane d.muxId ∧ s.election.ahead c.lane d.muxId own ∧
      n = min 3 ((s.elect x).challenge + 1)) ∨
      (¬ (s.election.driven c.lane d.muxId ∧ s.election.ahead c.lane d.muxId own) ∧ n = 0)) :
    nextChallenge (u.elect x).challenge own (u.election.drivers c.lane d.muxId) = n := by
  refine Machine.nextChallenge_eq ?_
  rw [sees.election, sees.elect]
  exact is

theorem State.SeesAt.claims_iff (sees : s.SeesAt x c d own u)
    (next : nextChallenge (u.elect x).challenge own (u.election.drivers c.lane d.muxId) = n) :
    u.claims x c.lane d.muxId own = true ↔
      (¬ ∃ i r, s.election.considers c.lane d.muxId i r ∧ (r.state = .released ∨ r.state = .claiming) ∧
        (own < r.sf ∨ (own = r.sf ∧ i.val < s.loader.stationNumber.val))) ∧
      ((¬ s.election.driven c.lane d.muxId ∧ (s.elect x).activity = .quiet) ∨
        (s.election.driven c.lane d.muxId ∧ (n = 3 ∨ ∀ i r, s.election.considers c.lane d.muxId i r →
          (r.state = .driving ∨ r.state = .holding) → r.state = .holding))) := by
  rw [Machine.claims_iff next, sees.loader, sees.elect, sees.election]
  rfl

end Evaluated

/-- Settles O34: what the port's own evaluation sees, and what is pending behind the publication. -/
theorem publicationEvaluatesReleasedPort : Obligations.PublicationEvaluatesReleasedPort := by
  intro x c m w s running awake latched working calm bound serves released filled own considered drives eligible driven
    ahead
    bested
  obtain ⟨d, slot, rfl⟩ := Option.map_eq_some_iff.mp serves
  have works : s.working = true := State.working_iff.mpr ⟨running, awake⟩
  have answer := execPublication_of_latched works latched working
  rw [electOnPublication_of_calm calm] at answer
  obtain ⟨u, before, after⟩ := laneLocal_evaluate.betweenFour (s.rated w) x
  have sees : s.SeesAt x c d own u :=
    seesAt_of_apart bound slot (congrArg (fun o => (o.map FigurePart.sf).getD 0) (figures_filled s w c.slot)) before
  have lane : (u.elect x).lane = .released := by rw [sees.elect]; exact released
  have elect : (trySend (s.announced w)).elect x = (evaluate u x).elect x := (elect_trySend ..).trans after.elect
  refine ⟨_, answer, fun out => ?_, fun able n is => ?_, fun y other => ?_⟩
  · have out_ : u.eligible x (u.publishedSF c.slot) = false := by
      rw [sees.own]
      exact Bool.eq_false_iff.mpr fun yes => out (sees.eligible_iff.mp yes)
    rw [elect, evaluate_of_ineligible sees.binding lane out_, State.elect_updElect_self, sees.elect]
  · have evaluates := evaluate_of_eligible sees.binding lane sees.own (sees.eligible_iff.mpr able)
    have next := sees.nextChallenge_eq is
    have counted : (u.updElect x fun e => { e with
        challenge := nextChallenge e.challenge own (u.election.drivers c.lane d.muxId) }).elect x =
        { s.elect x with challenge := n } := by
      rw [State.elect_updElect_self, next, sees.elect]
    intro claims
    refine ⟨fun yes => ?_, fun no => ?_⟩
    · rw [if_pos ((sees.claims_iff next).mpr yes)] at evaluates
      have claimed : (trySend (s.announced w)).elect x = ({ s.elect x with challenge := n }).entered .claiming := by
        rw [elect, evaluates]
        show ((State.updElect _ x _).elect x) = _
        rw [State.elect_updElect_self, counted]
        rfl
      refine ⟨claimed, ?_⟩
      intro claim waits starts
      obtain ⟨g, pending, frame⟩ : ∃ g, (s.announced w).line.slots.get (.lane x) = some g ∧ g.frame = claim := by
        refine ⟨⟨claimOf u.loader.stationNumber c.lane d.muxId own, u.line.serial⟩,
          (slot_announced_of_ne (lane_ne_announce x)).trans (after.slot.trans ?_), ?_⟩
        · rw [evaluates]
          exact LineUnit.get_place ..
        · show claimOf _ _ _ _ = _
          rw [sees.loader]
          rfl
      have either := trySend_waits_or_starts pending
      refine ⟨fun held => ?_, fun idle none_ => ?_, fun idle none_ empty lower => ?_⟩
      · have held_ : (s.announced w).line.state ≠ .idle ∨ (s.announced w).line.flight ≠ none := by
          rw [state_announced, ne_eq ((s.announced w).line.flight), flight_announced_iff]
          exact held
        show ((trySend (s.announced w)).line.slots.get (.lane x)).map _ = _
        rw [trySend_of_held held_, pending]
        exact congrArg some frame
      · obtain still | ⟨gone, flies⟩ := either
        · exact .inl ((congrArg (Option.map PlacedFrame.frame) still).trans (congrArg some frame))
        · exact .inr ⟨gone, g, flies, frame⟩
      · have kind : g.frame.kind = 2 := by rw [frame]
        obtain ⟨gone, flies⟩ := trySend_starts ((working_announced s w).trans works) ((state_announced s w).trans idle)
          ((flight_announced_iff s w).mpr none_) (retryIdle_announced empty) pending fun j h other there => by
            rw [kind]
            obtain ⟨-, three⟩ | ⟨y, rfl, two, released, -⟩ := waits_announced empty there
            · rw [three]
              exact .inl (by decide)
            · have later : x < y := lt_of_le_of_ne (not_lt.mp fun less => lower y less released) fun same =>
                other (by rw [same])
              have order : ∀ x y : Port, x < y → txSlots.idxOf (.lane x) < txSlots.idxOf (.lane y) := by decide
              exact .inr ⟨two.symm, order x y later⟩
        exact ⟨gone, g, flies, frame⟩
    · rw [if_neg fun yes => no ((sees.claims_iff next).mp yes)] at evaluates
      rw [elect, evaluates, counted]
  · rw [elect_trySend, elect_announced]
    exact (elect_evaluateAll_of_other (by rw [elect_rated]; exact other)).trans (elect_rated s w y)

end Sys2Proof.Machine
end

section
/-!
What a publication replaces, updates and announces (R77, R85, R131): the first part of O31.
-/
namespace Sys2Proof.Machine

/-! ### The ANNOUNCE by its fields (Table 6-4) -/

section Announce
variable {s : State} {w : Snapshot}

theorem flatMap_filterMap_eq {α β γ : Type} (g : α → Option β) (h : β → List γ) : ∀ l : List α,
    (l.filterMap g).flatMap h = l.flatMap fun a => ((g a).map h).getD []
  | [] => rfl
  | a :: l => by
    rw [List.flatMap_cons, ← flatMap_filterMap_eq g h l]
    cases is : g a with
    | none => rw [List.filterMap_cons_none is]; rfl
    | some b => rw [List.filterMap_cons_some is, List.flatMap_cons]; rfl

/-- R131: the record of a configured service, by its bytes. -/
theorem announceRecord_bytes (s : State) (k : SlotNo) (c : ServiceConfig) (configured : s.slotConfig k = some c) :
    let port := c.port.filter fun x => (s.portConfig x).isSome
    ((s.announceRecord k).map ServiceRecord.bytes).getD [] =
      numBytes 2 c.muxId.toNat ++ numBytes 2 (((s.interval.published.figures.get k).map FigurePart.sf).getD 0) ++
        numBytes 1 (((port.bind s.portConfig).map fun q => q.lane.val).getD 255) ++
        numBytes 1 ((port.map fun x => (s.elect x).lane.number).getD 0) := by
  unfold State.announceRecord
  rw [configured]
  simp only [numBytes_one, numBytes_two, Option.map_some, Option.getD_some, ServiceRecord.bytes]
  cases c.port with
  | none => rfl
  | some x =>
    cases bound : s.portConfig x with
    | none => simp [Option.filter, bound]; rfl
    | some q => simp [Option.filter, bound, LaneState.number_eq]; rfl

theorem announce_eq (s : State) : s.announce =
    ⟨3, s.loader.stationNumber, faultsByte s.fitness ++ numBytes 1 s.loader.cause.number ++ readingByte
      s.thermal.reading ++
      four.flatMap fun k => ((s.announceRecord k).map ServiceRecord.bytes).getD []⟩ := by
  unfold State.announce announceOf
  rw [flatMap_filterMap_eq, faultsByte_eq, readingByte_eq, numBytes_one, Cause.number_eq]
  rfl

end Announce

/-- What a publication leaves (R77, R85, R131). -/
theorem publication_spec (w : Snapshot) (s : State) (running : s.loader.phase = .running)
    (awake : s.thermal.shutdown = false)
    (latched : s.interval.latched = true) (working : s.interval.working = some w) :
    ∃ t, exec .publication s = .next t ∧
      t.interval =
        { s.interval with working := some (s.filled w), published := s.filled w, latched := false, figured := true } ∧
      (∀ x, s.portConfig x = none → t.port x = s.port x) ∧
      (∀ x c, s.portConfig x = some c →
        t.port x = (s.port x).rateUpdate c.depth ((s.filled w).ports.get x)
          ((((s.filled w).services.get c.slot).map fun v => v.counters.darkMark).getD true)) ∧
      (s.election.restarting = true → t.election = s.election ∧ t.line = (trySend s).line) ∧
      (s.election.restarting = false →
        let record (k : SlotNo) (c : ServiceConfig) : List Byte :=
          let port := c.port.filter fun x => (s.portConfig x).isSome
          numBytes 2 c.muxId.toNat ++ numBytes 2 ((((s.filled w).figures.get k).map FigurePart.sf).getD 0) ++
            numBytes 1 (((port.bind s.portConfig).map fun q => q.lane.val).getD 255) ++
            numBytes 1 ((port.map fun x => (t.elect x).lane.number).getD 0)
        let announce : Frame :=
          ⟨3, s.loader.stationNumber,
            faultsByte s.fitness ++ numBytes 1 s.loader.cause.number ++ readingByte s.thermal.reading ++
              [0, 1, 2, 3].flatMap fun k => ((s.slotConfig k).map (record k)).getD []⟩
        let waits := t.line.slots.announce.map PlacedFrame.frame = some announce
        let starts := t.line.slots.announce = none ∧
          ∃ g, t.line.flight = some ⟨.announce, g, false, false⟩ ∧ g.frame = announce
        (s.line.state ≠ .idle ∨ s.line.flight ≠ none → waits) ∧
        (s.line.state = .idle → s.line.flight = none → waits ∨ starts) ∧
        (s.line.state = .idle → s.line.flight = none → (∀ k, s.line.slots.get k = none) →
          (∀ x, (t.elect x).lane = .claiming → (s.elect x).lane = .claiming) → starts)) ∧
      t.election.peers = s.election.peers ∧
      t = { s with interval := t.interval, ports := t.ports, election := t.election, line := t.line } := by
  have works : s.working = true := State.working_iff.mpr ⟨running, awake⟩
  have answer := execPublication_of_latched works latched working
  cases restarts : s.election.restarting with
  | true =>
    rw [electOnPublication_of_restarting restarts] at answer
    have rest := rest_rated s w
    have port (x : Port) : (trySend (s.rated w)).port x = _ := (port_trySend ..).trans (port_rated s w x)
    refine ⟨_, answer, by rw [rest_trySend, rest]; rfl,
      fun x unbound => ?_, fun x c bound => ?_, fun _ => ⟨?_, ?_⟩, nofun, ?_, ?_⟩
    · rw [port, unbound]
    · rw [port, bound]
    · rw [rest_trySend, rest]; rfl
    · exact line_trySend_congr (by rw [rest]; rfl) (line_rated s w)
    · rw [rest_trySend, rest]; rfl
    · rw [rest_trySend]
      generalize (trySend (s.rated w)).line = line
      rw [rest]
      rfl
  | false =>
    rw [electOnPublication_of_calm restarts] at answer
    have rest := rest_announced s w
    have ports : (trySend (s.announced w)).ports = (s.rated w).ports := by rw [rest_trySend, rest]
    have port (x : Port) : (trySend (s.announced w)).port x = _ :=
      (congrArg (fun q => Quad.get q x) ports).trans (port_rated s w x)
    refine ⟨_, answer, by rw [rest_trySend, rest]; rfl,
      fun x unbound => ?_, fun x c bound => ?_, nofun, fun _ => ?_, ?_, ?_⟩
    · rw [port, unbound]
    · rw [port, bound]
    · intro record announce waits starts
      have frame : (s.evaluated w).announce = announce := by
        have evaluated := rest_evaluated s w
        have slots (k : SlotNo) : (s.evaluated w).slotConfig k = s.slotConfig k := by rw [evaluated]; rfl
        have portConfig : (s.evaluated w).portConfig = s.portConfig := by funext x; rw [evaluated]; rfl
        have published : (s.evaluated w).interval.published = s.filled w := by rw [evaluated]; rfl
        have loader : (s.evaluated w).loader = s.loader := by rw [evaluated]; rfl
        have fitness : (s.evaluated w).fitness = s.fitness := by rw [evaluated]; rfl
        have thermal : (s.evaluated w).thermal = s.thermal := by rw [evaluated]; rfl
        have elect (x : Port) : (trySend (s.announced w)).elect x = (s.evaluated w).elect x :=
          (elect_trySend ..).trans (elect_announced ..)
        have records (k : SlotNo) : (((s.evaluated w).announceRecord k).map ServiceRecord.bytes).getD [] =
            ((s.slotConfig k).map (record k)).getD [] := by
          cases configured : s.slotConfig k with
          | none =>
            unfold State.announceRecord
            rw [slots, configured]
            rfl
          | some c =>
            refine (announceRecord_bytes (s.evaluated w) k c (by rw [slots, configured])).trans ?_
            rw [published, portConfig]
            simp only [← elect]
            rfl
        rw [announce_eq, loader, fitness, thermal]
        simp only [records]
        rfl
      obtain ⟨g, pending, is⟩ : ∃ g, (s.announced w).line.slots.get .announce = some g ∧ g.frame = announce := by
        obtain ⟨g, pending, is⟩ := Option.map_eq_some_iff.mp (slot_announced s w)
        exact ⟨g, pending, is.trans frame⟩
      have either := trySend_waits_or_starts pending
      refine ⟨fun held => ?_, fun idle none_ => ?_, fun idle none_ empty quiet => ?_⟩
      · have held_ : (s.announced w).line.state ≠ .idle ∨ (s.announced w).line.flight ≠ none := by
          rw [state_announced, ne_eq ((s.announced w).line.flight), flight_announced_iff]
          exact held
        show ((trySend (s.announced w)).line.slots.get .announce).map _ = _
        rw [trySend_of_held held_, pending]
        exact congrArg some is
      · obtain still | ⟨gone, flies⟩ := either
        · exact .inl ((congrArg (Option.map PlacedFrame.frame) still).trans (congrArg some is))
        · exact .inr ⟨gone, g, flies, is⟩
      · obtain ⟨gone, flies⟩ := trySend_starts ((working_announced s w).trans works) ((state_announced s w).trans idle)
          ((flight_announced_iff s w).mpr none_) (retryIdle_announced empty) pending fun j h other there => by
            obtain ⟨rfl, -⟩ | ⟨y, rfl, -, released, claiming⟩ := waits_announced empty there
            · exact absurd rfl other
            · have claims := quiet y ((congrArg PortElection.lane (elect_trySend ..)).trans claiming)
              exact absurd (released.symm.trans claims) (by decide)
        exact ⟨gone, g, flies, is⟩
    · rw [rest_trySend, rest]
    · rw [rest_trySend]
      generalize (trySend (s.announced w)).line = line
      rw [rest]
      rfl

end Sys2Proof.Machine
end

section
/-!
An interval end as a run of acts (R65, R76, R161, R116): the takers, a publication, the starts of a pending frame. What
the acts but the fitness monitor's event leave of the elections, the ports, the fitness monitor and the line.
-/
namespace Sys2Proof.Machine

/-! ### The acts of an interval end -/

/-- A taker's part, the publication of the latched snapshot, or a chance for a pending frame to start. -/
inductive EndAct where
  | take (x : Taker)
  | publish
  | send

/-- The state behind an act. -/
def EndAct.run (sensor : Int) (boot : BootInputs) (s : State) : EndAct → State
  | .take x => takeEnd sensor boot s x
  | .publish => publishLatched s
  | .send => trySend s

/-- The takers of an order that act before a publication in the same command, and those behind it. -/
def takersBefore (order : EndOrder) (s : State) : List Taker :=
  (takersInOrder order.takers).filter fun x => !behindPublication order s x

def takersBehind (order : EndOrder) (s : State) : List Taker :=
  (takersInOrder order.takers).filter (behindPublication order s)

/-- What stands between the takers before the publication and the last start. -/
def actsBehind (order : EndOrder) (s : State) : List EndAct :=
  if takersBehind order s = [] then []
  else .publish :: ((if order.startsBetween then [.send] else []) ++ (takersBehind order s).map .take)

/-- The acts of an interval end, but for the last one, which is a start. -/
def endActs (order : EndOrder) (s : State) : List EndAct := (takersBefore order s).map .take ++ actsBehind order s

section Acts
variable {s : State} {sensor : Int} {boot : BootInputs} {order : EndOrder} {x : Taker}

theorem foldl_take (xs : List Taker) (s : State) :
    (xs.map EndAct.take).foldl (EndAct.run sensor boot) s = xs.foldl (takeEnd sensor boot) s := by
  rw [List.foldl_map]
  rfl

theorem exec_intervalEnd_eq (running : s.interval.running = true) (unlatched : s.interval.latched = false) :
    exec (.intervalEnd order sensor boot) s =
      .next (trySend ((endActs order s).foldl (EndAct.run sensor boot) s)) := by
  have answer : exec (.intervalEnd order sensor boot) s =
      if takersBehind order s = [] then .next (trySend ((takersBefore order s).foldl (takeEnd sensor boot) s))
      else .next (takeEnds (takersBehind order s) sensor boot
        (if order.startsBetween then trySend (publishLatched ((takersBefore order s).foldl (takeEnd sensor boot) s))
          else publishLatched ((takersBefore order s).foldl (takeEnd sensor boot) s))) := if_pos ⟨running, unlatched⟩
  rw [answer, endActs, actsBehind, List.foldl_append, foldl_take]
  split
  · rfl
  · rw [List.foldl_cons, List.foldl_append, foldl_take]
    unfold takeEnds
    cases order.startsBetween <;> rfl

/-! ### Which acts there are -/

theorem mem_takersBefore : x ∈ takersBefore order s ↔ x ∈ takersInOrder order.takers ∧
    behindPublication order s x = false := by
  rw [takersBefore, List.mem_filter, Bool.not_eq_true']

theorem mem_takersBehind : x ∈ takersBehind order s ↔ x ∈ takersInOrder order.takers ∧
    behindPublication order s x = true :=
  List.mem_filter

theorem publish_not_mem_take (xs : List Taker) : EndAct.publish ∉ xs.map EndAct.take := by simp

theorem send_not_mem_take (xs : List Taker) : EndAct.send ∉ xs.map EndAct.take := by simp

theorem take_mem_map {xs : List Taker} : EndAct.take x ∈ xs.map EndAct.take ↔ x ∈ xs := by simp

/-- The publication is in the command where a taker comes behind it. -/
theorem publish_mem_endActs (member : EndAct.publish ∈ endActs order s) : takersBehind order s ≠ [] := by
  intro none_
  rw [endActs, actsBehind, if_pos none_, List.append_nil] at member
  exact publish_not_mem_take _ member

theorem behind_of_publishesApart (apart : publishesApart order) : takersBehind order s = [] := by
  obtain ⟨reading, fitness⟩ := apart
  rw [takersBehind, List.filter_eq_nil_iff]
  intro x _
  cases x <;> simp [behindPublication, reading, fitness]

/-- An act that every interval end has comes once, between some others and the rest. -/
theorem exists_endActs_split (order : EndOrder) (s : State)
    (always : x ∈ ([.latch, .ageing, .fitness, .thermal] : List Taker)) :
    ∃ a b, endActs order s = a ++ .take x :: b ∧ (∀ e ∈ a, e ≠ .take x) ∧ (∀ e ∈ b, e ≠ .take x) ∧
      (behindPublication order s x = false → ∀ e ∈ a, ∃ y, e = .take y) ∧
      (behindPublication order s x = true → ∀ e ∈ b, ∃ y, e = .take y) := by
  have takes (xs : List Taker) : ∀ e ∈ xs.map EndAct.take, ∃ y, e = .take y := by
    intro e member
    obtain ⟨y, -, same⟩ := List.mem_map.mp member
    exact ⟨y, same.symm⟩
  have once := nodup_takersInOrder order.takers
  have there := mem_takersInOrder order.takers always
  have apart {xs : List Taker} (absent : x ∉ xs) : ∀ e ∈ xs.map EndAct.take, e ≠ .take x := by
    rintro e member rfl
    exact absent (take_mem_map.mp member)
  cases behind : behindPublication order s x with
  | false =>
    obtain ⟨before, after, placed⟩ := List.append_of_mem (mem_takersBefore.mpr ⟨there, behind⟩)
    have once_ : (takersBefore order s).Nodup := once.filter _
    rw [placed, List.nodup_middle, List.nodup_cons, List.mem_append, not_or] at once_
    obtain ⟨⟨sooner, later⟩, -⟩ := once_
    refine ⟨before.map .take, after.map .take ++ actsBehind order s, ?_, apart sooner, ?_, fun _ => takes before, nofun⟩
    · rw [endActs, placed, List.map_append, List.map_cons, List.append_assoc, List.cons_append]
    · rintro e member same
      obtain taken | rest := List.mem_append.mp member
      · exact apart later e taken same
      · subst same
        unfold actsBehind at rest
        split at rest
        · exact List.not_mem_nil rest
        · have last : EndAct.take x ∈ (takersBehind order s).map EndAct.take := by
            cases between : order.startsBetween <;> simpa [between] using rest
          have back := (mem_takersBehind.mp (take_mem_map.mp last)).2
          exact Bool.false_ne_true (behind.symm.trans back)
  | true =>
    have member := mem_takersBehind.mpr ⟨there, behind⟩
    obtain ⟨before, after, placed⟩ := List.append_of_mem member
    have once_ : (takersBehind order s).Nodup := once.filter _
    rw [placed, List.nodup_middle, List.nodup_cons, List.mem_append, not_or] at once_
    obtain ⟨⟨sooner, later⟩, -⟩ := once_
    refine ⟨(takersBefore order s).map .take ++ .publish :: ((if order.startsBetween then [.send] else []) ++ before.map
      .take),
      after.map .take, ?_, ?_, apart later, nofun, fun _ => takes after⟩
    · rw [endActs, actsBehind, if_neg (List.ne_nil_of_mem member), placed, List.map_append, List.map_cons]
      simp only [List.append_assoc, List.cons_append]
    · rintro e member rfl
      simp only [List.mem_append, List.mem_cons] at member
      obtain first | published | sent | front := member
      · exact Bool.false_ne_true ((mem_takersBefore.mp (take_mem_map.mp first)).2.symm.trans behind)
      · cases published
      · split at sent
        · simp at sent
        · exact List.not_mem_nil sent
      · exact sooner (take_mem_map.mp front)

/-- A start between the publication and what comes behind it is asked for by the order. -/
theorem send_mem_endActs (member : EndAct.send ∈ endActs order s) : order.startsBetween = true := by
  rw [endActs, List.mem_append, actsBehind] at member
  obtain taken | rest := member
  · exact absurd taken (send_not_mem_take _)
  · split at rest
    · exact absurd rest List.not_mem_nil
    · cases between : order.startsBetween with
      | true => rfl
      | false => simp [between] at rest

end Acts

end Sys2Proof.Machine
end

section
/-!
What the acts of an interval end but the fitness monitor's event leave of the elections, the drivers, the fitness
monitor and the line.
-/
namespace Sys2Proof.Machine

/-! ### The publication as an act -/

section Publish
variable {s : State} {w : Snapshot} {x : Port}

theorem publishLatched_cases (s : State) : publishLatched s = s ∨ ∃ w, s.working = true ∧ s.interval.latched = true ∧
    s.interval.working = some w ∧ publishLatched s = electOnPublication (s.rated w) := by
  by_cases awaits : s.latchAwaits = true
  · have due := awaits
    unfold State.latchAwaits at due
    rw [Bool.and_eq_true, Bool.and_eq_true] at due
    obtain ⟨⟨works, latched⟩, some_⟩ := due
    obtain ⟨w, working⟩ := Option.isSome_iff_exists.mp some_
    exact .inr ⟨w, works, latched, working, publishLatched_of_latched works latched working⟩
  · exact .inl (if_neg awaits)

theorem lane_evaluateAll (released : (s.elect x).lane = .released) :
    ((four.foldl evaluate s).elect x).lane = .released ∨ ((four.foldl evaluate s).elect x).lane = .claiming := by
  obtain ⟨u, before, after⟩ := laneLocal_evaluate.betweenFour s x
  rw [after.elect]
  rw [← before.elect] at released
  unfold evaluate
  split
  · rw [if_pos released]
    dsimp only
    split
    · split
      · right
        show ((State.updElect _ x _).elect x).lane = _
        rw [State.elect_updElect_self]
        rfl
      · left
        rw [State.elect_updElect_self]
        exact released
    · left
      rw [State.elect_updElect_self]
      exact released
  · exact .inl released

theorem flight_evaluate (s : State) (x : Port) : (evaluate s x).line.flight = s.line.flight := by
  unfold evaluate
  split
  · split
    · dsimp only
      split
      · split
        · rfl
        · rfl
      · rfl
    · rfl
  · rfl

theorem flight_evaluateAll (s : State) : (four.foldl evaluate s).line.flight = s.line.flight := by
  have each (xs : List Port) : ∀ t : State, (xs.foldl evaluate t).line.flight = t.line.flight := by
    induction xs with
    | nil => exact fun _ => rfl
    | cons x xs ih => exact fun t => (ih _).trans (flight_evaluate t x)
  exact each four s

theorem driversOn_rated (s : State) (w : Snapshot) (x : Port) :
    ((s.rated w).port x).driversOn = (s.port x).driversOn := by
  rw [port_rated]
  cases s.portConfig x with
  | none => rfl
  | some c =>
    obtain ⟨e, o, n, only⟩ := PortUnit.rateUpdate_only (u := s.port x) (d := c.depth) (part := (s.filled w).ports.get x)
      (dark := (((s.filled w).services.get c.slot).map fun v => v.counters.darkMark).getD true)
    dsimp only
    rw [only]

end Publish

/-! ### What the other acts leave -/

/-- What the acts but the fitness monitor's event leave of it, of the elections and of the drivers; `p`: a publication
may be among them. -/
structure State.SparesFitness (p : Prop) (s u : State) : Prop where
  fitness : u.fitness =
    { s.fitness with faults := { s.fitness.faults with thermalShed := u.fitness.faults.thermalShed } }
  counters : u.line.counters = s.line.counters
  rest : u = { s with
    interval := u.interval, paths := u.paths, services := u.services, ports := u.ports, election := u.election
    line := u.line, fitness := u.fitness, thermal := u.thermal, requests := u.requests }
  awake : u.thermal.shutdown = s.thermal.shutdown
  restarting : u.election.restarting = s.election.restarting
  published : p ∨ u.interval.published = s.interval.published
  drivers : ∀ x, (u.port x).driversOn = (s.port x).driversOn
  standing : ∀ x, (s.elect x).lane ≠ .released → (s.elect x).lane ≠ .backoff →
    u.elect x = { s.elect x with conflict := (u.elect x).conflict }
  moving : ∀ x, ((s.elect x).lane = .released ∨ (s.elect x).lane = .backoff) →
    (u.elect x).lane = .released ∨ ((s.elect x).lane = .backoff ∧ (u.elect x).lane = .backoff) ∨
      (p ∧ (u.elect x).lane = .claiming)

section Spares
variable {p q : Prop} {s t u : State} {w : Snapshot} {sensor : Int} {boot : BootInputs} {x : Port}

theorem State.SparesFitness.refl (p : Prop) (s : State) : State.SparesFitness p s s :=
  ⟨rfl, rfl, rfl, rfl, rfl, .inr rfl, fun _ => rfl, fun _ _ _ => rfl, fun _ moves => moves.imp id fun stays =>
    .inl ⟨stays, stays⟩⟩

theorem State.SparesFitness.lane_eq (spares : State.SparesFitness p s u) (released : (s.elect x).lane ≠ .released)
    (backoff : (s.elect x).lane ≠ .backoff) : (u.elect x).lane = (s.elect x).lane := by
  rw [spares.standing x released backoff]

theorem State.SparesFitness.trans (first : State.SparesFitness p s t) (second : State.SparesFitness q t u) :
    State.SparesFitness (p ∨ q) s u where
  fitness := by
    have later := second.fitness
    rw [first.fitness] at later
    exact later
  counters := second.counters.trans first.counters
  rest := by
    have later := second.rest
    rw [first.rest] at later
    exact later
  awake := second.awake.trans first.awake
  restarting := second.restarting.trans first.restarting
  published := first.published.elim (fun yes => .inl (.inl yes)) fun same =>
    second.published.elim (fun yes => .inl (.inr yes)) fun later => .inr (later.trans same)
  drivers x := (second.drivers x).trans (first.drivers x)
  standing x released backoff := by
    have lane := first.lane_eq released backoff
    have later := second.standing x (by rw [lane]; exact released) (by rw [lane]; exact backoff)
    rw [first.standing x released backoff] at later
    exact later
  moving x moves := by
    obtain released | ⟨start, backoff⟩ | ⟨yes, claiming⟩ := first.moving x moves
    · refine (second.moving x (.inl released)).imp id (Or.imp (fun ⟨no, _⟩ => ?_) fun ⟨yes, lane⟩ => ⟨.inr yes, lane⟩)
      exact absurd (released.symm.trans no) nofun
    · exact (second.moving x (.inr backoff)).imp id (Or.imp (fun ⟨_, lane⟩ => ⟨start, lane⟩) fun ⟨yes, lane⟩ =>
        ⟨.inr yes, lane⟩)
    · refine .inr (.inr ⟨.inl yes, ?_⟩)
      rw [second.lane_eq (by rw [claiming]; decide) (by rw [claiming]; decide), claiming]

theorem State.SparesFitness.mono (spares : State.SparesFitness p s u) (implies : p → q) :
    State.SparesFitness q s u where
  fitness := spares.fitness
  counters := spares.counters
  rest := spares.rest
  awake := spares.awake
  restarting := spares.restarting
  published := spares.published.imp implies id
  drivers := spares.drivers
  standing := spares.standing
  moving x moves := (spares.moving x moves).imp id (Or.imp id (And.imp implies id))

/-- What changes none of the elections' lanes, nor the fitness monitor. -/
theorem sparesFitness_of_elections (counters : u.line.counters = s.line.counters)
    (rest : u = { s with
      interval := u.interval, paths := u.paths, services := u.services, ports := u.ports, election := u.election
      line := u.line, thermal := u.thermal, requests := u.requests })
    (awake : u.thermal.shutdown = s.thermal.shutdown) (election : u.election = s.election)
    (published : p ∨ u.interval.published = s.interval.published)
    (drivers : ∀ x, (u.port x).driversOn = (s.port x).driversOn) : State.SparesFitness p s u := by
  have elect (x : Port) : u.elect x = s.elect x := congrArg (fun v => v.ports.get x) election
  refine ⟨?_, counters, ?_, awake, by rw [election], published, drivers,
    fun x _ _ => by rw [elect x], fun x moves => ?_⟩
  · rw [rest]
  · have fitness : u.fitness = s.fitness := by rw [rest]
    rw [fitness]
    exact rest
  · rw [elect x]
    exact moves.imp id fun stays => .inl ⟨stays, stays⟩

theorem sparesFitness_latch (p : Prop) (s : State) : State.SparesFitness p s (latch s) := by
  refine sparesFitness_of_elections rfl rfl rfl rfl (.inr rfl) fun x => ?_
  rw [port_latch]
  cases s.portConfig x <;> rfl

theorem sparesFitness_computeFigures (p : Prop) (s : State) : State.SparesFitness p s (computeFigures s) := by
  obtain same | ⟨w, working, -, -, same⟩ := computeFigures_cases s
  · rw [same]
    exact .refl p s
  · rw [same]
    exact sparesFitness_of_elections rfl rfl rfl rfl (.inr rfl) fun _ => rfl

theorem State.SparesFitness.of_counters {l : LineUnit} (counters : l.counters = s.line.counters) :
    State.SparesFitness p s { s with line := l } :=
  sparesFitness_of_elections counters rfl rfl rfl (.inr rfl) fun _ => rfl

theorem sparesFitness_trySend (p : Prop) (s : State) : State.SparesFitness p s (trySend s) := by
  have counters := (sparesThermal_trySend s).kept.2.1
  rw [rest_trySend] at counters ⊢
  exact .of_counters counters

/-- The station once peers have aged and back-off has counted. -/
def State.agedOnce (s : State) : State :=
  { s with election := { s.election with
    peers := s.election.peers.map fun e => e.bind PeerEntry.aged
    ports := s.election.ports.map fun _ e => e.countBackoff } }

theorem ageOnInterval_cases (s : State) : ageOnInterval s = refreshConflicts s.agedOnce ∨
    ageOnInterval s = s.agedOnce := by
  unfold ageOnInterval
  dsimp only
  split
  · exact .inl rfl
  · exact .inr rfl

theorem elect_ageOnInterval (s : State) (x : Port) : (ageOnInterval s).elect x =
    { (s.elect x).countBackoff with conflict := ((ageOnInterval s).elect x).conflict } := by
  have counted : s.agedOnce.elect x = (s.elect x).countBackoff := Quad.get_map ..
  obtain same | same := ageOnInterval_cases s
  · rw [same, ← counted]
    exact elect_refreshConflicts_only s.agedOnce x
  · rw [same, counted]

theorem peers_ageOnInterval (s : State) : (ageOnInterval s).election.peers = s.election.peers.map fun e =>
    e.bind PeerEntry.aged := by
  unfold ageOnInterval
  dsimp only
  split <;> rfl

theorem PortElection.countBackoff_of_other {e : PortElection} (other : e.lane ≠ .backoff) :
    e.countBackoff = e := if_neg other

theorem PortElection.countBackoff_lane {e : PortElection} (backoff : e.lane = .backoff) :
    e.countBackoff.lane = .released ∨ e.countBackoff.lane = .backoff := by
  unfold PortElection.countBackoff
  rw [if_pos backoff]
  split
  · exact .inl rfl
  · exact .inr backoff

theorem rest_ageOnInterval (s : State) : ageOnInterval s = { s with election := (ageOnInterval s).election } ∧
    (ageOnInterval s).election.restarting = s.election.restarting := by
  unfold ageOnInterval
  dsimp only
  split <;> exact ⟨rfl, rfl⟩

theorem sparesFitness_ageOnInterval (p : Prop) (s : State) : State.SparesFitness p s (ageOnInterval s) := by
  obtain ⟨rest, restarting⟩ := rest_ageOnInterval s
  refine ⟨by rw [rest], by rw [rest], ?_, by rw [rest], restarting, .inr (by rw [rest]), fun x => by rw [rest]; rfl,
    fun x _ backoff => ?_, fun x moves => ?_⟩
  · conv_lhs => rw [rest]
    rw [rest]
  · have aged := elect_ageOnInterval s x
    rw [PortElection.countBackoff_of_other backoff] at aged
    exact aged
  · rw [elect_ageOnInterval]
    obtain released | backoff := moves
    · left
      show (s.elect x).countBackoff.lane = _
      rw [PortElection.countBackoff_of_other (by rw [released]; decide)]
      exact released
    · exact (PortElection.countBackoff_lane backoff).imp id fun stays => .inl ⟨backoff, stays⟩

theorem sparesFitness_takeReading (p : Prop) (awake : s.thermal.shutdown = false) (cool : sensor < 125) :
    State.SparesFitness p s (takeReading s sensor boot) := by
  obtain ⟨h, more, clears, shutdown, -, effect⟩ := takeReading_effect (s := s) (sensor := sensor) boot rfl awake
    (clampInt_below cool)
  rw [effect s rfl rfl rfl]
  exact ⟨rfl, rfl, rfl, shutdown.trans awake.symm, rfl, .inr rfl, fun _ => rfl, fun _ _ _ => rfl, fun _ moves =>
    moves.imp id fun stays => .inl ⟨stays, stays⟩⟩

theorem sparesFitness_rated (s : State) (w : Snapshot) : State.SparesFitness True s (s.rated w) := by
  have rest := rest_rated s w
  refine sparesFitness_of_elections (by rw [line_rated]) ?_ (by rw [rest]; rfl) (by rw [rest]; rfl) (.inl trivial)
    (driversOn_rated s w)
  conv_lhs => rw [rest]
  rw [rest]
  rfl

theorem sparesFitness_announced (s : State) (w : Snapshot) : State.SparesFitness True s (s.announced w) := by
  have rest := rest_announced s w
  have ports : (s.announced w).ports = (s.rated w).ports := by rw [rest]
  have counters : (s.announced w).line.counters = s.line.counters := by
    have placed : (s.announced w).line.counters = (s.evaluated w).line.counters := LineUnit.counters_place ..
    rw [placed, (frame_evaluated s w).line, ← line_rated s w]
  refine ⟨by rw [rest]; rfl, counters, ?_, by rw [rest]; rfl, by rw [rest], .inl trivial,
    fun x => ?_, fun x released _ => ?_,
    fun x moves => ?_⟩
  · conv_lhs => rw [rest]
    rw [rest]
    rfl
  · exact (congrArg (fun v => (Quad.get v x).driversOn) ports).trans (driversOn_rated s w x)
  · have same : (s.announced w).elect x = s.elect x := (elect_announced s w x).trans
      ((elect_evaluateAll_of_other (by rw [elect_rated]; exact released)).trans (elect_rated s w x))
    rw [same]
  · rw [elect_announced]
    by_cases released : (s.elect x).lane = .released
    · have lanes := lane_evaluateAll (s := s.rated w) (x := x) (by rw [elect_rated]; exact released)
      exact lanes.imp id fun claiming => .inr ⟨trivial, claiming⟩
    · have same : (s.evaluated w).elect x = s.elect x :=
        (elect_evaluateAll_of_other (by rw [elect_rated]; exact released)).trans (elect_rated s w x)
      have backoff := moves.resolve_left released
      rw [same]
      exact .inr (.inl ⟨backoff, backoff⟩)

theorem sparesFitness_publishLatched (s : State) : State.SparesFitness True s (publishLatched s) := by
  obtain same | ⟨w, -, -, -, same⟩ := publishLatched_cases s
  · rw [same]
    exact .refl True s
  · rw [same]
    cases restarts : s.election.restarting with
    | true =>
      rw [electOnPublication_of_restarting restarts]
      exact sparesFitness_rated s w
    | false =>
      rw [electOnPublication_of_calm restarts]
      exact sparesFitness_announced s w

theorem sparesFitness_run {e : EndAct} (awake : s.thermal.shutdown = false) (cool : sensor < 125)
    (other : e ≠ .take .fitness) :
    State.SparesFitness (e = .publish) s (e.run sensor boot s) := by
  have of_working {t : State} (spares : State.SparesFitness (e = .publish) s t) :
      State.SparesFitness (e = .publish) s (if s.working then t else s) := by
    split
    · exact spares
    · exact .refl _ s
  cases e with
  | publish => exact (sparesFitness_publishLatched s).mono fun _ => rfl
  | send => exact sparesFitness_trySend _ s
  | take x =>
    cases x with
    | latch => exact of_working (sparesFitness_latch _ s)
    | figures => exact of_working (sparesFitness_computeFigures _ s)
    | ageing => exact of_working (sparesFitness_ageOnInterval _ s)
    | fitness => exact absurd rfl other
    | thermal => exact sparesFitness_takeReading _ awake cool

theorem sparesFitness_foldl (cool : sensor < 125) : ∀ (acts : List EndAct), (∀ e ∈ acts, e ≠ .take .fitness) →
    ∀ s : State,
    s.thermal.shutdown = false → State.SparesFitness (.publish ∈ acts) s (acts.foldl (EndAct.run sensor boot) s)
  | [], _, s, _ => .refl _ s
  | e :: acts, others, s, awake => by
    obtain ⟨other, others⟩ := List.forall_mem_cons.mp others
    have first := sparesFitness_run (boot := boot) awake cool other
    refine (first.trans (sparesFitness_foldl cool acts others _ (first.awake.trans awake))).mono ?_
    rintro (same | later)
    · exact List.mem_cons.mpr (.inl same.symm)
    · exact List.mem_cons_of_mem _ later

end Spares

end Sys2Proof.Machine
end

section
/-!
The fitness monitor's event by its fields (R148, R152, R155, R157), and what the other acts of an interval end leave of
the transmit slots.
-/
namespace Sys2Proof.Machine

/-! ### The four things done at an interval end -/

namespace FitnessUnit
variable {f : FitnessUnit} {c : Config}

/-- The merge check of the interval has found a mismatch. -/
def mergeBad (f : FitnessUnit) : Prop := f.underCheck ≠ none ∧ f.mismatches ≠ 0

/-- The configuration check finds another value than the stored one. -/
def configBad (f : FitnessUnit) (found : Half) : Prop := ∃ v, f.checkValue = some v ∧ found ≠ v

theorem conclude_of_good (good : ¬ f.mergeBad) : f.conclude =
    { f with
      checked := 0, mismatches := 0
      lastResult := match f.underCheck with
        | some k => some ⟨k, f.checked, f.mismatches⟩
        | none => f.lastResult } := by
  unfold conclude
  cases check : f.underCheck with
  | none => rfl
  | some k =>
    have clean : f.mismatches = 0 := by
      by_contra bad
      exact good ⟨by rw [check]; exact Option.some_ne_none k, bad⟩
    exact if_pos clean

theorem conclude_of_bad {k : SlotNo} (check : f.underCheck = some k) (bad : f.mismatches ≠ 0) : f.conclude =
    { f with
      checked := 0, mismatches := 0
      lastResult := some ⟨k, f.checked, f.mismatches⟩
      faults := { f.faults with mergeCheck := true }
      mergeFault := f.mergeFault <|> some (k, f.mismatches)
      state := f.state.afterFailure } := by
  unfold conclude
  rw [check]
  exact if_neg bad

theorem checkConfig_of_good {found : Half} (good : ¬ f.configBad found) : f.checkConfig found = f := by
  unfold checkConfig
  cases value : f.checkValue with
  | none => rfl
  | some v =>
    have same : found = v := by
      by_contra other
      exact good ⟨v, value, other⟩
    exact if_pos same

theorem checkConfig_of_bad {found : Half} (bad : f.configBad found) : f.checkConfig found =
    { f with
      faults := { f.faults with configCheck := true }
      configFault := f.configFault <|> some found
      state := f.state.afterFailure } := by
  obtain ⟨v, value, other⟩ := bad
  unfold checkConfig
  rw [value]
  exact if_neg other

theorem listen_of_listen (listens : f.state = .listen) : f.listen =
    { f with listenCount := min 3 (f.listenCount + 1), state := if 3 ≤ f.listenCount + 1 then .fit else .listen } :=
  if_pos listens

theorem listen_of_other (other : f.state ≠ .listen) : f.listen = f := if_neg other

theorem afterFailure_of_configured {l : Fitness} (configured : l ≠ .unconfigured) : l.afterFailure = .unfit := by
  cases l with
  | listen | fit | unfit => rfl
  | unconfigured => exact absurd rfl configured

/-- The checks' own fields. -/
theorem checks_spec (f : FitnessUnit) (found : Half) : let g := f.conclude.checkConfig found
    g.checked = 0 ∧ g.mismatches = 0 ∧ (∀ k, f.underCheck = some k → g.lastResult = some ⟨k, f.checked, f.mismatches⟩) ∧
      (f.underCheck = none → g.lastResult = f.lastResult) ∧
      (g.faults.mergeCheck = true ↔ f.faults.mergeCheck = true ∨ f.mergeBad) ∧
      (g.faults.configCheck = true ↔ f.faults.configCheck = true ∨ f.configBad found) ∧
      (∀ k, f.underCheck = some k → f.mismatches ≠ 0 → f.mergeFault = none → g.mergeFault = some (k, f.mismatches)) ∧
      ((f.mergeFault ≠ none ∨ ¬ f.mergeBad) → g.mergeFault = f.mergeFault) ∧
      (f.configBad found → f.configFault = none → g.configFault = some found) ∧
      ((f.configFault ≠ none ∨ ¬ f.configBad found) → g.configFault = f.configFault) ∧
      g.checkValue = f.checkValue ∧ g.underCheck = f.underCheck ∧ g.listenCount = f.listenCount ∧
      g.faults.lineStuck = f.faults.lineStuck ∧ g.faults.loadCorrected = f.faults.loadCorrected ∧
      g.faults.loadFailed = f.faults.loadFailed ∧
      (f.state ≠ .unconfigured → (f.mergeBad ∨ f.configBad found) → g.state = .unfit) ∧
      (¬ f.mergeBad → ¬ f.configBad found → g.state = f.state) := by
  have kept {α : Type} {o : Option α} {a : α} (some_ : o ≠ none) : (o <|> some a) = o := by
    obtain ⟨b, rfl⟩ := Option.ne_none_iff_exists'.mp some_
    rfl
  have concluded : f.conclude.checkValue = f.checkValue ∧ f.conclude.configFault = f.configFault ∧
      f.conclude.faults.configCheck = f.faults.configCheck := by
    by_cases bad : f.mergeBad
    · obtain ⟨k, check⟩ := Option.ne_none_iff_exists'.mp bad.1
      rw [conclude_of_bad check bad.2]
      exact ⟨rfl, rfl, rfl⟩
    · rw [conclude_of_good bad]
      exact ⟨rfl, rfl, rfl⟩
  obtain ⟨value, fault, flag⟩ := concluded
  have same : f.conclude.configBad found ↔ f.configBad found := by
    unfold configBad
    rw [value]
  classical
  intro g
  have config : (g.faults.configCheck = true ↔ f.faults.configCheck = true ∨ f.configBad found) ∧
      (f.configBad found → f.configFault = none → g.configFault = some found) ∧
      ((f.configFault ≠ none ∨ ¬ f.configBad found) → g.configFault = f.configFault) ∧
      g = { f.conclude with faults := { f.conclude.faults with configCheck := g.faults.configCheck }
                            configFault := g.configFault, state := g.state } ∧
      g.state = if f.configBad found then f.conclude.state.afterFailure else f.conclude.state := by
    by_cases bad : f.configBad found
    · have is : g = _ := checkConfig_of_bad (same.mpr bad)
      rw [is, fault]
      refine ⟨⟨fun _ => .inr bad, fun _ => rfl⟩,
        fun _ empty => by rw [empty]; rfl, fun why => ?_, rfl, (if_pos bad).symm⟩
      exact kept (why.resolve_right (not_not.mpr bad))
    · have is : g = f.conclude := checkConfig_of_good (mt same.mp bad)
      rw [is, fault, flag]
      exact ⟨⟨.inl, fun why => why.resolve_right bad⟩, fun yes => absurd yes bad, fun _ => rfl, by rw [← fault, ← flag],
        (if_neg bad).symm⟩
  obtain ⟨configFlag, configFirst, configKept, form, state⟩ := config
  by_cases bad : f.mergeBad
  · obtain ⟨k, check⟩ := Option.ne_none_iff_exists'.mp bad.1
    have is := conclude_of_bad check bad.2
    rw [is] at form state
    have unfit (configured : f.state ≠ .unconfigured) : g.state = .unfit := by
      rw [state]
      dsimp only
      rw [afterFailure_of_configured configured, afterFailure_of_configured (l := .unfit) (by decide), ite_self]
    rw [form]
    refine ⟨rfl, rfl, fun j under => ?_, fun none_ => absurd none_ bad.1, ⟨fun _ => .inr bad, fun _ => rfl⟩, configFlag,
      fun j under _ empty => ?_, fun why => kept (why.resolve_right (not_not.mpr bad)), configFirst, configKept, rfl,
        rfl, rfl, rfl,
      rfl, rfl, fun configured _ => unfit configured, fun good => absurd bad good⟩
    · rw [Option.some.inj (check.symm.trans under)]
    · rw [empty, Option.some.inj (check.symm.trans under)]
      rfl
  · have is := conclude_of_good bad
    rw [is] at form state
    rw [form]
    refine ⟨rfl, rfl, fun j under => by dsimp only; rw [under], fun none_ => by dsimp only; rw [none_],
      ⟨.inl, fun why => why.resolve_right bad⟩, configFlag,
      fun j under wrong => absurd ⟨by rw [under]; exact Option.some_ne_none j, wrong⟩ bad, fun _ => rfl, configFirst,
      configKept, rfl, rfl, rfl, rfl, rfl, rfl, fun configured why => ?_, fun _ good => ?_⟩
    · show g.state = _
      rw [state, if_pos (why.resolve_left bad)]
      exact afterFailure_of_configured configured
    · show g.state = _
      rw [state, if_neg good]

/-- R152 (2): the next configured slot, in the order behind the one under check. -/
theorem find_slotsAfter_iff (configured : Quad Bool) (k j : SlotNo) : (slotsAfter k).find? configured.get = some j ↔
    configured.get j = true ∧ ∀ i, configured.get i = true → (j.val + 3 - k.val) % 4 ≤ (i.val + 3 - k.val) % 4 := by
  obtain ⟨a, b, c, d⟩ := configured
  revert a b c d k j
  decide

theorem intervalEnd_of_unconfigured (unconfigured : f.state = .unconfigured) :
    f.intervalEnd c = f := if_pos unconfigured

theorem intervalEnd_of_configured (configured : f.state ≠ .unconfigured) :
    f.intervalEnd c = ((f.conclude.checkConfig c.checkValue).rotate c).listen := if_neg configured

/-- The listen count moves nothing but itself and the state. -/
theorem listen_only (f : FitnessUnit) :
    f.listen = { f with listenCount := f.listen.listenCount, state := f.listen.state } := by
  by_cases listens : f.state = .listen
  · rw [listen_of_listen listens]
  · rw [listen_of_other listens]

/-- THERMAL_SHED takes no part in the event. -/
theorem intervalEnd_shed (f : FitnessUnit) (c : Config) (b : Bool) :
    ({ f with faults := { f.faults with thermalShed := b } } : FitnessUnit).intervalEnd c =
      { f.intervalEnd c with faults := { (f.intervalEnd c).faults with thermalShed := b } } := by
  have concluded : ({ f with faults := { f.faults with thermalShed := b } } : FitnessUnit).conclude =
      { f.conclude with faults := { f.conclude.faults with thermalShed := b } } := by
    unfold conclude
    cases check : f.underCheck with
    | none => rfl
    | some k =>
      dsimp only
      split
      · rfl
      · rfl
  have checked (g : FitnessUnit) (v : Half) :
    ({ g with faults := { g.faults with thermalShed := b } } : FitnessUnit).checkConfig v =
      { g.checkConfig v with faults := { (g.checkConfig v).faults with thermalShed := b } } := by
    by_cases bad : g.configBad v
    · rw [checkConfig_of_bad bad]
      exact checkConfig_of_bad (f := { g with faults := { g.faults with thermalShed := b } }) bad
    · rw [checkConfig_of_good bad]
      exact checkConfig_of_good (f := { g with faults := { g.faults with thermalShed := b } }) bad
  have listened (g : FitnessUnit) : ({ g with faults := { g.faults with thermalShed := b } } : FitnessUnit).listen =
      { g.listen with faults := { g.listen.faults with thermalShed := b } } := by
    unfold listen
    dsimp only
    split
    · rfl
    · rfl
  by_cases configured : f.state = .unconfigured
  · rw [intervalEnd_of_unconfigured configured]
    exact intervalEnd_of_unconfigured (f := { f with faults := { f.faults with thermalShed := b } }) configured
  · rw [intervalEnd_of_configured configured,
      intervalEnd_of_configured (f := { f with faults := { f.faults with thermalShed := b } }) configured, concluded,
        checked]
    exact listened ((f.conclude.checkConfig c.checkValue).rotate c)

end FitnessUnit

/-! ### Transmit slots -/

/-- What the acts but the fitness monitor's event and the starts leave of the line. -/
structure State.SparesSlots (s u : State) : Prop where
  state : u.line.state = s.line.state
  flight : u.line.flight = s.line.flight
  report : u.line.slots.report = s.line.slots.report
  retry : s.line.retryIdle → u.line.retryIdle
  announce : u.line.slots.announce = s.line.slots.announce ∨ ∃ g, u.line.slots.announce = some g ∧ g.frame.kind = 3
  lanes : ∀ x, u.line.slots.get (.lane x) = s.line.slots.get (.lane x) ∨
    (((s.elect x).lane = .released ∨ (s.elect x).lane = .backoff) ∧ (u.elect x).lane = .claiming ∧
      ∃ g, u.line.slots.get (.lane x) = some g ∧ g.frame.kind = 2)

section Slots
variable {p q : Prop} {s t u : State} {w : Snapshot} {sensor : Int} {boot : BootInputs} {x : Port}

theorem sparesSlots_of_line (line : u.line = s.line) : s.SparesSlots u := by
  refine ⟨by rw [line], by rw [line], by rw [line], by rw [line]; exact id,
    .inl (by rw [line]), fun x => .inl (by rw [line])⟩

theorem State.SparesSlots.trans (first : s.SparesSlots t) (second : t.SparesSlots u)
    (sooner : State.SparesFitness p s t)
    (later : State.SparesFitness q t u) : s.SparesSlots u where
  state := second.state.trans first.state
  flight := second.flight.trans first.flight
  report := second.report.trans first.report
  retry := second.retry ∘ first.retry
  announce := by
    obtain same | new := second.announce
    · rw [same]
      exact first.announce
    · exact .inr new
  lanes x := by
    have back (moves : (t.elect x).lane = .released ∨ (t.elect x).lane = .backoff) :
        (s.elect x).lane = .released ∨ (s.elect x).lane = .backoff := by
      by_contra other
      obtain ⟨released, backoff⟩ := not_or.mp other
      rw [sooner.lane_eq released backoff] at moves
      exact other moves
    obtain same | ⟨moves, claims, new⟩ := second.lanes x
    · rw [same]
      obtain before | ⟨moves, claims, new⟩ := first.lanes x
      · exact .inl before
      · refine .inr ⟨moves, ?_, new⟩
        rw [later.lane_eq (by rw [claims]; decide) (by rw [claims]; decide), claims]
    · exact .inr ⟨back moves, claims, new⟩

theorem sparesSlots_announced (s : State) (w : Snapshot) : s.SparesSlots (s.announced w) where
  state := state_announced s w
  flight := by
    have placed : (s.announced w).line.flight = (s.evaluated w).line.flight := LineUnit.flight_place ..
    have evaluated : (s.evaluated w).line.flight = (s.rated w).line.flight := flight_evaluateAll _
    rw [placed, evaluated, line_rated]
  report := (frame_evaluated s w).report.trans (by rw [line_rated])
  retry idle := LineUnit.retryIdle_place _ _ ((frame_evaluated s w).retry (by rw [line_rated]; exact idle))
  announce := by
    obtain ⟨g, there, frame⟩ := Option.map_eq_some_iff.mp (slot_announced s w)
    exact .inr ⟨g, there, by rw [frame]; rfl⟩
  lanes x := by
    rw [slot_announced_of_ne (lane_ne_announce x), elect_announced]
    obtain same | ⟨released, claims, new⟩ := slot_evaluateAll (s.rated w) x
    · exact .inl (same.trans (by rw [line_rated]))
    · rw [elect_rated] at released
      exact .inr ⟨.inl released, claims, new⟩

theorem sparesSlots_publishLatched (s : State) : s.SparesSlots (publishLatched s) := by
  obtain same | ⟨w, -, -, -, same⟩ := publishLatched_cases s
  · rw [same]
    exact sparesSlots_of_line rfl
  · rw [same]
    cases restarts : s.election.restarting with
    | true =>
      rw [electOnPublication_of_restarting restarts]
      exact sparesSlots_of_line (line_rated s w)
    | false =>
      rw [electOnPublication_of_calm restarts]
      exact sparesSlots_announced s w

/-- A frame waits, or has started. -/
theorem sparesSlots_run {e : EndAct} (awake : s.thermal.shutdown = false) (cool : sensor < 125)
    (other : e ≠ .take .fitness)
    (held : e = .send → s.line.state ≠ .idle ∨ s.line.flight ≠ none) : s.SparesSlots (e.run sensor boot s) := by
  have of_working {t : State} (line : t.line = s.line) : s.SparesSlots (if s.working then t else s) := by
    split
    · exact sparesSlots_of_line line
    · exact sparesSlots_of_line rfl
  cases e with
  | publish => exact sparesSlots_publishLatched s
  | send => exact sparesSlots_of_line (congrArg State.line (trySend_of_held (held rfl)))
  | take x =>
    cases x with
    | latch => exact of_working rfl
    | figures => exact of_working (by obtain ⟨i, only⟩ := computeFigures_only s; rw [only])
    | ageing => exact of_working (by rw [(rest_ageOnInterval s).1])
    | fitness => exact absurd rfl other
    | thermal =>
      obtain ⟨h, more, clears, -, -, effect⟩ := takeReading_effect (s := s) (sensor := sensor) boot rfl awake
        (clampInt_below cool)
      show s.SparesSlots (takeReading s sensor boot)
      rw [effect s rfl rfl rfl]
      exact sparesSlots_of_line rfl

theorem State.SparesSlots.held (spares : s.SparesSlots u) (held : s.line.state ≠ .idle ∨ s.line.flight ≠ none) :
    u.line.state ≠ .idle ∨ u.line.flight ≠ none := by
  rw [spares.state, spares.flight]
  exact held

theorem sparesSlots_foldl (cool : sensor < 125) : ∀ (acts : List EndAct), (∀ e ∈ acts, e ≠ .take .fitness) →
    ∀ s : State,
    s.thermal.shutdown = false → (.send ∈ acts → s.line.state ≠ .idle ∨ s.line.flight ≠ none) →
      s.SparesSlots (acts.foldl (EndAct.run sensor boot) s)
  | [], _, s, _, _ => sparesSlots_of_line rfl
  | e :: acts, others, s, awake, held => by
    obtain ⟨other, others⟩ := List.forall_mem_cons.mp others
    have first := sparesSlots_run (boot := boot) awake cool other fun same => held (same ▸ List.mem_cons_self)
    have spares := sparesFitness_run (boot := boot) awake cool other
    have awake_ := spares.awake.trans awake
    exact first.trans (sparesSlots_foldl cool acts others _ awake_ fun member =>
      first.held (held (List.mem_cons_of_mem _ member)))
      spares (sparesFitness_foldl cool acts others _ awake_)

/-- A frame of a port outside RELEASED and BACKOFF waits, or has started. -/
def State.waitsOrFlies (s : State) (x : Port) (g : PlacedFrame) : Prop :=
  s.line.slots.get (.lane x) = some g ∨
    (s.line.slots.get (.lane x) = none ∧ s.line.flight = some ⟨.lane x, g, false, false⟩)

theorem State.waitsOrFlies.send {g : PlacedFrame} (either : s.waitsOrFlies x g) : (trySend s).waitsOrFlies x g := by
  obtain waits | ⟨gone, flies⟩ := either
  · exact trySend_waits_or_starts waits
  · rw [trySend_of_held (.inr (by rw [flies]; exact Option.some_ne_none _))]
    exact .inr ⟨gone, flies⟩

theorem State.SparesSlots.slot_eq (spares : s.SparesSlots u) (released : (s.elect x).lane ≠ .released)
    (backoff : (s.elect x).lane ≠ .backoff) : u.line.slots.get (.lane x) = s.line.slots.get (.lane x) := by
  obtain same | ⟨moves, -⟩ := spares.lanes x
  · exact same
  · exact absurd moves (not_or.mpr ⟨released, backoff⟩)

theorem waitsOrFlies_foldl (cool : sensor < 125) {g : PlacedFrame} : ∀ (acts : List EndAct),
    (∀ e ∈ acts, e ≠ .take .fitness) →
    ∀ s : State, s.thermal.shutdown = false → (s.elect x).lane = .disabled → s.waitsOrFlies x g →
      (acts.foldl (EndAct.run sensor boot) s).waitsOrFlies x g
  | [], _, _, _, _, either => either
  | e :: acts, others, s, awake, out, either => by
    obtain ⟨other, others⟩ := List.forall_mem_cons.mp others
    have spares := sparesFitness_run (boot := boot) awake cool other
    have released : (s.elect x).lane ≠ .released := by rw [out]; decide
    have backoff : (s.elect x).lane ≠ .backoff := by rw [out]; decide
    refine waitsOrFlies_foldl cool acts others _ (spares.awake.trans awake)
      ((spares.lane_eq released backoff).trans out) ?_
    by_cases sends : e = .send
    · subst sends
      exact either.send
    · have slots := sparesSlots_run (boot := boot) awake cool other fun same => absurd same sends
      unfold State.waitsOrFlies
      rw [slots.slot_eq released backoff, slots.flight]
      exact either

/-- A slot of a port outside RELEASED and BACKOFF in which nothing waits stays so. -/
theorem slotEmpty_foldl (cool : sensor < 125) : ∀ (acts : List EndAct), (∀ e ∈ acts, e ≠ .take .fitness) →
    ∀ s : State, s.thermal.shutdown = false → (s.elect x).lane = .disabled → s.line.slots.get (.lane x) = none →
      (acts.foldl (EndAct.run sensor boot) s).line.slots.get (.lane x) = none
  | [], _, _, _, _, empty => empty
  | e :: acts, others, s, awake, out, empty => by
    obtain ⟨other, others⟩ := List.forall_mem_cons.mp others
    have spares := sparesFitness_run (boot := boot) awake cool other
    have released : (s.elect x).lane ≠ .released := by rw [out]; decide
    have backoff : (s.elect x).lane ≠ .backoff := by rw [out]; decide
    refine slotEmpty_foldl cool acts others _ (spares.awake.trans awake) ((spares.lane_eq released backoff).trans out)
      ?_
    by_cases sends : e = .send
    · subst sends
      show (trySend s).line.slots.get (.lane x) = none
      obtain ⟨-, -, -, j, f, chosen, sent⟩ | same := trySend_cases s
      · rw [sent]
        by_cases here : TxSlot.lane x = j
        · rw [← here]
          show (s.line.slots.set (.lane x) none).get (.lane x) = none
          exact TxSlots.get_set_self ..
        · exact (TxSlots.get_set_of_ne _ _ here).trans empty
      · rw [same]
        exact empty
    · have slots := sparesSlots_run (boot := boot) awake cool other fun same => absurd same sends
      rw [slots.slot_eq released backoff]
      exact empty

/-- The RELEASE of a port is first among all that waits, on a free line of a station whose ports are all DISABLED. -/
structure State.Leads (s : State) (x : Port) (g : PlacedFrame) : Prop where
  works : s.working = true
  idle : s.line.state = .idle
  free : s.line.flight = none
  unmarked : s.line.retryIdle
  waits : s.line.slots.get (.lane x) = some g
  kind : g.frame.kind = 1
  report : s.line.slots.report = none
  announce : ∀ h, s.line.slots.announce = some h → h.frame.kind = 3
  lanes : ∀ y, y ≠ x → ∀ h, s.line.slots.get (.lane y) = some h → h.frame.kind = 1 ∧ x < y
  disabled : ∀ y, (s.elect y).lane = .disabled

theorem State.Leads.starts {g : PlacedFrame} (leads : s.Leads x g) :
    (trySend s).line.slots.get (.lane x) = none ∧ (trySend s).line.flight = some ⟨.lane x, g, false, false⟩ := by
  refine trySend_starts leads.works leads.idle leads.free leads.unmarked leads.waits fun j h other there => ?_
  rw [leads.kind]
  cases j with
  | announce => exact .inl (by rw [leads.announce h there]; decide)
  | report => exact (Option.some_ne_none h (there.symm.trans leads.report)).elim
  | lane y =>
    obtain ⟨kind, later⟩ := leads.lanes y (fun same => other (by rw [same])) h there
    have order : ∀ x y : Port, x < y → txSlots.idxOf (.lane x) < txSlots.idxOf (.lane y) := by decide
    exact .inr ⟨kind.symm, order x y later⟩

theorem State.Leads.step {g : PlacedFrame} (leads : s.Leads x g) (slots : s.SparesSlots u)
    (spares : State.SparesFitness p s u) :
    u.Leads x g := by
  have released (y : Port) : (s.elect y).lane ≠ .released := by rw [leads.disabled]; decide
  have backoff (y : Port) : (s.elect y).lane ≠ .backoff := by rw [leads.disabled]; decide
  have working : u.working = s.working := by
    have loader : u.loader = s.loader := by rw [spares.rest]
    unfold State.working
    rw [loader, spares.awake]
  refine ⟨working.trans leads.works, slots.state.trans leads.idle, slots.flight.trans leads.free,
    slots.retry leads.unmarked,
    (slots.slot_eq (released x) (backoff x)).trans leads.waits, leads.kind, slots.report.trans leads.report,
      fun h there => ?_,
    fun y other h there => ?_, fun y => (spares.lane_eq (released y) (backoff y)).trans (leads.disabled y)⟩
  · obtain same | ⟨f, new, kind⟩ := slots.announce
    · exact leads.announce h (same.symm.trans there)
    · rw [← Option.some.inj (new.symm.trans there)]
      exact kind
  · exact leads.lanes y other h ((slots.slot_eq (released y) (backoff y)).symm.trans there)

theorem leads_foldl (cool : sensor < 125) {g : PlacedFrame} : ∀ (acts : List EndAct), (∀ e ∈ acts, e ≠ .take .fitness) →
    ∀ s : State, s.thermal.shutdown = false → s.Leads x g →
      (trySend (acts.foldl (EndAct.run sensor boot) s)).line.slots.get (.lane x) = none ∧
        (trySend (acts.foldl (EndAct.run sensor boot) s)).line.flight = some ⟨.lane x, g, false, false⟩
  | [], _, s, _, leads => leads.starts
  | e :: acts, others, s, awake, leads => by
    obtain ⟨other, tail⟩ := List.forall_mem_cons.mp others
    have spares := sparesFitness_run (boot := boot) awake cool other
    have awake_ := spares.awake.trans awake
    by_cases sends : e = .send
    · subst sends
      obtain ⟨gone, flies⟩ := leads.starts
      have held : (trySend s).line.state ≠ .idle ∨ (trySend s).line.flight ≠ none :=
        .inr (by rw [flies]; exact Option.some_ne_none _)
      have slots := sparesSlots_foldl (boot := boot) cool acts tail (trySend s) awake_ fun _ => held
      have out : ((trySend s).elect x).lane = .disabled := by rw [elect_trySend]; exact leads.disabled x
      rw [List.foldl_cons]
      show (trySend (acts.foldl (EndAct.run sensor boot) (trySend s))).line.slots.get (.lane x) = none ∧
        (trySend (acts.foldl (EndAct.run sensor boot) (trySend s))).line.flight = _
      rw [trySend_of_held (slots.held held), slots.flight,
        slots.slot_eq (x := x) (by rw [out]; decide) (by rw [out]; decide)]
      exact ⟨gone, flies⟩
    · exact leads_foldl cool acts tail _ awake_
        (leads.step (sparesSlots_run (boot := boot) awake cool other fun same => absurd same sends) spares)

end Slots

end Sys2Proof.Machine
end

section
/-!
What the fitness monitor's event brings the ports (R126, R141), and which act of an interval end ages the peer view and
counts back-off (R122, R140).
-/
namespace Sys2Proof.Machine

/-! ### The event at the ports -/

section Event
variable {s : State} {x : Port} {c : PortConfig}

theorem fitness_fitnessOnInterval (s : State) : (fitnessOnInterval s).fitness = s.fitness.intervalEnd s.config := by
  rw [(frame_fitnessOnInterval s).rest]

/-- An event that leaves the fitness state brings the election unit nothing. -/
theorem fitnessOnInterval_of_same (same : (s.fitness.intervalEnd s.config).state = s.fitness.state) :
    fitnessOnInterval s = { s with fitness := s.fitness.intervalEnd s.config } := by
  unfold fitnessOnInterval
  dsimp only
  rw [same]
  cases s.fitness.state <;> rfl

theorem fitnessOnInterval_of_fit (listens : s.fitness.state = .listen)
    (fit : (s.fitness.intervalEnd s.config).state = .fit) :
    fitnessOnInterval s = electionFit { s with fitness := s.fitness.intervalEnd s.config } := by
  unfold fitnessOnInterval
  dsimp only
  rw [listens, fit]

theorem lane_electionFit (calm : s.election.restarting = false) (disabled : (s.elect x).lane = .disabled)
    (bound : (s.portConfig x).isSome = true) : ((electionFit s).elect x).lane = .released := by
  have moved : (electionFit s).elect x = (s.elect x).moveTo .released := by
    rw [electionFit, if_neg (by rw [calm]; exact Bool.false_ne_true)]
    exact (Quad.get_map ..).trans (if_pos ⟨bound, disabled⟩)
  rw [moved]
  rfl

/-- R141: the RELEASE of a port that drove waits in its slot. -/
theorem slot_electionUnfit_of_drives (drives : (s.elect x).lane = .driving ∨ (s.elect x).lane = .holding)
    (bound : s.portConfig x = some c) : ((electionUnfit s).line.slots.get (.lane x)).map PlacedFrame.frame =
      some ⟨1, s.loader.stationNumber,
        numBytes 1 c.lane.val ++ [if (s.elect x).mark = some .restart then 3 else 2]⟩ := by
  obtain ⟨u, before, after⟩ := laneLocal_unfitPort.betweenFour s x
  have loader : u.loader = s.loader := by rw [before.rest]
  unfold electionUnfit
  rw [after.slot, slot_unfitPort_of_drives (c := c) (by rw [before.elect]; exact drives)
    ((congrArg (fun v => v.ports.get x) before.config).trans bound), before.elect, loader]

theorem slot_electionUnfit_of_claiming (claims : (s.elect x).lane = .claiming) :
    (electionUnfit s).line.slots.get (.lane x) = none := by
  obtain ⟨u, before, after⟩ := laneLocal_unfitPort.betweenFour s x
  unfold electionUnfit
  rw [after.slot]
  exact slot_unfitPort_of_claiming (by rw [before.elect]; exact claims)

theorem slot_electionUnfit_of_quiet (quiet : (s.elect x).lane ≠ .driving) (idle : (s.elect x).lane ≠ .holding)
    (still : (s.elect x).lane ≠ .claiming) : (electionUnfit s).line.slots.get (.lane x) = s.line.slots.get
      (.lane x) := by
  obtain ⟨u, before, after⟩ := laneLocal_unfitPort.betweenFour s x
  rw [← before.elect] at quiet idle still
  unfold electionUnfit
  rw [after.slot, slot_unfitPort_of_quiet quiet idle still, before.slot]

theorem slot_unfitPort_of_unbound (drives : (s.elect x).lane = .driving ∨ (s.elect x).lane = .holding)
    (unbound : s.portConfig x = none) : (unfitPort s x).line.slots.get (.lane x) = s.line.slots.get (.lane x) := by
  have placed (r : ReleaseReason) : (placeRelease (standDown s x .disabled) x r).line = s.line := by
    unfold placeRelease placeLane
    rw [show (standDown s x .disabled).portConfig x = none from unbound]
    rfl
  rw [unfitPort_of_drives drives]
  split
  · exact congrArg (fun l : LineUnit => l.slots.get (.lane x)) (placed .restart)
  · exact congrArg (fun l : LineUnit => l.slots.get (.lane x)) (placed .unfit)

/-- What waits in a lane slot then is the RELEASE of a port that drove, or waited before in the slot of one that did not
claim. -/
theorem waits_electionUnfit {g : PlacedFrame} (waits : (electionUnfit s).line.slots.get (.lane x) = some g) :
    (g.frame.kind = 1 ∧ ((s.elect x).lane = .driving ∨ (s.elect x).lane = .holding)) ∨
      (s.line.slots.get (.lane x) = some g ∧ (s.elect x).lane ≠ .claiming) := by
  by_cases claims : (s.elect x).lane = .claiming
  · rw [slot_electionUnfit_of_claiming claims] at waits
    exact absurd waits nofun
  by_cases drives : (s.elect x).lane = .driving ∨ (s.elect x).lane = .holding
  · cases bound : s.portConfig x with
    | some c =>
      have release := slot_electionUnfit_of_drives drives bound
      rw [waits] at release
      exact .inl ⟨by rw [show g.frame = _ from Option.some.inj release], drives⟩
    | none =>
      obtain ⟨u, before, after⟩ := laneLocal_unfitPort.betweenFour s x
      have stays := slot_unfitPort_of_unbound (s := u) (x := x) (by rw [before.elect]; exact drives)
        ((congrArg (fun v => v.ports.get x) before.config).trans bound)
      unfold electionUnfit at waits
      rw [after.slot, stays, before.slot] at waits
      exact .inr ⟨waits, claims⟩
  · obtain ⟨quiet, idle⟩ := not_or.mp drives
    rw [slot_electionUnfit_of_quiet quiet idle claims] at waits
    exact .inr ⟨waits, claims⟩

theorem flight_electionUnfit_of_claiming {g : Flight} (claims : (s.elect x).lane = .claiming)
    (flight : s.line.flight = some g) (own : g.slot = .lane x) :
    (electionUnfit s).line.flight = some { g with withdrawn := true } ∧
      ((electionUnfit s).elect x).slotMark = true := by
  obtain ⟨u, before, after⟩ := laneLocal_unfitPort.betweenFour s x
  obtain ⟨withdrawn, marked⟩ := flight_unfitPort_of_claiming (s := u) (by rw [before.elect]; exact claims)
    ((before.own g own).mpr flight) own
  unfold electionUnfit
  exact ⟨(after.own { g with withdrawn := true } own).mpr withdrawn, by rw [after.elect]; exact marked⟩

theorem releaseOut_electionUnfit_of_drives (drives : (s.elect x).lane = .driving ∨ (s.elect x).lane = .holding)
    (marked : (s.elect x).mark = some .restart) : ((electionUnfit s).elect x).releaseOut = true := by
  obtain ⟨u, before, after⟩ := laneLocal_unfitPort.betweenFour s x
  unfold electionUnfit
  rw [after.elect]
  exact releaseOut_unfitPort_of_drives (by rw [before.elect]; exact drives) (by rw [before.elect]; exact marked)

end Event

/-! ### Ageing is one act -/

/-- What the acts but the ageing leave of the peer view and of the elections while fitness stands; `p`: a publication
may be among them. -/
structure State.SparesAgeing (p : Prop) (s u : State) : Prop where
  peers : u.election.peers = s.election.peers
  elects : ∀ x, u.elect x = { s.elect x with conflict := (u.elect x).conflict } ∨
    (p ∧ (s.elect x).lane = .released ∧ ((u.elect x).lane = .released ∨ (u.elect x).lane = .claiming))

section Ageing
variable {p q : Prop} {s t u : State} {sensor : Int} {boot : BootInputs} {x : Port}

theorem State.SparesAgeing.refl (p : Prop) (s : State) : State.SparesAgeing p s s := ⟨rfl, fun _ => .inl rfl⟩

theorem sparesAgeing_of_election (election : u.election = s.election) : State.SparesAgeing p s u := by
  have elect (x : Port) : u.elect x = s.elect x := congrArg (fun v => v.ports.get x) election
  exact ⟨by rw [election], fun x => .inl (by rw [elect x])⟩

theorem State.SparesAgeing.trans (first : State.SparesAgeing p s t) (second : State.SparesAgeing q t u) :
    State.SparesAgeing (p ∨ q) s u where
  peers := second.peers.trans first.peers
  elects x := by
    obtain same | ⟨yes, released, lane⟩ := first.elects x
    · obtain later | ⟨yes, released, lane⟩ := second.elects x
      · rw [same] at later
        exact .inl later
      · rw [same] at released
        exact .inr ⟨.inr yes, released, lane⟩
    · refine .inr ⟨.inl yes, released, ?_⟩
      obtain later | ⟨-, -, last⟩ := second.elects x
      · rw [later]
        exact lane
      · exact last

theorem State.SparesAgeing.mono (spares : State.SparesAgeing p s u) (implies : p → q) : State.SparesAgeing q s u where
  peers := spares.peers
  elects x := (spares.elects x).imp id (And.imp implies id)

theorem sparesAgeing_publishLatched (s : State) : State.SparesAgeing True s (publishLatched s) := by
  obtain same | ⟨w, -, -, -, same⟩ := publishLatched_cases s
  · rw [same]
    exact .refl True s
  rw [same]
  cases restarts : s.election.restarting with
  | true =>
    rw [electOnPublication_of_restarting restarts]
    exact sparesAgeing_of_election (by rw [rest_rated]; rfl)
  | false =>
    rw [electOnPublication_of_calm restarts]
    refine ⟨by rw [rest_announced], fun x => ?_⟩
    rw [elect_announced]
    by_cases released : (s.elect x).lane = .released
    · exact .inr ⟨trivial, released, lane_evaluateAll (s := s.rated w) (by rw [elect_rated]; exact released)⟩
    · left
      have same : (s.evaluated w).elect x = s.elect x :=
        (elect_evaluateAll_of_other (by rw [elect_rated]; exact released)).trans (elect_rated s w x)
      rw [same]

theorem sparesAgeing_run {e : EndAct} (awake : s.thermal.shutdown = false) (cool : sensor < 125)
    (other : e ≠ .take .ageing)
    (stands : (e.run sensor boot s).fitness.state = s.fitness.state) :
    State.SparesAgeing (e = .publish) s (e.run sensor boot s) := by
  have of_working {t : State} (election : t.election = s.election) :
      State.SparesAgeing (e = .publish) s (if s.working then t else s) := by
    split
    · exact sparesAgeing_of_election election
    · exact .refl _ s
  cases e with
  | publish => exact (sparesAgeing_publishLatched s).mono fun _ => rfl
  | send => exact sparesAgeing_of_election (by show (trySend s).election = _; rw [rest_trySend])
  | take x =>
    cases x with
    | latch => exact of_working rfl
    | figures => exact of_working (by obtain ⟨i, only⟩ := computeFigures_only s; rw [only])
    | ageing => exact absurd rfl other
    | fitness =>
      show State.SparesAgeing _ s (if s.working then fitnessOnInterval s else s)
      split
      next works =>
        have stands_ : (s.fitness.intervalEnd s.config).state = s.fitness.state := by
          have ran : (EndAct.take .fitness).run sensor boot s = fitnessOnInterval s := if_pos works
          rw [ran, fitness_fitnessOnInterval] at stands
          exact stands
        rw [fitnessOnInterval_of_same stands_]
        exact sparesAgeing_of_election rfl
      · exact .refl _ s
    | thermal =>
      obtain ⟨h, more, clears, -, -, effect⟩ := takeReading_effect (s := s) (sensor := sensor) boot rfl awake
        (clampInt_below cool)
      show State.SparesAgeing _ s (takeReading s sensor boot)
      rw [effect s rfl rfl rfl]
      exact sparesAgeing_of_election rfl

theorem awake_run (awake : s.thermal.shutdown = false) (cool : sensor < 125) (e : EndAct) :
    (e.run sensor boot s).thermal.shutdown = false := by
  by_cases other : e = .take .fitness
  · subst other
    show (if s.working then fitnessOnInterval s else s).thermal.shutdown = false
    split
    · rw [(frame_fitnessOnInterval s).rest]
      exact awake
    · exact awake
  · exact (sparesFitness_run awake cool other).awake.trans awake

theorem awake_foldl (cool : sensor < 125) : ∀ (acts : List EndAct) (s : State), s.thermal.shutdown = false →
    (acts.foldl (EndAct.run sensor boot) s).thermal.shutdown = false
  | [], _, awake => awake
  | e :: acts, _, awake => awake_foldl cool acts _ (awake_run awake cool e)

theorem loader_run (awake : s.thermal.shutdown = false) (cool : sensor < 125) (e : EndAct) :
    (e.run sensor boot s).loader = s.loader := by
  by_cases other : e = .take .fitness
  · subst other
    show (if s.working then fitnessOnInterval s else s).loader = s.loader
    split
    · rw [(frame_fitnessOnInterval s).rest]
    · rfl
  · rw [(sparesFitness_run awake cool other).rest]

/-- A working station works on. -/
theorem works_foldl (cool : sensor < 125) : ∀ (acts : List EndAct) (s : State), s.working = true →
    (acts.foldl (EndAct.run sensor boot) s).working = true
  | [], _, works => works
  | e :: acts, s, works => by
    obtain ⟨runs, awake⟩ := State.working_iff.mp works
    exact works_foldl cool acts _ (State.working_iff.mpr
      ⟨(congrArg LoaderUnit.phase (loader_run awake cool e)).trans runs, awake_run awake cool e⟩)

theorem peers_run {e : EndAct} (awake : s.thermal.shutdown = false) (cool : sensor < 125) (other : e ≠ .take .ageing) :
    (e.run sensor boot s).election.peers = s.election.peers := by
  by_cases fitness : e = .take .fitness
  · subst fitness
    show (if s.working then fitnessOnInterval s else s).election.peers = _
    split
    · rw [(frame_fitnessOnInterval s).rest]
    · rfl
  · refine (sparesAgeing_run awake cool other ?_).peers
    rw [(sparesFitness_run awake cool fitness).fitness]

theorem peers_foldl (cool : sensor < 125) : ∀ (acts : List EndAct), (∀ e ∈ acts, e ≠ .take .ageing) → ∀ s : State,
    s.thermal.shutdown = false → (acts.foldl (EndAct.run sensor boot) s).election.peers = s.election.peers
  | [], _, _, _ => rfl
  | e :: acts, others, s, awake => by
    obtain ⟨other, tail⟩ := List.forall_mem_cons.mp others
    exact (peers_foldl cool acts tail _ (awake_run awake cool e)).trans (peers_run awake cool other)

/-- The fitness state is that of before where no act is the fitness monitor's event. -/
theorem fitness_state_foldl (cool : sensor < 125) (acts : List EndAct) (others : ∀ e ∈ acts, e ≠ .take .fitness)
    (awake : s.thermal.shutdown = false) : (acts.foldl (EndAct.run sensor boot) s).fitness.state = s.fitness.state := by
  rw [(sparesFitness_foldl cool acts others s awake).fitness]

/-- The fitness monitor's event is one of some acts, and comes once. -/
def FitnessOnce (acts : List EndAct) : Prop :=
  ∃ a b, acts = a ++ .take .fitness :: b ∧ (∀ e ∈ a, e ≠ .take .fitness) ∧ ∀ e ∈ b, e ≠ .take .fitness

theorem sparesAgeing_of_others (cool : sensor < 125) : ∀ (acts : List EndAct), (∀ e ∈ acts, e ≠ .take .ageing) →
    (∀ e ∈ acts, e ≠ .take .fitness) → ∀ s : State, s.thermal.shutdown = false →
      State.SparesAgeing (.publish ∈ acts) s (acts.foldl (EndAct.run sensor boot) s)
  | [], _, _, s, _ => .refl _ s
  | e :: acts, others, still, s, awake => by
    obtain ⟨other, tail⟩ := List.forall_mem_cons.mp others
    obtain ⟨quiet, rest⟩ := List.forall_mem_cons.mp still
    have first := sparesAgeing_run (boot := boot) awake cool other
      (by rw [(sparesFitness_run awake cool quiet).fitness])
    refine (first.trans (sparesAgeing_of_others cool acts tail rest _ (awake_run awake cool e))).mono ?_
    rintro (same | later)
    · exact List.mem_cons.mpr (.inl same.symm)
    · exact List.mem_cons_of_mem _ later

/-- So too with the event among them, where it leaves the fitness state. -/
theorem sparesAgeing_foldl (cool : sensor < 125) {acts : List EndAct} (others : ∀ e ∈ acts, e ≠ .take .ageing)
    (once : (∀ e ∈ acts, e ≠ .take .fitness) ∨ FitnessOnce acts) (awake : s.thermal.shutdown = false)
    (stands : (acts.foldl (EndAct.run sensor boot) s).fitness.state = s.fitness.state) :
    State.SparesAgeing (.publish ∈ acts) s (acts.foldl (EndAct.run sensor boot) s) := by
  obtain none_ | ⟨a, b, rfl, before, after⟩ := once
  · exact sparesAgeing_of_others cool acts others none_ s awake
  have apart (e : EndAct) (member : e ∈ a ∨ e ∈ b) : e ≠ .take .ageing :=
    others e (List.mem_append.mpr (member.imp id (List.mem_cons_of_mem _)))
  rw [List.foldl_append, List.foldl_cons] at stands ⊢
  have awakeA := awake_foldl (boot := boot) cool a s awake
  have awakeF := awake_run (boot := boot) awakeA cool (.take .fitness)
  rw [fitness_state_foldl cool b after awakeF,
    ← fitness_state_foldl (s := s) (boot := boot) cool a before awake] at stands
  have first := sparesAgeing_of_others (boot := boot) cool a (fun e m => apart e (.inl m)) before s awake
  have event := sparesAgeing_run (boot := boot) awakeA cool (e := .take .fitness) nofun stands
  have last := sparesAgeing_of_others (boot := boot) cool b (fun e m => apart e (.inr m)) after _ awakeF
  refine ((first.trans event).trans last).mono ?_
  rintro ((early | no) | late)
  · exact List.mem_append_left _ early
  · cases no
  · exact List.mem_append_right _ (List.mem_cons_of_mem _ late)

/-- The ageing comes once, with the fitness monitor's event before it or behind it. -/
theorem exists_ageing_split (order : EndOrder) (s : State) :
    ∃ a b, endActs order s = a ++ .take .ageing :: b ∧ (∀ e ∈ a, e ≠ .take .ageing) ∧ (∀ e ∈ b, e ≠ .take .ageing) ∧
      ((FitnessOnce a ∧ ∀ e ∈ b, e ≠ .take .fitness) ∨ ((∀ e ∈ a, e ≠ .take .fitness) ∧ FitnessOnce b)) := by
  obtain ⟨a, b, split, beforeA, afterA, -⟩ := exists_endActs_split order s (x := .ageing) (by decide)
  obtain ⟨c, d, placed, beforeF, afterF, -⟩ := exists_endActs_split order s (x := .fitness) (by decide)
  refine ⟨a, b, split, beforeA, afterA, ?_⟩
  obtain ⟨m, first, last⟩ | ⟨m, first, last⟩ := List.append_eq_append_iff.mp (split.symm.trans placed)
  · obtain _ | ⟨e, m⟩ := m
    · cases last
    obtain ⟨rfl, rest⟩ := List.cons.inj last
    rw [first] at beforeF
    exact .inr ⟨fun e member => beforeF e (List.mem_append_left _ member), m, d, rest,
      fun e member => beforeF e (List.mem_append_right _ (List.mem_cons_of_mem _ member)), afterF⟩
  · obtain _ | ⟨e, m⟩ := m
    · cases last
    obtain ⟨rfl, rest⟩ := List.cons.inj last
    rw [rest] at afterF
    exact .inl ⟨⟨c, m, first, beforeF, fun e member => afterF e (List.mem_append_left _ member)⟩,
      fun e member => afterF e (List.mem_append_right _ (List.mem_cons_of_mem _ member))⟩

end Ageing

end Sys2Proof.Machine
end

section
/-!
O35: the interval end with the fitness monitor's event among its acts.
-/
namespace Sys2Proof.Machine

/-! ### The acts before the event, the event, and the acts behind it -/

/-- An interval end below 125 °C: the station `u` before the fitness monitor's event, `v` behind it, `t` at the end. -/
structure EventRun (sensor : Int) (boot : BootInputs) (s u v t : State) (a b : List EndAct) : Prop where
  cool : sensor < 125
  works : s.working = true
  before : ∀ e ∈ a, e ≠ .take .fitness
  after : ∀ e ∈ b, e ≠ .take .fitness
  sooner : u = a.foldl (EndAct.run sensor boot) s
  event : v = fitnessOnInterval u
  later : t = trySend (b.foldl (EndAct.run sensor boot) v)

namespace EventRun
variable {sensor : Int} {boot : BootInputs} {s u v t : State} {a b : List EndAct} {x : Port} {c : PortConfig}
  {order : EndOrder}

theorem awake (run : EventRun sensor boot s u v t a b) :
    s.thermal.shutdown = false := (State.working_iff.mp run.works).2

theorem first (run : EventRun sensor boot s u v t a b) : State.SparesFitness (.publish ∈ a) s u := by
  rw [run.sooner]
  exact sparesFitness_foldl run.cool a run.before s run.awake

theorem awakeAtEvent (run : EventRun sensor boot s u v t a b) :
    u.thermal.shutdown = false := run.first.awake.trans run.awake

theorem frame (run : EventRun sensor boot s u v t a b) :
    ({ u with fitness := u.fitness.intervalEnd u.config } : State).LaneFrame v := by
  rw [run.event]
  exact frame_fitnessOnInterval u

theorem awakeBehind (run : EventRun sensor boot s u v t a b) : v.thermal.shutdown = false := by
  rw [run.frame.rest]
  exact run.awakeAtEvent

theorem last (run : EventRun sensor boot s u v t a b) : State.SparesFitness (.publish ∈ b) v t := by
  rw [run.later]
  have rest := sparesFitness_foldl (boot := boot) run.cool b run.after v run.awakeBehind
  exact (rest.trans (sparesFitness_trySend False _)).mono fun either => either.resolve_right id

theorem config (run : EventRun sensor boot s u v t a b) : u.config = s.config := by rw [run.first.rest]

/-- The fitness monitor's own state, less THERMAL_SHED. -/
theorem fitness (run : EventRun sensor boot s u v t a b) : t.fitness = { s.fitness.intervalEnd s.config with
    faults := { (s.fitness.intervalEnd s.config).faults with thermalShed := t.fitness.faults.thermalShed } } := by
  have moved : v.fitness = u.fitness.intervalEnd u.config := by rw [run.frame.rest]
  have later := run.last.fitness
  rw [moved, run.config, run.first.fitness, FitnessUnit.intervalEnd_shed] at later
  exact later

theorem state (run : EventRun sensor boot s u v t a b) : t.fitness.state = (s.fitness.intervalEnd s.config).state := by
  rw [run.fitness]

/-- The event's outcome is that of the state before all acts. -/
theorem outcome (run : EventRun sensor boot s u v t a b) :
    u.fitness.state = s.fitness.state ∧
      (u.fitness.intervalEnd u.config).state = (s.fitness.intervalEnd s.config).state := by
  rw [run.config, run.first.fitness, FitnessUnit.intervalEnd_shed]
  exact ⟨rfl, rfl⟩

theorem kept (run : EventRun sensor boot s u v t a b) :
    s.keptByInterval { t with interval := { t.interval with published := s.interval.published } } := by
  have thermal := (sparesThermal_fitnessOnInterval u).kept
  rw [← run.event] at thermal
  refine ⟨rfl, run.last.counters.trans (thermal.2.1.trans run.first.counters), ?_⟩
  have rest := run.last.rest
  rw [run.frame.rest, run.first.rest] at rest
  conv_lhs => rw [rest]

theorem keptApart (run : EventRun sensor boot s u v t a b) (sooner : .publish ∉ a) (later : .publish ∉ b) :
    s.keptByInterval t := by
  have moved : v.interval = u.interval := by rw [run.frame.rest]
  have published : t.interval.published = s.interval.published :=
    (run.last.published.resolve_left later).trans ((congrArg IntervalUnit.published moved).trans
      (run.first.published.resolve_left sooner))
  obtain ⟨-, counters, rest⟩ := run.kept
  refine ⟨published, counters, ?_⟩
  have is : t = { t with interval := { t.interval with published := s.interval.published } } := by rw [← published]
  rw [← is] at rest
  exact rest

/-! ### The change to UNFIT -/

theorem unfit (run : EventRun sensor boot s u v t a b) (fit : s.fitness.state = .fit)
    (unfit : (s.fitness.intervalEnd s.config).state = .unfit) :
    v = { electionUnfit u with fitness := u.fitness.intervalEnd u.config } := by
  rw [run.event]
  exact fitnessOnInterval_of_unfit (run.outcome.1.trans fit) (run.outcome.2.trans unfit)

theorem disabled (run : EventRun sensor boot s u v t a b) (fit : s.fitness.state = .fit)
    (unfit : (s.fitness.intervalEnd s.config).state = .unfit) (x : Port) : (v.elect x).lane = .disabled := by
  rw [run.unfit fit unfit]
  exact lane_electionUnfit u x

theorem disabledAtEnd (run : EventRun sensor boot s u v t a b) (fit : s.fitness.state = .fit)
    (unfit : (s.fitness.intervalEnd s.config).state = .unfit) (x : Port) : (t.elect x).lane = .disabled := by
  have out := run.disabled fit unfit x
  exact (run.last.lane_eq (by rw [out]; decide) (by rw [out]; decide)).trans out

/-- The line at the event: what the station has done so far leaves it held, or free, as it was. -/
theorem lineAtEvent (run : EventRun sensor boot s u v t a b)
    (still : .send ∈ a → s.line.state ≠ .idle ∨ s.line.flight ≠ none) : s.SparesSlots u := by
  rw [run.sooner]
  exact sparesSlots_foldl run.cool a run.before s run.awake still

theorem heldBehind (run : EventRun sensor boot s u v t a b) (held : s.line.state ≠ .idle ∨ s.line.flight ≠ none) :
    v.line.state ≠ .idle ∨ v.line.flight ≠ none := by
  have state : v.line.state = u.line.state := by rw [run.frame.line]
  rw [state]
  exact ((run.lineAtEvent fun _ => held).held held).imp id (mt run.frame.flightNone.mp)

/-- On a held line the rest of the interval end starts nothing. -/
theorem lineBehind (run : EventRun sensor boot s u v t a b) (held : s.line.state ≠ .idle ∨ s.line.flight ≠ none) :
    v.SparesSlots t := by
  have held_ := run.heldBehind held
  have rest := sparesSlots_foldl (boot := boot) run.cool b run.after v run.awakeBehind fun _ => held_
  rw [run.later, trySend_of_held (rest.held held_)]
  exact rest

/-- A port that drove: its drivers are off, and its RELEASE waits or has started. -/
theorem drives (run : EventRun sensor boot s u v t a b) (fit : s.fitness.state = .fit)
    (unfit : (s.fitness.intervalEnd s.config).state = .unfit)
    (drives : (s.elect x).lane = .driving ∨ (s.elect x).lane = .holding) :
    (u.elect x).lane = (s.elect x).lane ∧ (u.elect x).mark = (s.elect x).mark ∧ (t.port x).driversOn = false ∧
      ((s.elect x).mark = some .restart → (t.elect x).releaseOut = true) := by
  have released : (s.elect x).lane ≠ .released := by obtain drive | hold := drives <;> simp [*]
  have backoff : (s.elect x).lane ≠ .backoff := by obtain drive | hold := drives <;> simp [*]
  have standing := run.first.standing x released backoff
  have lane : (u.elect x).lane = (s.elect x).lane := by rw [standing]
  have mark : (u.elect x).mark = (s.elect x).mark := by rw [standing]
  have out := run.disabled fit unfit x
  refine ⟨lane, mark, ?_, fun marked => ?_⟩
  · rw [run.last.drivers, run.unfit fit unfit]
    show ((electionUnfit u).port x).driversOn = false
    rw [port_electionUnfit, if_pos (by rw [lane]; exact drives)]
    rfl
  · rw [run.last.standing x (by rw [out]; decide) (by rw [out]; decide), run.unfit fit unfit]
    exact releaseOut_electionUnfit_of_drives (by rw [lane]; exact drives) (mark.trans marked)

/-- The RELEASE of a port that drove, once the event has been taken. -/
theorem releaseWaits (run : EventRun sensor boot s u v t a b) (fit : s.fitness.state = .fit)
    (unfit : (s.fitness.intervalEnd s.config).state = .unfit)
    (drives : (s.elect x).lane = .driving ∨ (s.elect x).lane = .holding) (bound : s.portConfig x = some c) :
    ∃ g, v.line.slots.get (.lane x) = some g ∧ g.frame =
      ⟨1, s.loader.stationNumber, numBytes 1 c.lane.val ++ [if (s.elect x).mark = some .restart then 3 else 2]⟩ := by
  obtain ⟨lane, mark, -, -⟩ := run.drives fit unfit drives
  have loader : u.loader = s.loader := by rw [run.first.rest]
  have placed := slot_electionUnfit_of_drives (s := u) (x := x) (c := c) (by rw [lane]; exact drives)
    ((congrArg (fun v => v.ports.get x) run.config).trans bound)
  rw [mark, loader] at placed
  rw [run.unfit fit unfit]
  exact Option.map_eq_some_iff.mp placed

/-- On a free line on which nothing waited, the RELEASE of the lowest port that drove is first. -/
theorem releaseLeads (run : EventRun sensor boot s u v t a b) (fit : s.fitness.state = .fit)
    (unfit : (s.fitness.intervalEnd s.config).state = .unfit) {g : PlacedFrame}
    (waits : v.line.slots.get (.lane x) = some g) (kind : g.frame.kind = 1) (idle : s.line.state = .idle)
    (free : s.line.flight = none) (empty : ∀ k, s.line.slots.get k = none)
    (lowest : ∀ y, y < x → (s.elect y).lane ≠ .driving ∧ (s.elect y).lane ≠ .holding) (unsent : .send ∉ a) :
    v.Leads x g := by
  have slots := run.lineAtEvent fun sent => absurd sent unsent
  have line := run.frame
  have loader : v.loader = s.loader := by rw [line.rest, run.first.rest]
  refine ⟨?_, ?_, ?_, ?_, waits, kind, ?_, ?_, ?_, run.disabled fit unfit⟩
  · have works := run.works
    unfold State.working at works ⊢
    rw [loader, run.awakeBehind]
    rw [run.awake] at works
    exact works
  · have state : v.line.state = u.line.state := by rw [line.line]
    exact state.trans (slots.state.trans idle)
  · exact line.flightNone.mpr (slots.flight.trans free)
  · exact line.retry (slots.retry fun k _ => empty k)
  · exact line.report.trans (slots.report.trans (empty .report))
  · intro h there
    obtain same | ⟨f, new, ann⟩ := slots.announce
    · have gone : v.line.slots.announce = none := line.announce.trans (same.trans (empty .announce))
      exact (Option.some_ne_none h (there.symm.trans gone)).elim
    · rw [← Option.some.inj (new.symm.trans (line.announce.symm.trans there))]
      exact ann
  · intro y other h there
    rw [run.unfit fit unfit] at there
    obtain ⟨release, drove⟩ | ⟨waited, quiet⟩ := waits_electionUnfit there
    · refine ⟨release, lt_of_le_of_ne (not_lt.mp fun lower => ?_) (Ne.symm other)⟩
      obtain ⟨drive, hold⟩ := lowest y lower
      by_cases moves : (s.elect y).lane = .released ∨ (s.elect y).lane = .backoff
      · obtain lane | ⟨-, lane⟩ | ⟨-, lane⟩ := run.first.moving y moves <;> simp [lane] at drove
      · obtain ⟨released, backoff⟩ := not_or.mp moves
        rw [run.first.lane_eq released backoff] at drove
        exact drove.elim drive hold
    · obtain same | ⟨-, claims, -⟩ := slots.lanes y
      · exact (Option.some_ne_none h (waited.symm.trans (same.trans (empty _)))).elim
      · exact absurd claims quiet

/-- A port that claimed: its CLAIM is withdrawn. -/
theorem claims (run : EventRun sensor boot s u v t a b) (fit : s.fitness.state = .fit)
    (unfit : (s.fitness.intervalEnd s.config).state = .unfit) (claims : (s.elect x).lane = .claiming) :
    t.line.slots.get (.lane x) = none ∧ ∀ g, s.line.flight = some g → g.slot = .lane x →
      t.line.flight = some { g with withdrawn := true } ∧ (t.elect x).slotMark = true := by
  have lane : (u.elect x).lane = .claiming :=
    (run.first.lane_eq (by rw [claims]; decide) (by rw [claims]; decide)).trans claims
  have out := run.disabled fit unfit x
  have shape := run.unfit fit unfit
  constructor
  · have gone : v.line.slots.get (.lane x) = none := by
      rw [shape]
      exact slot_electionUnfit_of_claiming lane
    have stays := slotEmpty_foldl (boot := boot) run.cool (b ++ [.send])
      (fun e member => (List.mem_append.mp member).elim (run.after e)
        fun one => by rw [List.mem_singleton.mp one]; exact nofun)
      v run.awakeBehind out gone
    rw [List.foldl_append] at stays
    rw [run.later]
    exact stays
  · intro g flight own
    have held : s.line.state ≠ .idle ∨ s.line.flight ≠ none := .inr (by rw [flight]; exact Option.some_ne_none g)
    have flies : u.line.flight = some g := (run.lineAtEvent fun _ => held).flight.trans flight
    obtain ⟨withdrawn, marked⟩ := flight_electionUnfit_of_claiming lane flies own
    refine ⟨(run.lineBehind held).flight.trans (by rw [shape]; exact withdrawn), ?_⟩
    rw [run.last.standing x (by rw [out]; decide) (by rw [out]; decide), shape]
    exact marked

/-! ### The change to FIT -/

theorem released (run : EventRun sensor boot s u v t a b) (listens : s.fitness.state = .listen)
    (fit : (s.fitness.intervalEnd s.config).state = .fit) (calm : s.election.restarting = false)
    (disabled : (s.elect x).lane = .disabled) (bound : (s.portConfig x).isSome = true) :
    (t.elect x).lane = .released ∨ (.publish ∈ b ∧ (t.elect x).lane = .claiming) := by
  have out : (u.elect x).lane = .disabled :=
    (run.first.lane_eq (by rw [disabled]; decide) (by rw [disabled]; decide)).trans disabled
  have released : (v.elect x).lane = .released := by
    rw [run.event, fitnessOnInterval_of_fit (run.outcome.1.trans listens) (run.outcome.2.trans fit)]
    refine lane_electionFit (run.first.restarting.trans calm) out ?_
    show (u.config.ports.get x).isSome = true
    rw [run.config]
    exact bound
  obtain lane | ⟨backoff, -⟩ | claims := run.last.moving x (.inl released)
  · exact .inl lane
  · exact absurd (released.symm.trans backoff) nofun
  · exact .inr claims

end EventRun

end Sys2Proof.Machine
end

section
/-!
O35: every interval end has its event and its ageing; the theorem.
-/
namespace Sys2Proof.Machine

section IntervalEnd
variable {sensor : Int} {boot : BootInputs} {s u v t : State} {a b : List EndAct} {x : Port} {c : PortConfig}
  {order : EndOrder}

theorem exists_eventRun (order : EndOrder) (boot : BootInputs) (opens : s.intervalOpen) (cool : sensor < 125) :
    ∃ a b u v t, EventRun sensor boot s u v t a b ∧ exec (.intervalEnd order sensor boot) s = .next t ∧
      endActs order s = a ++ .take .fitness :: b ∧
      (behindPublication order s .fitness = false → ∀ e ∈ a, ∃ y, e = .take y) ∧
      (behindPublication order s .fitness = true → ∀ e ∈ b, ∃ y, e = .take y) := by
  obtain ⟨runs, awake, ticks, unlatched⟩ := opens
  have works : s.working = true := State.working_iff.mpr ⟨runs, awake⟩
  obtain ⟨a, b, split, before, after, takes⟩ := exists_endActs_split order s (x := .fitness) (by decide)
  obtain ⟨u, sooner⟩ : ∃ u, u = a.foldl (EndAct.run sensor boot) s := ⟨_, rfl⟩
  have worksU : u.working = true := by
    rw [sooner]
    exact works_foldl cool a s works
  refine ⟨a, b, u, fitnessOnInterval u, _, ⟨cool, works, before, after, sooner, rfl, rfl⟩, ?_, split, takes⟩
  rw [exec_intervalEnd_eq ticks unlatched, split, List.foldl_append, List.foldl_cons, ← sooner]
  have event : (EndAct.take .fitness).run sensor boot u = fitnessOnInterval u := if_pos worksU
  rw [event]

/-- R122, R140: the ageing, with what comes before it and behind it. -/
theorem exists_ageing (order : EndOrder) (boot : BootInputs) (opens : s.intervalOpen) (cool : sensor < 125)
    (answers : exec (.intervalEnd order sensor boot) s = .next t) :
    ∃ u v, u.election.peers = s.election.peers ∧ v = ageOnInterval u ∧ t.election.peers = v.election.peers ∧
      (t.fitness.state = s.fitness.state →
        State.SparesAgeing (.publish ∈ endActs order s) s u ∧ State.SparesAgeing (.publish ∈ endActs order s) v t) := by
  obtain ⟨runs, awake, ticks, unlatched⟩ := opens
  have works : s.working = true := State.working_iff.mpr ⟨runs, awake⟩
  obtain ⟨a, b, split, before, after, once⟩ := exists_ageing_split order s
  obtain ⟨u, sooner⟩ : ∃ u, u = a.foldl (EndAct.run sensor boot) s := ⟨_, rfl⟩
  have worksU : u.working = true := by
    rw [sooner]
    exact works_foldl cool a s works
  obtain ⟨v, event⟩ : ∃ v, v = ageOnInterval u := ⟨_, rfl⟩
  have ran : (EndAct.take .ageing).run sensor boot u = v := by
    rw [event]
    exact if_pos worksU
  rw [exec_intervalEnd_eq ticks unlatched, split, List.foldl_append, List.foldl_cons, ← sooner, ran] at answers
  have is : t = trySend (b.foldl (EndAct.run sensor boot) v) := (Host.Outcome.next.inj answers).symm
  have awakeU : u.thermal.shutdown = false := (State.working_iff.mp worksU).2
  have awakeV : v.thermal.shutdown = false := by
    rw [event, (rest_ageOnInterval u).1]
    exact awakeU
  have sent : t.election = (b.foldl (EndAct.run sensor boot) v).election := by rw [is, rest_trySend]
  have sentF : t.fitness = (b.foldl (EndAct.run sensor boot) v).fitness := by rw [is, rest_trySend]
  have aged : v.fitness = u.fitness := by rw [event, (rest_ageOnInterval u).1]
  refine ⟨u, v, ?_, event, ?_, fun stands => ?_⟩
  · rw [sooner]
    exact peers_foldl cool a before s awake
  · rw [sent]
    exact peers_foldl cool b after v awakeV
  have middle : u.fitness.state = s.fitness.state := by
    obtain ⟨-, none_⟩ | ⟨none_, -⟩ := once
    · rw [sentF, fitness_state_foldl cool b none_ awakeV, aged] at stands
      exact stands
    · rw [sooner]
      exact fitness_state_foldl cool a none_ awake
  have first := sparesAgeing_foldl (boot := boot) (s := s) cool before (once.symm.imp And.left And.left) awake
    (by rw [← sooner]; exact middle)
  have last := sparesAgeing_foldl (boot := boot) (s := v) cool after (once.imp And.right And.right) awakeV
    (by rw [← sentF, aged, middle]; exact stands)
  rw [← sooner] at first
  refine ⟨first.mono fun member => by rw [split]; exact List.mem_append_left _ member, ?_⟩
  refine ((last.trans (sparesAgeing_of_election (p := False) sent)).mono (q := .publish ∈ endActs order s) ?_)
  rintro (member | member)
  · rw [split]
    exact List.mem_append_right _ (List.mem_cons_of_mem _ member)
  · exact absurd member id

/-- While fitness stands, the back-off of a port counts; a RELEASED port may claim in a publication of the same
command. -/
theorem backoff_spec {p : Prop} (sooner : State.SparesAgeing p s u) (event : v = ageOnInterval u)
    (later : State.SparesAgeing p v t)
    (x : Port) : ((s.elect x).lane = .backoff → 2 ≤ (s.elect x).backoff →
        (t.elect x).lane = .backoff ∧ (t.elect x).backoff + 1 = (s.elect x).backoff) ∧
      ((s.elect x).lane = .backoff → (s.elect x).backoff ≤ 1 →
        (t.elect x).lane = .released ∧ (¬ p → (t.elect x).challenge = 0) ∨ p ∧ (t.elect x).lane = .claiming) ∧
      ((s.elect x).lane ≠ .backoff → (t.elect x).lane = (s.elect x).lane ∨
        p ∧ (s.elect x).lane = .released ∧ (t.elect x).lane = .claiming) := by
  have counted := elect_ageOnInterval u x
  rw [← event] at counted
  obtain same | ⟨yes, released, lane⟩ := sooner.elects x
  · rw [same] at counted
    by_cases backoff : (s.elect x).lane = .backoff
    · refine ⟨fun _ much => ?_, fun _ little => ?_, fun other => absurd backoff other⟩
      · have counts : (v.elect x).lane = .backoff ∧ (v.elect x).backoff + 1 = (s.elect x).backoff := by
          rw [counted, PortElection.countBackoff, if_pos backoff, if_neg (Nat.not_le.mpr much)]
          exact ⟨backoff, Nat.sub_add_cancel (Nat.le_of_succ_le much)⟩
        obtain last | ⟨-, released, -⟩ := later.elects x
        · rw [last]
          exact counts
        · exact absurd (released.symm.trans counts.1) nofun
      · have ends : (v.elect x).lane = .released ∧ (v.elect x).challenge = 0 := by
          rw [counted, PortElection.countBackoff, if_pos backoff, if_pos little]
          exact ⟨rfl, rfl⟩
        obtain last | ⟨yes, -, lane⟩ := later.elects x
        · rw [last]
          exact .inl ⟨ends.1, fun _ => ends.2⟩
        · exact lane.imp (fun released => ⟨released, fun no => absurd yes no⟩) fun claims => ⟨yes, claims⟩
    · have stands : (v.elect x).lane = (s.elect x).lane := by
        rw [counted, PortElection.countBackoff_of_other (by exact backoff)]
      refine ⟨fun yes => absurd yes backoff, fun yes => absurd yes backoff, fun _ => ?_⟩
      obtain last | ⟨yes, released, lane⟩ := later.elects x
      · rw [last]
        exact .inl stands
      · rw [stands] at released
        exact lane.imp (fun r => r.trans released.symm) fun claims => ⟨yes, released, claims⟩
  · have other : (s.elect x).lane ≠ .backoff := by rw [released]; decide
    refine ⟨fun yes => absurd yes other, fun yes => absurd yes other, fun _ => ?_⟩
    have calm : (u.elect x).lane ≠ .backoff := by obtain r | c := lane <;> simp [*]
    have stands : (v.elect x).lane = (u.elect x).lane := by
      rw [counted, PortElection.countBackoff_of_other calm]
    have ends : (t.elect x).lane = .released ∨ (t.elect x).lane = .claiming := by
      obtain last | ⟨-, -, last⟩ := later.elects x
      · rw [last]
        rw [← stands] at lane
        exact lane
      · exact last
    exact ends.imp (fun r => r.trans released.symm) fun claims => ⟨yes, released, claims⟩

end IntervalEnd
end Sys2Proof.Machine
end

section
/-!
O35: the fitness monitor's event whole, its effect on the ports, and the theorem.
-/
namespace Sys2Proof.Machine

/-! ### The event in a configured station -/

namespace FitnessUnit
variable {f h : FitnessUnit} {c : Config} {b : Bool}

/-- A configured monitor's event: the checks, the service under check, and the listen count. -/
theorem event_of_configured (configured : f.state ≠ .unconfigured)
    (is : h = { f.intervalEnd c with faults := { (f.intervalEnd c).faults with thermalShed := b } }) :
    h = { f.conclude.checkConfig c.checkValue with
      faults := { (f.conclude.checkConfig c.checkValue).faults with thermalShed := b }
      underCheck := f.underCheck.bind fun k => (slotsAfter k).find? fun j => (c.services.get j).isSome
      listenCount := ((f.conclude.checkConfig c.checkValue).rotate c).listen.listenCount
      state := ((f.conclude.checkConfig c.checkValue).rotate c).listen.state } := by
  obtain ⟨-, -, -, -, -, -, -, -, -, -, -, under, -⟩ := checks_spec f c.checkValue
  have rotated : ((f.conclude.checkConfig c.checkValue).rotate c).underCheck =
      f.underCheck.bind fun k => (slotsAfter k).find? fun j => (c.services.get j).isSome := by rw [rotate, under]
  rw [is, intervalEnd_of_configured configured, listen_only]
  generalize ((f.conclude.checkConfig c.checkValue).rotate c).listen.listenCount = n
  generalize ((f.conclude.checkConfig c.checkValue).rotate c).listen.state = l
  rw [← rotated]
  rfl

theorem state_of_bad (configured : f.state ≠ .unconfigured) (bad : f.mergeBad ∨ f.configBad c.checkValue) :
    ((f.conclude.checkConfig c.checkValue).rotate c).listen.state = .unfit := by
  obtain ⟨-, -, -, -, -, -, -, -, -, -, -, -, -, -, -, -, unfit, -⟩ := checks_spec f c.checkValue
  have state : ((f.conclude.checkConfig c.checkValue).rotate c).state = .unfit := unfit configured bad
  rw [listen_of_other (by rw [state]; decide), state]

section Good
variable (good : ¬ f.mergeBad) (same : ¬ f.configBad c.checkValue)
include good same

theorem rotated_of_good : ((f.conclude.checkConfig c.checkValue).rotate c).state = f.state ∧
    ((f.conclude.checkConfig c.checkValue).rotate c).listenCount = f.listenCount := by
  obtain ⟨-, -, -, -, -, -, -, -, -, -, -, -, count, -, -, -, -, stands⟩ := checks_spec f c.checkValue
  exact ⟨stands good same, count⟩

theorem state_of_good (other : f.state ≠ .listen) :
    ((f.conclude.checkConfig c.checkValue).rotate c).listen.state = f.state := by
  obtain ⟨state, -⟩ := rotated_of_good good same
  rw [listen_of_other (by rw [state]; exact other), state]

theorem counts_of_good (listens : f.state = .listen) :
    ((f.conclude.checkConfig c.checkValue).rotate c).listen.listenCount = min 3 (f.listenCount + 1) ∧
      ((f.conclude.checkConfig c.checkValue).rotate c).listen.state = if 3 ≤ f.listenCount + 1 then .fit else
        .listen := by
  obtain ⟨state, count⟩ := rotated_of_good good same
  rw [listen_of_listen (by rw [state]; exact listens), count]
  exact ⟨rfl, rfl⟩

end Good

end FitnessUnit

/-! ### The event at the ports, in the words of O35 -/

section IntervalEnd
variable {sensor : Int} {boot : BootInputs} {s u v t : State} {a b : List EndAct} {x : Port} {c : PortConfig}
  {order : EndOrder}

/-- A frame of a lane slot that waits, or has started. -/
def State.laneWaits (t : State) (x : Port) (f : Frame) : Prop := (t.line.slots.lane.get x).map PlacedFrame.frame = some
    f

def State.laneStarts (t : State) (x : Port) (f : Frame) : Prop :=
  t.line.slots.lane.get x = none ∧ ∃ g, t.line.flight = some ⟨.lane x, g, false, false⟩ ∧ g.frame = f

/-- R141: the RELEASE of a port that drove, on a held line and on a free one. -/
theorem EventRun.releases (run : EventRun sensor boot s u v t a b) (fit : s.fitness.state = .fit)
    (unfit : (s.fitness.intervalEnd s.config).state = .unfit)
    (drives : (s.elect x).lane = .driving ∨ (s.elect x).lane = .holding) (bound : s.portConfig x = some c)
      {release : Frame}
    (is : release =
      ⟨1, s.loader.stationNumber, numBytes 1 c.lane.val ++ [if (s.elect x).mark = some .restart then 3 else 2]⟩) :
    (s.line.state ≠ .idle ∨ s.line.flight ≠ none → t.laneWaits x release) ∧
      (s.line.state = .idle → s.line.flight = none → t.laneWaits x release ∨ t.laneStarts x release) ∧
      (s.line.state = .idle → s.line.flight = none → (∀ k, s.line.slots.get k = none) →
        (∀ y, y < x → (s.elect y).lane ≠ .driving ∧ (s.elect y).lane ≠ .holding) → .send ∉ a →
          t.laneStarts x release) := by
  obtain ⟨g, waits, frame⟩ := run.releaseWaits fit unfit drives bound
  rw [← is] at frame
  have out := run.disabled fit unfit x
  refine ⟨fun held => ?_, fun _ _ => ?_, fun idle free empty lowest unsent => ?_⟩
  · have stays := (run.lineBehind held).slot_eq (x := x) (by rw [out]; decide) (by rw [out]; decide)
    exact Option.map_eq_some_iff.mpr ⟨g, stays.trans waits, frame⟩
  · have either : t.waitsOrFlies x g := by
      rw [run.later]
      exact (waitsOrFlies_foldl run.cool b run.after v run.awakeBehind out (.inl waits)).send
    exact either.imp (fun stays => Option.map_eq_some_iff.mpr ⟨g, stays, frame⟩) fun ⟨gone, flies⟩ =>
      ⟨gone, g, flies, frame⟩
  · have leads := run.releaseLeads fit unfit waits (by rw [frame, is]) idle free empty lowest unsent
    have starts := leads_foldl (boot := boot) run.cool b run.after v run.awakeBehind leads
    rw [← run.later] at starts
    exact ⟨starts.1, g, starts.2, frame⟩

/-- A start before the event is one behind the publication, with the event behind that. -/
theorem send_not_mem_before (split : endActs order s = a ++ .take .fitness :: b)
    (takes : behindPublication order s .fitness = false → ∀ e ∈ a, ∃ y, e = .take y)
    (either : order.publishBeforeFitness = false ∨ order.startsBetween = false) : .send ∉ a := by
  intro member
  obtain first | unsent := either
  · obtain ⟨y, same⟩ := takes (by rw [behindPublication, first, Bool.false_and]) _ member
    exact absurd same nofun
  · have between := send_mem_endActs (order := order) (s := s) (by rw [split]; exact List.mem_append_left _ member)
    exact Bool.false_ne_true (unsent.symm.trans between)

/-- A publication in an interval end at which the station becomes FIT is there for the reading behind it. -/
theorem publishFirst_of_becomesFit (listens : s.fitness.state = .listen)
    (fit : (s.fitness.intervalEnd s.config).state = .fit) (publishes : .publish ∈ endActs order s) :
    order.publishFirst = true := by
  obtain ⟨x, member⟩ := List.exists_mem_of_ne_nil _ (publish_mem_endActs publishes)
  have becomes : s.becomesFit = true := by
    rw [State.becomesFit, fitness_fitnessOnInterval, listens, fit]
    rfl
  have behind := (mem_takersBehind.mp member).2
  cases x with
  | thermal => exact behind
  | fitness => rw [behindPublication, becomes, Bool.not_true, Bool.and_false] at behind; exact absurd behind
                 Bool.false_ne_true
  | latch | figures | ageing => exact absurd behind Bool.false_ne_true

theorem publish_not_mem_of_apart (apart : publishesApart order) : .publish ∉ endActs order s :=
  fun member => publish_mem_endActs member (behind_of_publishesApart apart)

/-- Settles O35: an event amid acts that leave it its cause and its effect, and one ageing amid acts that leave it its
own. -/
theorem intervalEndChecksFitnessAndAges : Obligations.IntervalEndChecksFitnessAndAges := by
  unfold Obligations.IntervalEndChecksFitnessAndAges
  intro order sensor boot s opens cool
  obtain ⟨a, b, u, v, t, run, answers, split, takes, -⟩ := exists_eventRun order boot opens cool
  obtain ⟨w, r, peersBefore, ages, peersAfter, ageing⟩ := exists_ageing order boot opens cool answers
  rw [← Config.checkValue_eq]
  intro f mergeBad found configBad
  refine ⟨t, answers, fun unconfigured => ?_, fun configured => ?_, run.kept, fun apart => ?_, fun i => ?_,
    fun stands x => ?_⟩
  · have is := run.fitness
    rw [FitnessUnit.intervalEnd_of_unconfigured unconfigured] at is
    exact is
  · have is := FitnessUnit.event_of_configured configured run.fitness
    have ends := (FitnessUnit.intervalEnd_of_configured (c := s.config) configured).symm
    obtain ⟨checked, mismatches, result, noResult, merge, config, mergeFirst, mergeKept, configFirst, configKept, value,
      -, -, stuck,
      corrected, failed, -, -⟩ := FitnessUnit.checks_spec f found
    have under : t.fitness.underCheck = f.underCheck.bind fun k => (slotsAfter k).find? fun j =>
      (s.config.services.get j).isSome := by
      rw [is]
    have count : t.fitness.listenCount = ((f.conclude.checkConfig found).rotate
      s.config).listen.listenCount := by rw [is]
    have state : t.fitness.state = ((f.conclude.checkConfig found).rotate s.config).listen.state := by rw [is]
    have outcome := run.state.symm
    refine ⟨?_, ?_, ?_, ?_, ?_, ?_, ?_, ?_, ?_, ?_, ?_, ?_, ?_, ?_, fun bad => ?_, fun none_ => ?_, fun k some_ j => ?_,
      fun good same listens => ?_, fun good same other => ?_⟩
    · rw [is]; exact checked
    · rw [is]; exact mismatches
    · rw [is]; exact result
    · rw [is]; exact merge
    · rw [is]; exact config
    · rw [is]; exact mergeFirst
    · rw [is]; exact mergeKept
    · rw [is]; exact configFirst
    · rw [is]; exact configKept
    · rw [is]; exact noResult
    · rw [is]; exact value
    · rw [is]; exact stuck
    · rw [is]; exact corrected
    · rw [is]; exact failed
    · have unfit : t.fitness.state = .unfit := state.trans (FitnessUnit.state_of_bad configured bad)
      refine ⟨unfit, fun fit x => ?_⟩
      have lost := outcome.trans unfit
      refine ⟨run.disabledAtEnd fit lost x, fun drives => ?_, fun claims => run.claims fit lost claims⟩
      obtain ⟨-, -, off, marked⟩ := run.drives fit lost drives
      refine ⟨off, fun c bound => ?_, marked⟩
      obtain ⟨held, free, first⟩ := run.releases fit lost drives bound rfl
      exact ⟨held, free, fun idle empty slots lowest either =>
        first idle empty slots lowest (send_not_mem_before split takes either)⟩
    · rw [under, none_]; rfl
    · rw [under, some_]
      have configuredSlots := FitnessUnit.find_slotsAfter_iff (s.config.services.map fun _ v => v.isSome) k j
      simp only [Quad.get_map] at configuredSlots
      exact configuredSlots
    · obtain ⟨counts, becomes⟩ := FitnessUnit.counts_of_good (c := s.config) good same listens
      refine ⟨fun few => ⟨state.trans (becomes.trans (if_neg (Nat.not_le.mpr few))),
        count.trans (counts.trans (by omega))⟩,
        fun enough => ?_⟩
      have fit := state.trans (becomes.trans (if_pos enough))
      refine ⟨fit, count.trans (counts.trans (by omega)), fun calm x out bound => ?_⟩
      refine (run.released listens (outcome.trans fit) calm out bound).imp id fun ⟨publishes, claims⟩ => ⟨?_, claims⟩
      exact publishFirst_of_becomesFit (s := s) listens (outcome.trans fit)
        (by rw [split]; exact List.mem_append_right _ (List.mem_cons_of_mem _ publishes))
    · exact state.trans (FitnessUnit.state_of_good good same other)
  · have absent := publish_not_mem_of_apart (s := s) apart
    rw [split, List.mem_append, List.mem_cons, not_or, not_or] at absent
    exact run.keptApart absent.1 absent.2.2
  · rw [peersAfter, ages, peers_ageOnInterval, Oct.get_map, peersBefore]
    rfl
  · obtain ⟨sooner, later⟩ := ageing stands
    obtain ⟨long, short, other⟩ := backoff_spec sooner ages later x
    have apart (member : .publish ∈ endActs order s) : ¬ publishesApart order := fun apart =>
      publish_not_mem_of_apart apart member
    refine ⟨long, fun backoff little => ?_, fun away => (other away).imp id (And.imp apart id)⟩
    exact (short backoff little).imp (And.imp id fun zero apart => zero (publish_not_mem_of_apart apart))
      (And.imp apart id)

end IntervalEnd
end Sys2Proof.Machine
end

section
/-!
The acts of an interval end do not see the thermal controller's state, the requests, the line, and, but for its being
FIT, the fitness monitor.
-/
namespace Sys2Proof.Machine

/-! ### States that differ there alone -/

/-- A station with another thermal state, other requests, another fitness monitor and another line. -/
def State.swap (s : State) (h : ThermalUnit) (r : List Request) (f : FitnessUnit) (l : LineUnit) : State :=
  { s with thermal := h, requests := r, fitness := f, line := l }

/-- Two stations that differ there alone, both awake, and FIT or not alike. -/
structure State.Agrees (s t : State) : Prop where
  rest : t = s.swap t.thermal t.requests t.fitness t.line
  awake : t.thermal.shutdown = s.thermal.shutdown
  fit : t.fitness.state = .fit ↔ s.fitness.state = .fit

section Swaps
variable {s t u : State} {h : ThermalUnit} {r : List Request} {f : FitnessUnit} {l : LineUnit} {x : Port}

theorem State.Agrees.refl (s : State) : s.Agrees s := ⟨rfl, rfl, Iff.rfl⟩

theorem State.Agrees.symm (agrees : s.Agrees t) : t.Agrees s where
  rest := by
    have rest := agrees.rest
    rw [rest]
    rfl
  awake := agrees.awake.symm
  fit := agrees.fit.symm

theorem State.Agrees.trans (first : s.Agrees t) (second : t.Agrees u) : s.Agrees u where
  rest := by
    have later := second.rest
    rw [first.rest] at later
    exact later
  awake := second.awake.trans first.awake
  fit := second.fit.trans first.fit

theorem working_swap (awake : h.shutdown = s.thermal.shutdown) : (s.swap h r f l).working = s.working := by
  unfold State.working
  exact congrArg (fun b : Bool => _ && !b) awake

theorem latch_swap : latch (s.swap h r f l) = (latch s).swap h r f l := rfl

theorem computeFigures_of_due {w : Snapshot} (working : s.interval.working = some w)
    (latched : s.interval.latched = true)
    (figured : s.interval.figured = false) : computeFigures s = { s with interval := { s.interval with
      working := some (w.withFigures (s.fitness.state == .fit)), figured := true } } := by
  unfold computeFigures
  rw [working]
  exact if_pos ⟨latched, figured⟩

theorem computeFigures_of_idle (idle : s.interval.working = none ∨ s.interval.latched = false ∨
    s.interval.figured = true) :
    computeFigures s = s := by
  unfold computeFigures
  cases working : s.interval.working with
  | none => rfl
  | some w =>
    obtain none_ | unlatched | figured := idle
    · exact absurd (working.symm.trans none_) (Option.some_ne_none w)
    · exact if_neg fun due => Bool.false_ne_true (unlatched.symm.trans due.1)
    · exact if_neg fun due => Bool.false_ne_true (due.2.symm.trans figured)

theorem computeFigures_swap (fit : f.state = .fit ↔ s.fitness.state = .fit) :
    computeFigures (s.swap h r f l) = (computeFigures s).swap h r f l := by
  by_cases idle : s.interval.working = none ∨ s.interval.latched = false ∨ s.interval.figured = true
  · rw [computeFigures_of_idle idle]
    exact computeFigures_of_idle idle
  · obtain ⟨some_, latched, figured⟩ := by simpa only [not_or] using idle
    obtain ⟨w, working⟩ := Option.ne_none_iff_exists'.mp some_
    have same : (f.state == Fitness.fit) = (s.fitness.state == Fitness.fit) := by
      rw [Bool.eq_iff_iff, beq_iff_eq, beq_iff_eq]
      exact fit
    rw [computeFigures_of_due working (Bool.eq_true_of_not_eq_false latched) (Bool.eq_false_of_not_eq_true figured),
      ← same]
    exact computeFigures_of_due (s := s.swap h r f l) working (Bool.eq_true_of_not_eq_false latched)
      (Bool.eq_false_of_not_eq_true figured)

theorem ageOnInterval_swap : ageOnInterval (s.swap h r f l) = (ageOnInterval s).swap h r f l := by
  unfold ageOnInterval
  dsimp only
  split
  next gone => exact (if_pos gone).symm ▸ rfl
  next stay => exact (if_neg stay).symm ▸ rfl

/-! ### The publication -/

theorem rateUpdatePort_swap : rateUpdatePort (s.swap h r f l) x = (rateUpdatePort s x).swap h r f l := by
  unfold rateUpdatePort
  rw [show (s.swap h r f l).portConfig x = s.portConfig x from rfl]
  cases s.portConfig x <;> rfl

/-- What a publication leaves on the line is its own. -/
theorem evaluate_swap (fit : f.state = .fit ↔ s.fitness.state = .fit) :
    ∃ k, evaluate (s.swap h r f l) x = (evaluate s x).swap h r f k := by
  cases bound : s.binding x with
  | none =>
    have stays (t : State) (same : t.binding x = none) : evaluate t x = t := by
      unfold evaluate
      rw [same]
    exact ⟨l, (stays (s.swap h r f l) bound).trans (by rw [stays s bound])⟩
  | some q =>
    obtain ⟨c, m⟩ := q
    by_cases released : (s.elect x).lane = .released
    case neg => exact ⟨l, (evaluate_of_other (s := s.swap h r f l) released).trans (by rw [evaluate_of_other released])⟩
    have eligible (own : Nat) : (s.swap h r f l).eligible x own = s.eligible x own := by
      rw [Bool.eq_iff_iff, eligible_iff, eligible_iff]
      exact and_congr fit Iff.rfl
    cases able : s.eligible x (s.publishedSF c.slot) with
    | false =>
      refine ⟨l, (evaluate_of_ineligible (s := s.swap h r f l) bound released ((eligible _).trans able)).trans ?_⟩
      rw [evaluate_of_ineligible bound released able]
      rfl
    | true =>
      rw [evaluate_of_eligible bound released rfl able,
        evaluate_of_eligible (s := s.swap h r f l) bound released rfl ((eligible _).trans able)]
      by_cases claims : s.claims x c.lane m (s.publishedSF c.slot) = true
      · have claims_ : (s.swap h r f l).claims x c.lane m ((s.swap h r f l).publishedSF c.slot) = true := claims
        rw [if_pos claims, if_pos claims_]
        exact ⟨_, rfl⟩
      · have claims_ : ¬ (s.swap h r f l).claims x c.lane m ((s.swap h r f l).publishedSF c.slot) = true := claims
        rw [if_neg claims, if_neg claims_]
        exact ⟨l, rfl⟩

/-- So are runs of such steps. -/
theorem foldl_swap {op : State → Port → State} (fitness : ∀ (s : State) (x : Port), (op s x).fitness = s.fitness)
    (each : ∀ (s : State) (h : ThermalUnit) (r : List Request) (f : FitnessUnit) (l : LineUnit) (x : Port),
      (f.state = .fit ↔ s.fitness.state = .fit) → ∃ k, op (s.swap h r f l) x = (op s x).swap h r f k)
    (fit : f.state = .fit ↔ s.fitness.state = .fit) (xs : List Port) :
    ∃ k, xs.foldl op (s.swap h r f l) = (xs.foldl op s).swap h r f k := by
  induction xs generalizing s l with
  | nil => exact ⟨l, rfl⟩
  | cons x xs ih =>
    obtain ⟨k, here⟩ := each s h r f l x fit
    obtain ⟨m, rest⟩ := ih (s := op s x) (l := k) (by rw [fitness]; exact fit)
    exact ⟨m, by rw [List.foldl_cons, here, rest, List.foldl_cons]⟩

theorem fitness_evaluate (s : State) (x : Port) : (evaluate s x).fitness = s.fitness := by
  rw [(laneLocal_evaluate s x).frame.rest]

theorem fitness_rateUpdatePort (s : State) (x : Port) : (rateUpdatePort s x).fitness = s.fitness := by
  rw [(laneLocal_rateUpdatePort s x).frame.rest]

variable {w : Snapshot}

theorem published_swap (fit : f.state = .fit ↔ s.fitness.state = .fit) :
    (s.swap h r f l).published w = (s.published w).swap h r f l := by
  have filled : (s.swap h r f l).filled w = s.filled w := by
    have same : decide (f.state = .fit) = decide (s.fitness.state = .fit) := decide_eq_decide.mpr fit
    unfold State.filled
    rw [← same]
    rfl
  unfold State.published
  rw [filled]
  rfl

theorem rated_swap (fit : f.state = .fit ↔ s.fitness.state = .fit) :
    ∃ k, (s.swap h r f l).rated w = (s.rated w).swap h r f k := by
  unfold State.rated
  rw [published_swap fit]
  exact foldl_swap fitness_rateUpdatePort (fun _ _ _ _ l _ _ => ⟨l, rateUpdatePort_swap⟩) (s := s.published w) fit four

theorem announced_swap (fit : f.state = .fit ↔ s.fitness.state = .fit) :
    ∃ k, (s.swap h r f l).announced w = (s.announced w).swap h r f k := by
  obtain ⟨k, rated⟩ := rated_swap (h := h) (r := r) (l := l) (w := w) fit
  have fit_ : f.state = .fit ↔ (s.rated w).fitness.state = .fit := by rw [rest_rated]; exact fit
  obtain ⟨m, evaluated⟩ := foldl_swap fitness_evaluate (fun _ _ _ _ _ _ fit => evaluate_swap fit) (h := h) (r := r)
    (l := k)
    fit_ four
  have same : (s.swap h r f l).evaluated w = (s.evaluated w).swap h r f m := by
    unfold State.evaluated
    rw [rated, evaluated]
  unfold State.announced
  rw [same]
  exact ⟨_, rfl⟩

theorem publishLatched_of_idle (idle : s.latchAwaits ≠ true) : publishLatched s = s := if_neg idle

theorem publishLatched_swap (awake : h.shutdown = s.thermal.shutdown) (fit : f.state = .fit ↔ s.fitness.state = .fit) :
    ∃ k, publishLatched (s.swap h r f l) = (publishLatched s).swap h r f k := by
  have works := working_swap (r := r) (f := f) (l := l) awake
  have awaits : (s.swap h r f l).latchAwaits = s.latchAwaits := by
    unfold State.latchAwaits
    rw [works]
    rfl
  by_cases due : s.latchAwaits = true
  case neg =>
    rw [publishLatched_of_idle due, publishLatched_of_idle (s := s.swap h r f l) (by rw [awaits]; exact due)]
    exact ⟨l, rfl⟩
  have parts := due
  unfold State.latchAwaits at parts
  rw [Bool.and_eq_true, Bool.and_eq_true] at parts
  obtain ⟨⟨works_, latched⟩, some_⟩ := parts
  obtain ⟨w, working⟩ := Option.isSome_iff_exists.mp some_
  rw [publishLatched_of_latched works_ latched working,
    publishLatched_of_latched (s := s.swap h r f l) (works.trans works_) latched working]
  cases restarts : s.election.restarting with
  | true =>
    rw [electOnPublication_of_restarting restarts, electOnPublication_of_restarting (s := s.swap h r f l) restarts]
    exact rated_swap fit
  | false =>
    rw [electOnPublication_of_calm restarts, electOnPublication_of_calm (s := s.swap h r f l) restarts]
    exact announced_swap fit

end Swaps
end Sys2Proof.Machine
end

section
/-!
Two runs of acts that differ in the reading, in starts, and in an event of the fitness monitor that leaves fitness, end
alike but for what those acts change.
-/
namespace Sys2Proof.Machine

section Agree
variable {s t u v : State} {h : ThermalUnit} {r : List Request} {f : FitnessUnit} {l : LineUnit} {x : Port}
variable {sensor : Int} {boot : BootInputs}

theorem agrees_swap (awake : h.shutdown = s.thermal.shutdown) (fit : f.state = .fit ↔ s.fitness.state = .fit) :
    s.Agrees (s.swap h r f l) := ⟨rfl, awake, fit⟩

/-! ### Acts -/

/-- The acts that do more than change the thermal controller, the requests, the line and the fitness monitor. -/
def EndAct.isCore : EndAct → Bool
  | .publish => true
  | .send => false
  | .take .thermal => false
  | .take _ => true

theorem agrees_of_not_core {e : EndAct} (awake : s.thermal.shutdown = false) (cool : sensor < 125)
    (idle : e.isCore = false) :
    s.Agrees (e.run sensor boot s) := by
  cases e with
  | publish => cases idle
  | send =>
    show s.Agrees (trySend s)
    rw [rest_trySend]
    exact agrees_swap rfl Iff.rfl
  | take x =>
    cases x with
    | thermal =>
      obtain ⟨h, more, clears, shutdown, -, effect⟩ := takeReading_effect (s := s) (sensor := sensor) boot rfl awake
        (clampInt_below cool)
      show s.Agrees (takeReading s sensor boot)
      rw [effect s rfl rfl rfl]
      exact agrees_swap (shutdown.trans awake.symm) Iff.rfl
    | latch | figures | ageing | fitness => cases idle

theorem agrees_run {e : EndAct} (agrees : s.Agrees t) (awake : s.thermal.shutdown = false) (cool : sensor < 125)
    (other : e ≠ .take .fitness) : (e.run sensor boot s).Agrees (e.run sensor boot t) := by
  have awake_ : t.thermal.shutdown = false := agrees.awake.trans awake
  cases core : e.isCore with
  | false =>
    exact ((agrees_of_not_core awake cool core).symm.trans agrees).trans (agrees_of_not_core awake_ cool core)
  | true =>
    obtain ⟨rest, still, fit⟩ := agrees
    have moved : ∃ k, e.run sensor boot t = (e.run sensor boot s).swap t.thermal t.requests t.fitness k := by
      rw [rest]
      generalize t.thermal = h, t.requests = r, t.fitness = f, t.line = l at still fit
      have works := working_swap (s := s) (r := r) (f := f) (l := l) still
      have of_working {op : State → State} (swaps : op (s.swap h r f l) = (op s).swap h r f l) :
          ∃ k, (if (s.swap h r f l).working then op (s.swap h r f l) else s.swap h r f l) =
            (if s.working then op s else s).swap h r f k := by
        rw [works, swaps]
        refine ⟨l, ?_⟩
        split
        · rfl
        · rfl
      cases e with
      | publish => exact publishLatched_swap still fit
      | send => cases core
      | take x =>
        cases x with
        | latch => exact of_working latch_swap
        | figures => exact of_working (computeFigures_swap fit)
        | ageing => exact of_working ageOnInterval_swap
        | thermal => cases core
        | fitness => exact absurd rfl other
    obtain ⟨k, moved⟩ := moved
    have spares := sparesFitness_run (boot := boot) awake cool other
    have state : (e.run sensor boot s).fitness.state = s.fitness.state := by rw [spares.fitness]
    rw [moved]
    exact agrees_swap (still.trans spares.awake.symm) (by rw [state]; exact fit)

/-- A run agrees with the run of its core acts. -/
theorem agrees_foldl (cool : sensor < 125) : ∀ (acts : List EndAct), (∀ e ∈ acts, e ≠ .take .fitness) → ∀ s t : State,
    s.Agrees t → s.thermal.shutdown = false →
      (acts.foldl (EndAct.run sensor boot) s).Agrees ((acts.filter EndAct.isCore).foldl (EndAct.run sensor boot) t)
  | [], _, _, _, agrees, _ => agrees
  | e :: acts, others, s, t, agrees, awake => by
    obtain ⟨other, tail⟩ := List.forall_mem_cons.mp others
    have awake_ := awake_run (boot := boot) awake cool e
    cases core : e.isCore with
    | true =>
      rw [List.filter_cons_of_pos core]
      exact agrees_foldl cool acts tail _ _ (agrees_run agrees awake cool other) awake_
    | false =>
      rw [List.filter_cons_of_neg (by rw [core]; exact Bool.false_ne_true)]
      exact agrees_foldl cool acts tail _ _ ((agrees_of_not_core awake cool core).symm.trans agrees) awake_

/-! ### The event -/

/-- An event that makes the station neither FIT nor UNFIT of FIT brings the election unit nothing. -/
theorem fitnessOnInterval_of_quiet
    (becomes : ¬ (s.fitness.state = .listen ∧ (s.fitness.intervalEnd s.config).state = .fit))
    (loses : ¬ (s.fitness.state = .fit ∧ (s.fitness.intervalEnd s.config).state = .unfit)) :
    fitnessOnInterval s = { s with fitness := s.fitness.intervalEnd s.config } := by
  unfold fitnessOnInterval
  dsimp only
  split
  next listens fit => exact absurd ⟨listens, fit⟩ becomes
  next fit unfit => exact absurd ⟨fit, unfit⟩ loses
  next => rfl

/-- A station becomes FIT from LISTEN only. -/
theorem FitnessUnit.listens_of_fit {f : FitnessUnit} {c : Config} (fit : (f.intervalEnd c).state = .fit) :
    f.state = .fit ∨ f.state = .listen := by
  by_contra other
  obtain ⟨unfit, idle⟩ := not_or.mp other
  by_cases configured : f.state = .unconfigured
  · rw [intervalEnd_of_unconfigured configured, configured] at fit
    exact absurd fit (by decide)
  · rw [intervalEnd_of_configured configured] at fit
    by_cases bad : f.mergeBad ∨ f.configBad c.checkValue
    · rw [state_of_bad configured bad] at fit
      exact absurd fit (by decide)
    · obtain ⟨good, same⟩ := not_or.mp bad
      rw [state_of_good good same idle] at fit
      exact unfit fit

theorem agrees_of_quiet (becomes : ¬ (s.fitness.state = .listen ∧ (s.fitness.intervalEnd s.config).state = .fit))
    (loses : ¬ (s.fitness.state = .fit ∧ (s.fitness.intervalEnd s.config).state = .unfit)) :
      s.Agrees (fitnessOnInterval s) := by
  rw [fitnessOnInterval_of_quiet becomes loses]
  refine agrees_swap rfl ⟨fun fit => ?_, fun fit => ?_⟩
  · exact (FitnessUnit.listens_of_fit fit).resolve_right fun listens => becomes ⟨listens, fit⟩
  · exact (FitnessUnit.state_intervalEnd_of_fit fit s.config).resolve_right fun unfit => loses ⟨fit, unfit⟩

/-- The event does not see the thermal controller, the requests, nor THERMAL_SHED. -/
theorem unfitPort_swap : unfitPort (s.swap h r f s.line) x = (unfitPort s x).swap h r f (unfitPort s x).line := by
  have released (reason : ReleaseReason) : placeRelease (standDown (s.swap h r f s.line) x .disabled) x reason =
      (placeRelease (standDown s x .disabled) x reason).swap h r f
        (placeRelease (standDown s x .disabled) x reason).line := by
    unfold placeRelease placeLane
    rw [show (standDown (s.swap h r f s.line) x .disabled).portConfig x = s.portConfig x from rfl,
      show (standDown s x .disabled).portConfig x = s.portConfig x from rfl]
    cases s.portConfig x <;> rfl
  by_cases drives : (s.elect x).lane = .driving ∨ (s.elect x).lane = .holding
  · rw [unfitPort_of_drives drives, unfitPort_of_drives (s := s.swap h r f s.line) drives, released, released]
    by_cases marked : (s.elect x).mark = some .restart
    · rw [if_pos marked, if_pos (show ((s.swap h r f s.line).elect x).mark = some .restart from marked)]
      rfl
    · rw [if_neg marked, if_neg (show ¬ ((s.swap h r f s.line).elect x).mark = some .restart from marked)]
  · obtain ⟨drive, hold⟩ := not_or.mp drives
    by_cases claims : (s.elect x).lane = .claiming
    · rw [unfitPort_of_claiming claims, unfitPort_of_claiming (s := s.swap h r f s.line) claims]
      unfold withdrawClaim withdrawFrame
      rw [show (s.swap h r f s.line).line = s.line from rfl]
      cases flight : s.line.flight with
      | none => rfl
      | some g =>
        dsimp only
        by_cases own : g.slot = .lane x
        · rw [if_pos own, if_pos own]
          rfl
        · rw [if_neg own, if_neg own]
          rfl
    · rw [unfitPort_of_quiet drive hold claims, unfitPort_of_quiet (s := s.swap h r f s.line) drive hold claims]
      rfl

theorem electionUnfit_swap (s : State) (h : ThermalUnit) (r : List Request) (f : FitnessUnit) :
    electionUnfit (s.swap h r f s.line) = (electionUnfit s).swap h r f (electionUnfit s).line := by
  have each (xs : List Port) : ∀ s : State, xs.foldl unfitPort (s.swap h r f s.line) =
      (xs.foldl unfitPort s).swap h r f (xs.foldl unfitPort s).line := by
    induction xs with
    | nil => exact fun _ => rfl
    | cons x xs ih => exact fun s => by rw [List.foldl_cons, unfitPort_swap, ih, List.foldl_cons]
  exact each four s

theorem electionFit_swap (s : State) (h : ThermalUnit) (r : List Request) (f : FitnessUnit) :
    electionFit (s.swap h r f s.line) = (electionFit s).swap h r f (electionFit s).line := by
  cases restarts : s.election.restarting with
  | true =>
    have stays (t : State) (same : t.election.restarting = true) : electionFit t = t := if_pos same
    rw [stays s restarts]
    exact stays (s.swap h r f s.line) restarts
  | false =>
    have moves (t : State) (same : t.election.restarting = false) : electionFit t = { t with
        election := { t.election with ports := t.election.ports.map fun x e =>
          if (t.portConfig x).isSome ∧ e.lane = .disabled then e.moveTo .released else e } } :=
      if_neg (by rw [same]; exact Bool.false_ne_true)
    rw [moves s restarts]
    exact moves (s.swap h r f s.line) restarts

theorem fitnessOnInterval_swap (s : State) (h : ThermalUnit) (r : List Request) (b : Bool) :
    fitnessOnInterval (s.swap h r { s.fitness with faults := { s.fitness.faults with thermalShed := b } } s.line) =
      (fitnessOnInterval s).swap h r
        { s.fitness.intervalEnd s.config with
          faults := { (s.fitness.intervalEnd s.config).faults with thermalShed := b } } (fitnessOnInterval s).line := by
  obtain ⟨w, is⟩ : ∃ w, w = s.swap h r { s.fitness with faults := { s.fitness.faults with thermalShed := b } }
    s.line := ⟨_, rfl⟩
  have fitness : w.fitness.intervalEnd w.config = { s.fitness.intervalEnd s.config with
      faults := { (s.fitness.intervalEnd s.config).faults with thermalShed := b } } := by
    rw [is]
    exact FitnessUnit.intervalEnd_shed s.fitness s.config b
  have state : w.fitness.state = s.fitness.state := by rw [is]; rfl
  have next : (w.fitness.intervalEnd w.config).state = (s.fitness.intervalEnd s.config).state := by rw [fitness]
  rw [← is]
  by_cases becomes : s.fitness.state = .listen ∧ (s.fitness.intervalEnd s.config).state = .fit
  · rw [fitnessOnInterval_of_fit becomes.1 becomes.2, fitnessOnInterval_of_fit (state.trans becomes.1)
      (next.trans becomes.2),
      fitness, is]
    exact electionFit_swap { s with fitness := s.fitness.intervalEnd s.config } h r _
  by_cases loses : s.fitness.state = .fit ∧ (s.fitness.intervalEnd s.config).state = .unfit
  · rw [fitnessOnInterval_of_unfit loses.1 loses.2, fitnessOnInterval_of_unfit (state.trans loses.1)
      (next.trans loses.2),
      fitness, is, electionUnfit_swap]
    rfl
  · rw [fitnessOnInterval_of_quiet becomes loses,
      fitnessOnInterval_of_quiet (by rw [state, next]; exact becomes) (by rw [state, next]; exact loses), fitness, is]
    rfl

end Agree
end Sys2Proof.Machine
end

section
/-!
What the acts but the reading leave of all that it sees and changes; the reading's outcome in every order (R161).
-/
namespace Sys2Proof.Machine

/-- What a reading sees and changes stands. -/
structure State.SparesReading (s u : State) : Prop where
  thermal : u.thermal = s.thermal
  requests : u.requests = s.requests
  shed : u.fitness.faults.thermalShed = s.fitness.faults.thermalShed
  config : u.config = s.config
  park : u.pathToPark = s.pathToPark

section Spares
variable {s t u p : State} {sensor : Int} {boot : BootInputs} {order : EndOrder}

theorem State.SparesReading.refl (s : State) : s.SparesReading s := ⟨rfl, rfl, rfl, rfl, rfl⟩

theorem State.SparesReading.trans (first : s.SparesReading t) (second : t.SparesReading u) : s.SparesReading u :=
  ⟨second.thermal.trans first.thermal, second.requests.trans first.requests, second.shed.trans first.shed,
    second.config.trans first.config, second.park.trans first.park⟩

theorem State.SparesThermal.reading (spares : s.SparesThermal u) : s.SparesReading u :=
  ⟨spares.thermal, spares.requests, spares.shed, spares.config, spares.pathToPark⟩

theorem pathToPark_congr (config : u.config = s.config) (services : u.services = s.services) :
    u.pathToPark = s.pathToPark := by
  have service (k : SlotNo) : u.service k = s.service k := congrArg (fun v => v.get k) services
  have slots (k : SlotNo) : u.slotConfig k = s.slotConfig k := congrArg (fun c => c.services.get k) config
  have richest : u.richestService = s.richestService :=
    congrArg (four.foldl · none) (funext₂ fun _ _ => if_congr (by simp only [slots, service]) rfl rfl)
  simp only [State.pathToPark, slots, richest, service]

theorem sparesReading_publishLatched (s : State) : s.SparesReading (publishLatched s) := by
  have of_rest {v : State} (thermal : v.thermal = s.thermal) (requests : v.requests = s.requests)
    (fitness : v.fitness = s.fitness)
      (config : v.config = s.config) (services : v.services = s.services) : s.SparesReading v :=
    ⟨thermal, requests, by rw [fitness], config, pathToPark_congr config services⟩
  obtain same | ⟨w, -, -, -, same⟩ := publishLatched_cases s
  · rw [same]
    exact .refl s
  rw [same]
  cases restarts : s.election.restarting with
  | true =>
    have rest := rest_rated s w
    rw [electOnPublication_of_restarting restarts]
    exact of_rest (by rw [rest]; rfl) (by rw [rest]; rfl) (by rw [rest]; rfl) (by rw [rest]; rfl) (by rw [rest]; rfl)
  | false =>
    have rest := rest_announced s w
    rw [electOnPublication_of_calm restarts]
    exact of_rest (by rw [rest]; rfl) (by rw [rest]; rfl) (by rw [rest]; rfl) (by rw [rest]; rfl) (by rw [rest]; rfl)

theorem sparesReading_run {e : EndAct} (other : e ≠ .take .thermal) : s.SparesReading (e.run sensor boot s) := by
  cases e with
  | publish => exact sparesReading_publishLatched s
  | send => exact (sparesThermal_trySend s).reading
  | take x => exact (sparesThermal_takeEnd sensor boot s fun same => other (by rw [same])).reading

theorem sparesReading_foldl : ∀ (acts : List EndAct), (∀ e ∈ acts, e ≠ .take .thermal) → ∀ s : State,
    s.SparesReading (acts.foldl (EndAct.run sensor boot) s)
  | [], _, s => .refl s
  | e :: acts, others, s => by
    obtain ⟨other, tail⟩ := List.forall_mem_cons.mp others
    exact (sparesReading_run other).trans (sparesReading_foldl acts tail _)

/-- R161 to R168: what the reading brings does not hang on the order. -/
theorem reading_spec (boot : BootInputs) (opens : s.intervalOpen) (cool : sensor < 125) :
    ∃ h more clears, h.reading = clampInt sensor (-40) 150 ∧ ∀ order t,
      exec (.intervalEnd order sensor boot) s = .next t →
      t.thermal = h ∧ t.requests = s.requests ++ more ∧
        t.fitness.faults.thermalShed = (s.fitness.faults.thermalShed && !clears) := by
  obtain ⟨-, awake, ticks, unlatched⟩ := opens
  obtain ⟨h, more, clears, -, reading, effect⟩ := takeReading_effect (s := s) (sensor := sensor) boot rfl awake
    (clampInt_below cool)
  refine ⟨h, more, clears, reading, fun order t answers => ?_⟩
  obtain ⟨a, b, split, before, after, -, -⟩ := exists_endActs_split order s (x := .thermal) (by decide)
  rw [exec_intervalEnd_eq ticks unlatched, split, List.foldl_append, List.foldl_cons] at answers
  have first := sparesReading_foldl (sensor := sensor) (boot := boot) a before s
  generalize a.foldl (EndAct.run sensor boot) s = u at first answers
  have ran : (EndAct.take .thermal).run sensor boot u = u.afterReading h more clears :=
    effect u first.thermal first.config first.park
  rw [ran] at answers
  have last := (sparesReading_foldl (sensor := sensor) (boot := boot) b after (u.afterReading h more clears)).trans
    (sparesThermal_trySend _).reading
  rw [Host.Outcome.next.inj answers] at last
  refine ⟨last.thermal, last.requests.trans (congrArg (· ++ more) first.requests), last.shed.trans ?_⟩
  exact congrArg (· && !clears) first.shed

end Spares

/-! ### An interval end with the publication in it -/

section Publishing
variable {s t u p v : State} {sensor : Int} {boot : BootInputs} {order : EndOrder} {x : Taker}

/-- What comes behind the publication. -/
def actsAfter (order : EndOrder) (s : State) : List EndAct :=
  (if order.startsBetween then [.send] else []) ++ (takersBehind order s).map .take ++ [.send]

/-- The takers before the publication, the publication, and what comes behind it. -/
structure PublishingRun (order : EndOrder) (sensor : Int) (boot : BootInputs) (s u p t : State) : Prop where
  cool : sensor < 125
  works : s.working = true
  sooner : u = ((takersBefore order s).map .take).foldl (EndAct.run sensor boot) s
  published : p = publishLatched u
  later : t = (actsAfter order s).foldl (EndAct.run sensor boot) p

theorem exists_publishingRun (boot : BootInputs) (opens : s.intervalOpen) (cool : sensor < 125)
    (behind : takersBehind order s ≠ []) :
    ∃ u p t, PublishingRun order sensor boot s u p t ∧ exec (.intervalEnd order sensor boot) s = .next t := by
  obtain ⟨runs, awake, ticks, unlatched⟩ := opens
  refine ⟨_, _, _, ⟨cool, State.working_iff.mpr ⟨runs, awake⟩, rfl, rfl, rfl⟩, ?_⟩
  rw [exec_intervalEnd_eq ticks unlatched, endActs, actsBehind, if_neg behind, actsAfter, List.foldl_append,
    List.foldl_cons,
    List.foldl_append, List.foldl_append, List.foldl_append]
  rfl

theorem behind_cases (behind : behindPublication order s x = true) :
    (x = .thermal ∧ order.publishFirst = true) ∨
      (x = .fitness ∧ order.publishBeforeFitness = true ∧ s.becomesFit = false) := by
  cases x with
  | thermal => exact .inl ⟨rfl, behind⟩
  | fitness =>
    have both : (order.publishBeforeFitness && !s.becomesFit) = true := behind
    rw [Bool.and_eq_true, Bool.not_eq_true'] at both
    exact .inr ⟨rfl, both⟩
  | latch | figures | ageing => cases behind

theorem becomesFit_iff : s.becomesFit = true ↔ s.fitness.state = .listen ∧
    (s.fitness.intervalEnd s.config).state = .fit := by
  unfold State.becomesFit
  rw [Bool.and_eq_true, beq_iff_eq, beq_iff_eq, fitness_fitnessOnInterval]

theorem takersBehind_ne_nil (within : ¬ publishesApart order)
    (stays : order.publishBeforeFitness = true → s.becomesFit = false) : takersBehind order s ≠ [] := by
  cases first : order.publishFirst with
  | true =>
    exact List.ne_nil_of_mem (mem_takersBehind.mpr ⟨mem_takersInOrder order.takers (x := .thermal) (by decide), first⟩)
  | false =>
    have later : order.publishBeforeFitness = true := by
      by_contra no
      exact within ⟨first, Bool.eq_false_of_not_eq_true no⟩
    refine List.ne_nil_of_mem (mem_takersBehind.mpr ⟨mem_takersInOrder order.takers (x := .fitness) (by decide), ?_⟩)
    rw [behindPublication, later, stays later]
    rfl

theorem mem_actsAfter {e : EndAct} (member : e ∈ actsAfter order s) :
    (e = .send) ∨ (e = .take .thermal ∧ order.publishFirst = true) ∨
      (e = .take .fitness ∧ order.publishBeforeFitness = true ∧ s.becomesFit = false) := by
  unfold actsAfter at member
  rw [List.mem_append, List.mem_append] at member
  obtain (between | taken) | last := member
  · split at between
    · exact .inl (List.mem_singleton.mp between)
    · exact absurd between List.not_mem_nil
  · obtain ⟨x, there, rfl⟩ := List.mem_map.mp taken
    exact .inr ((behind_cases (mem_takersBehind.mp there).2).imp (fun ⟨same, first⟩ => ⟨by rw [same], first⟩)
      fun ⟨same, later⟩ => ⟨by rw [same], later⟩)
  · exact .inl (List.mem_singleton.mp last)

theorem mem_before {e : EndAct} (member : e ∈ (takersBefore order s).map EndAct.take) :
    ∃ x, e = .take x ∧ behindPublication order s x = false := by
  obtain ⟨x, there, rfl⟩ := List.mem_map.mp member
  exact ⟨x, rfl, (mem_takersBefore.mp there).2⟩

end Publishing
end Sys2Proof.Machine
end

section
/-!
An interval end with its publication within, and one with its publication behind it: the same station, but for the line.
-/
namespace Sys2Proof.Machine

section Compare
variable {s t u v : State} {sensor : Int} {boot : BootInputs} {order : EndOrder} {a b c d acts : List EndAct}

/-- The core acts but the fitness monitor's event. -/
def EndAct.isPlain (e : EndAct) : Bool :=
  match e with
  | .take .fitness => false
  | e => e.isCore

theorem filter_isPlain (others : ∀ e ∈ acts, e ≠ .take .fitness) :
    acts.filter EndAct.isPlain = acts.filter EndAct.isCore := by
  refine List.filter_congr fun e member => ?_
  cases e with
  | publish | send => rfl
  | take x =>
    cases x with
    | fitness => exact absurd rfl (others _ member)
    | latch | figures | ageing | thermal => rfl

/-! ### An event that changes no lane -/

/-- A run agrees with the run of its plain acts where the event leaves fitness to the election unit. -/
theorem agrees_plain (cool : sensor < 125) (works : s.working = true) (once : FitnessOnce acts)
    (becomes : ¬ (s.fitness.state = .listen ∧ (s.fitness.intervalEnd s.config).state = .fit))
    (loses : ¬ (s.fitness.state = .fit ∧ (s.fitness.intervalEnd s.config).state = .unfit)) :
    (acts.foldl (EndAct.run sensor boot) s).Agrees ((acts.filter EndAct.isPlain).foldl (EndAct.run sensor boot) s) := by
  obtain ⟨a, b, rfl, before, after⟩ := once
  have awake := (State.working_iff.mp works).2
  have run : EventRun sensor boot s (a.foldl (EndAct.run sensor boot) s) _ _ a b := ⟨cool, works, before, after, rfl,
    rfl, rfl⟩
  obtain ⟨same, next⟩ := run.outcome
  have worksU := works_foldl (boot := boot) cool a s works
  have first := agrees_foldl (boot := boot) cool a before s s (.refl s) awake
  rw [List.filter_append, List.filter_cons_of_neg (by exact Bool.false_ne_true), filter_isPlain before,
    filter_isPlain after,
    List.foldl_append, List.foldl_append, List.foldl_cons]
  generalize a.foldl (EndAct.run sensor boot) s = u at *
  have event : (EndAct.take .fitness).run sensor boot u = fitnessOnInterval u := if_pos worksU
  rw [event]
  have quiet : u.Agrees (fitnessOnInterval u) :=
    agrees_of_quiet (by rw [same, next]; exact becomes) (by rw [same, next]; exact loses)
  exact agrees_foldl cool b after _ _ (quiet.symm.trans first) run.awakeBehind

/-! ### An event before the publication -/

theorem line_run_take {x : Taker} (awake : s.thermal.shutdown = false) (cool : sensor < 125) (other : x ≠ .fitness) :
    ((EndAct.take x).run sensor boot s).line = s.line := by
  have of_working {t : State} (line : t.line = s.line) : (if s.working then t else s).line = s.line := by
    split
    · exact line
    · rfl
  cases x with
  | latch => exact of_working rfl
  | figures => exact of_working (by obtain ⟨i, only⟩ := computeFigures_only s; rw [only])
  | ageing => exact of_working (by rw [(rest_ageOnInterval s).1])
  | fitness => exact absurd rfl other
  | thermal =>
    obtain ⟨h, more, clears, -, -, effect⟩ := takeReading_effect (s := s) (sensor := sensor) boot rfl awake
      (clampInt_below cool)
    show (takeReading s sensor boot).line = s.line
    rw [effect s rfl rfl rfl]
    rfl

theorem line_foldl_takes (cool : sensor < 125) : ∀ (acts : List EndAct), (∀ e ∈ acts, ∃ x, e = .take x ∧ x ≠ .fitness) →
    ∀ s : State, s.thermal.shutdown = false → (acts.foldl (EndAct.run sensor boot) s).line = s.line
  | [], _, _, _ => rfl
  | e :: acts, takes, s, awake => by
    obtain ⟨⟨x, rfl, other⟩, tail⟩ := List.forall_mem_cons.mp takes
    exact (line_foldl_takes cool acts tail _ (awake_run awake cool _)).trans (line_run_take awake cool other)

/-- Two runs with the same core acts before the event, which takers alone precede, and behind it. -/
theorem agrees_event (cool : sensor < 125) (works : s.working = true) (takesA : ∀ e ∈ a, ∃ x, e = .take x ∧
    x ≠ .fitness)
    (takesC : ∀ e ∈ c, ∃ x, e = .take x ∧ x ≠ .fitness) (afterB : ∀ e ∈ b, e ≠ .take .fitness)
    (afterD : ∀ e ∈ d, e ≠ .take .fitness) (sooner : a.filter EndAct.isCore = c.filter EndAct.isCore)
    (later : b.filter EndAct.isCore = d.filter EndAct.isCore) :
    ((a ++ .take .fitness :: b).foldl (EndAct.run sensor boot) s).Agrees
      ((c ++ .take .fitness :: d).foldl (EndAct.run sensor boot) s) := by
  have awake := (State.working_iff.mp works).2
  have others {l : List EndAct} (takes : ∀ e ∈ l, ∃ x, e = .take x ∧ x ≠ .fitness) : ∀ e ∈ l, e ≠ .take .fitness := by
    rintro e member rfl
    obtain ⟨x, same, other⟩ := takes _ member
    cases same
    exact other rfl
  have lineA := line_foldl_takes (boot := boot) cool a takesA s awake
  have lineC := line_foldl_takes (boot := boot) cool c takesC s awake
  have worksU := works_foldl (boot := boot) cool a s works
  have worksW := works_foldl (boot := boot) cool c s works
  have fitnessA := (sparesFitness_foldl (boot := boot) cool a (others takesA) s awake).fitness
  have fitnessC := (sparesFitness_foldl (boot := boot) cool c (others takesC) s awake).fitness
  have agreesA := agrees_foldl (boot := boot) cool a (others takesA) s s (.refl s) awake
  have agreesC := agrees_foldl (boot := boot) cool c (others takesC) s s (.refl s) awake
  rw [sooner] at agreesA
  have agrees := agreesA.trans agreesC.symm
  rw [List.foldl_append, List.foldl_append, List.foldl_cons, List.foldl_cons]
  generalize a.foldl (EndAct.run sensor boot) s = u at *
  generalize c.foldl (EndAct.run sensor boot) s = w at *
  have eventU : (EndAct.take .fitness).run sensor boot u = fitnessOnInterval u := if_pos worksU
  have eventW : (EndAct.take .fitness).run sensor boot w = fitnessOnInterval w := if_pos worksW
  rw [eventU, eventW]
  have shape : w = u.swap w.thermal w.requests
      { u.fitness with faults := { u.fitness.faults with thermalShed := w.fitness.faults.thermalShed } } u.line := by
    have rest := agrees.rest
    rw [lineC.trans lineA.symm] at rest
    rw [fitnessA]
    rw [fitnessC] at rest
    exact rest
  have moved : (fitnessOnInterval u).Agrees (fitnessOnInterval w) := by
    have swapped := fitnessOnInterval_swap u w.thermal w.requests w.fitness.faults.thermalShed
    rw [← shape] at swapped
    have thermal : (fitnessOnInterval u).thermal = u.thermal := by rw [(frame_fitnessOnInterval u).rest]
    rw [swapped]
    exact agrees_swap (by rw [thermal]; exact agrees.awake) (by rw [fitness_fitnessOnInterval])
  have awakeV : (fitnessOnInterval u).thermal.shutdown = false := by
    rw [(frame_fitnessOnInterval u).rest]
    exact (State.working_iff.mp worksU).2
  have awakeW : (fitnessOnInterval w).thermal.shutdown = false := moved.awake.trans awakeV
  have last := agrees_foldl (boot := boot) cool b afterB _ _ moved awakeV
  have rest := agrees_foldl (boot := boot) cool d afterD _ _ (.refl (fitnessOnInterval w)) awakeW
  rw [later] at last
  exact last.trans rest.symm

end Compare
end Sys2Proof.Machine
end

section
/-!
O31: an interval end with its publication within is, but for the line, the two events in turn.
-/
namespace Sys2Proof.Machine

section Compare
variable {s t u v ended published : State} {sensor : Int} {boot : BootInputs} {order : EndOrder} {keep : EndAct → Bool}

/-- The order with its publication in a command of its own. -/
def inTurn (order : EndOrder) : EndOrder := { order with publishFirst := false, publishBeforeFitness := false }

theorem behind_apart (order : EndOrder) (s : State) : takersBehind (inTurn order) s = [] :=
  behind_of_publishesApart ⟨rfl, rfl⟩

theorem endActs_apart (order : EndOrder) (s : State) : endActs (inTurn order) s = (takersInOrder order.takers).map
    EndAct.take := by
  have before : takersBefore (inTurn order) s = takersInOrder order.takers := by
    refine List.filter_eq_self.mpr fun x _ => ?_
    cases x <;> rfl
  rw [endActs, actsBehind, if_pos (behind_apart order s), before, List.append_nil]

/-- What is not kept of the takers behind the publication may be left out before it. -/
theorem filter_before (drops : ∀ x, behindPublication order s x = true → keep (.take x) = false) (xs : List Taker) :
    (((xs.filter fun x => !behindPublication order s x)).map EndAct.take).filter keep = (xs.map EndAct.take).filter
      keep := by
  rw [List.filter_map, List.filter_map, List.filter_filter]
  refine congrArg (List.map EndAct.take) (List.filter_congr fun x _ => ?_)
  cases behind : behindPublication order s x with
  | true => rw [Function.comp_apply, drops x behind]; rfl
  | false => exact Bool.and_true _

theorem filter_behind (drops : ∀ x, behindPublication order s x = true → keep (.take x) = false)
    (publishes : keep .publish = true) (idle : keep .send = false) (behind : takersBehind order s ≠ []) :
    (actsBehind order s ++ [EndAct.send]).filter keep = [.publish] := by
  have between : (if order.startsBetween then [EndAct.send] else []).filter keep = [] := by
    rw [List.filter_eq_nil_iff]
    intro e member
    split at member
    · rw [List.mem_singleton.mp member, idle]
      exact Bool.false_ne_true
    · exact absurd member List.not_mem_nil
  have taken : ((takersBehind order s).map EndAct.take).filter keep = [] := by
    rw [List.filter_eq_nil_iff]
    intro e member
    obtain ⟨x, there, rfl⟩ := List.mem_map.mp member
    rw [drops x (mem_takersBehind.mp there).2]
    exact Bool.false_ne_true
  have last : [EndAct.send].filter keep = [] := List.filter_cons_of_neg (by rw [idle]; exact Bool.false_ne_true)
  rw [actsBehind, if_neg behind, List.filter_append, List.filter_cons_of_pos publishes, List.filter_append, between,
    taken, last]
  rfl

theorem filter_inTurn (publishes : keep .publish = true) (idle : keep .send = false) :
    [EndAct.send, .publish].filter keep = [.publish] := by
  rw [List.filter_cons_of_neg (by rw [idle]; exact Bool.false_ne_true), List.filter_cons_of_pos publishes]
  rfl

theorem exec_inTurn (opens : s.intervalOpen) (ends : exec (.intervalEnd (inTurn order) sensor boot) s = .next ended) :
    publishLatched ended =
      ((takersInOrder order.takers).map EndAct.take ++ [EndAct.send, .publish]).foldl (EndAct.run sensor boot) s := by
  obtain ⟨-, -, ticks, unlatched⟩ := opens
  rw [exec_intervalEnd_eq ticks unlatched, endActs_apart] at ends
  rw [List.foldl_append, ← Host.Outcome.next.inj ends]
  rfl

theorem exec_within (opens : s.intervalOpen) (answers : exec (.intervalEnd order sensor boot) s = .next t) :
    t = (endActs order s ++ [EndAct.send]).foldl (EndAct.run sensor boot) s := by
  obtain ⟨-, -, ticks, unlatched⟩ := opens
  rw [exec_intervalEnd_eq ticks unlatched] at answers
  rw [List.foldl_append, ← Host.Outcome.next.inj answers]
  rfl

/-- The event behind the publication, where it is quiet. -/
theorem agrees_of_later (opens : s.intervalOpen) (cool : sensor < 125) (behind : takersBehind order s ≠ [])
    (becomes : ¬ (s.fitness.state = .listen ∧ (s.fitness.intervalEnd s.config).state = .fit))
    (loses : ¬ (s.fitness.state = .fit ∧ (s.fitness.intervalEnd s.config).state = .unfit))
    (answers : exec (.intervalEnd order sensor boot) s = .next t)
    (ends : exec (.intervalEnd (inTurn order) sensor boot) s = .next ended) : (publishLatched ended).Agrees t := by
  have works : s.working = true := State.working_iff.mpr ⟨opens.1, opens.2.1⟩
  have onceT : FitnessOnce (endActs order s ++ [EndAct.send]) := by
    obtain ⟨a, b, split, before, after, -, -⟩ := exists_endActs_split order s (x := .fitness) (by decide)
    refine ⟨a, b ++ [EndAct.send], by rw [split, List.append_assoc, List.cons_append], before, fun e member => ?_⟩
    exact (List.mem_append.mp member).elim (after e) fun one => by rw [List.mem_singleton.mp one]; exact nofun
  have onceP : FitnessOnce ((takersInOrder order.takers).map EndAct.take ++ [EndAct.send, .publish]) := by
    obtain ⟨a, b, split, before, after, -, -⟩ := exists_endActs_split (inTurn order) s (x := .fitness) (by decide)
    rw [endActs_apart] at split
    refine ⟨a, b ++ [EndAct.send, .publish], by rw [split, List.append_assoc, List.cons_append],
      before, fun e member => ?_⟩
    refine (List.mem_append.mp member).elim (after e) fun two => ?_
    obtain rfl | one := List.mem_cons.mp two
    · exact nofun
    · rw [List.mem_singleton.mp one]; exact nofun
  have drops (x : Taker) (behind : behindPublication order s x = true) : (EndAct.take x).isPlain = false := by
    obtain ⟨rfl, -⟩ | ⟨rfl, -⟩ := behind_cases behind
    · rfl
    · rfl
  have same : (endActs order s ++ [EndAct.send]).filter EndAct.isPlain =
      ((takersInOrder order.takers).map EndAct.take ++ [EndAct.send, .publish]).filter EndAct.isPlain := by
    rw [endActs, List.append_assoc, List.filter_append, filter_behind drops rfl rfl behind, List.filter_append,
      filter_inTurn rfl rfl, takersBefore, filter_before drops]
  have first := agrees_plain (boot := boot) cool works onceT becomes loses
  have second := agrees_plain (boot := boot) cool works onceP becomes loses
  rw [exec_within opens answers, exec_inTurn opens ends]
  rw [same] at first
  exact second.trans first.symm

/-- The event before the publication, the reading behind it. -/
theorem agrees_of_sooner (opens : s.intervalOpen) (cool : sensor < 125) (first : order.publishFirst = true)
    (sooner : order.publishBeforeFitness = false)
    (answers : exec (.intervalEnd order sensor boot) s = .next t)
    (ends : exec (.intervalEnd (inTurn order) sensor boot) s = .next ended) : (publishLatched ended).Agrees t := by
  have works : s.working = true := State.working_iff.mpr ⟨opens.1, opens.2.1⟩
  have behind : takersBehind order s ≠ [] :=
    List.ne_nil_of_mem (mem_takersBehind.mpr ⟨mem_takersInOrder order.takers (x := .thermal) (by decide), first⟩)
  have is (x : Taker) (behind : behindPublication order s x = true) : x = .thermal := by
    obtain ⟨rfl, -⟩ | ⟨-, later, -⟩ := behind_cases behind
    · rfl
    · exact absurd (sooner.symm.trans later) Bool.false_ne_true
  have stays : behindPublication order s .fitness = false := by rw [behindPublication, sooner, Bool.false_and]
  have drops (x : Taker) (behind : behindPublication order s x = true) : (EndAct.take x).isCore = false := by
    rw [is x behind]
    rfl
  obtain ⟨c, d, placed, before, after⟩ := exists_takersInOrder_split (x := .fitness) order.takers (by decide)
  have takes {xs : List Taker} (others : ∀ y ∈ xs, y ≠ .fitness) : ∀ e ∈ xs.map EndAct.take, ∃ x, e = .take x ∧
    x ≠ .fitness := by
    intro e member
    obtain ⟨x, there, same⟩ := List.mem_map.mp member
    exact ⟨x, same.symm, others x there⟩
  have spares {xs : List Taker} (others : ∀ y ∈ xs, y ≠ .fitness) : ∀ e ∈ xs.map EndAct.take, e ≠ .take .fitness := by
    rintro e member rfl
    obtain ⟨x, same, other⟩ := takes others _ member
    cases same
    exact other rfl
  have kept (xs : List Taker) (others : ∀ y ∈ xs, y ≠ .fitness) :
      ∀ y ∈ xs.filter fun x => !behindPublication order s x, y ≠ .fitness :=
    fun y member => others y (List.mem_filter.mp member).1
  have shapeT : endActs order s ++ [EndAct.send] = (c.filter fun x => !behindPublication order s x).map EndAct.take ++
      .take .fitness :: ((d.filter fun x => !behindPublication order s x).map EndAct.take
        ++ (actsBehind order s ++ [EndAct.send])) := by
    rw [endActs, takersBefore, placed, List.filter_append, List.filter_cons_of_pos (by rw [stays]; rfl),
      List.map_append,
      List.map_cons, List.append_assoc, List.append_assoc, List.cons_append]
  have shapeP : (takersInOrder order.takers).map EndAct.take ++ [EndAct.send, .publish] = c.map EndAct.take ++
      .take .fitness :: (d.map EndAct.take ++ [EndAct.send, .publish]) := by
    rw [placed, List.map_append, List.map_cons, List.append_assoc, List.cons_append]
  rw [exec_within opens answers, exec_inTurn opens ends, shapeT, shapeP]
  refine agrees_event cool works (takes before) (takes (kept c before)) ?_ ?_ (filter_before drops c).symm ?_
  · intro e member
    obtain taken | two := List.mem_append.mp member
    · exact spares after e taken
    · obtain rfl | one := List.mem_cons.mp two
      · exact nofun
      · rw [List.mem_singleton.mp one]; exact nofun
  · intro e member
    obtain taken | rest := List.mem_append.mp member
    · exact spares (kept d after) e taken
    rw [actsBehind, if_neg behind] at rest
    rintro rfl
    obtain inner | last := List.mem_append.mp rest
    · obtain no | inner := List.mem_cons.mp inner
      · cases no
      obtain between | taken := List.mem_append.mp inner
      · split at between
        · exact absurd (List.mem_singleton.mp between) nofun
        · exact absurd between List.not_mem_nil
      · have back := (mem_takersBehind.mp (take_mem_map.mp taken)).2
        exact Bool.false_ne_true (stays.symm.trans back)
    · exact absurd (List.mem_singleton.mp last) nofun
  · rw [List.filter_append, List.filter_append, filter_behind drops rfl rfl behind, filter_inTurn rfl rfl,
      filter_before drops]

/-- What a publication of its own leaves: the line apart, the act. -/
theorem execPublication_eq (publishes : exec .publication ended = .next published) :
    published = { publishLatched ended with line := published.line } := by
  by_cases awaits : ended.latchAwaits = true
  · have answer : exec .publication ended = .next (trySend (publishLatched ended)) := if_pos awaits
    rw [answer] at publishes
    rw [← Host.Outcome.next.inj publishes]
    exact rest_trySend _
  · have answer : exec .publication ended = .next ended := if_neg awaits
    rw [answer] at publishes
    rw [← Host.Outcome.next.inj publishes, publishLatched_of_idle awaits]

/-- With the reading and the event in turn, an interval end that agrees is the same but for the line. -/
theorem eq_published (opens : s.intervalOpen) (cool : sensor < 125)
    (answers : exec (.intervalEnd order sensor boot) s = .next t)
    (ends : exec (.intervalEnd (inTurn order) sensor boot) s = .next ended)
    (publishes : exec .publication ended = .next published) (agrees : (publishLatched ended).Agrees t) :
    t = { published with line := t.line } ∧ t.fitness = ended.fitness := by
  obtain ⟨h, more, clears, -, reads⟩ := reading_spec boot opens cool
  obtain ⟨thermalT, requestsT, shedT⟩ := reads order t answers
  obtain ⟨thermalE, requestsE, shedE⟩ := reads (inTurn order) ended ends
  obtain ⟨a, b, u, v, t', run, answers', -⟩ := exists_eventRun order boot opens cool
  obtain rfl := Host.Outcome.next.inj (answers'.symm.trans answers)
  obtain ⟨a', b', u', v', ended', run', ends', -⟩ := exists_eventRun (inTurn order) boot opens cool
  obtain rfl := Host.Outcome.next.inj (ends'.symm.trans ends)
  have spares := sparesReading_publishLatched ended'
  have fitness : t'.fitness = ended'.fitness := by rw [run.fitness, run'.fitness, shedT, shedE]
  have fitnessP : (publishLatched ended').fitness = ended'.fitness := by
    rw [(sparesFitness_publishLatched ended').fitness, spares.shed]
  refine ⟨?_, fitness⟩
  have rest := agrees.rest
  rw [execPublication_eq publishes]
  have thermal : t'.thermal = (publishLatched ended').thermal := thermalT.trans
    (thermalE.symm.trans spares.thermal.symm)
  have requests : t'.requests = (publishLatched ended').requests := requestsT.trans
    (requestsE.symm.trans spares.requests.symm)
  have fit : t'.fitness = (publishLatched ended').fitness := fitness.trans fitnessP.symm
  rw [thermal, requests, fit] at rest
  exact rest

end Compare
end Sys2Proof.Machine
end

section
/-!
O31: the ANNOUNCE of a publication within an interval end, through what comes behind it.
-/
namespace Sys2Proof.Machine

/-! ### What is published, and when -/

section Published
variable {s t u p : State} {sensor : Int} {boot : BootInputs} {order : EndOrder} {w : Snapshot}

theorem interval_publishLatched (works : s.working = true) (latched : s.interval.latched = true)
    (working : s.interval.working = some w) : (publishLatched s).interval = (s.published w).interval := by
  rw [publishLatched_of_latched works latched working]
  cases restarts : s.election.restarting with
  | true =>
    rw [electOnPublication_of_restarting restarts, rest_rated]
  | false =>
    rw [electOnPublication_of_calm restarts, rest_announced]

/-- The latch comes before every publication. -/
theorem latched_before (works : s.working = true) (cool : sensor < 125) : ∃ w,
    (((takersBefore order s).map .take).foldl (EndAct.run sensor boot) s).interval.latched = true ∧
      (((takersBefore order s).map .take).foldl (EndAct.run sensor boot) s).interval.working = some w := by
  have member : Taker.latch ∈ takersBefore order s := mem_takersBefore.mpr ⟨mem_takersInOrder order.takers (by decide),
    rfl⟩
  obtain ⟨a, b, placed⟩ := List.append_of_mem member
  have once : (takersBefore order s).Nodup := (nodup_takersInOrder order.takers).filter _
  rw [placed, List.nodup_middle, List.nodup_cons, List.mem_append, not_or] at once
  obtain ⟨⟨-, later⟩, -⟩ := once
  have worksU := works_foldl (boot := boot) cool (a.map .take) s works
  rw [foldl_take] at worksU
  rw [foldl_take, placed, List.foldl_append, List.foldl_cons]
  generalize a.foldl (takeEnd sensor boot) s = u at *
  have latches : takeEnd sensor boot u .latch = latch u := if_pos worksU
  rw [latches]
  have spares := sparesLatch_foldl_takeEnd (boot := boot) cool b (fun y there => ne_of_mem_of_not_mem there later)
    (latch u)
    (State.working_iff.mp worksU).2
  obtain ⟨w, working, -⟩ := Option.map_eq_some_iff.mp (spares.working.trans rfl)
  exact ⟨w, spares.latched, working⟩

namespace PublishingRun

theorem worksAtPublication (run : PublishingRun order sensor boot s u p t) : u.working = true := by
  rw [run.sooner]
  exact works_foldl run.cool _ s run.works

theorem latched (run : PublishingRun order sensor boot s u p t) :
    ∃ w, u.interval.latched = true ∧ u.interval.working = some w := by
  rw [run.sooner]
  exact latched_before run.works run.cool

end PublishingRun
end Published

/-! ### A pending ANNOUNCE -/

section Announce
variable {s t u p : State} {sensor : Int} {boot : BootInputs} {order : EndOrder} {g : PlacedFrame} {f : Flight}
  {x : Port}

/-- The ANNOUNCE waits, or has started. -/
def State.announces (s : State) (g : PlacedFrame) : Prop :=
  s.line.slots.announce = some g ∨
    (s.line.slots.announce = none ∧ s.line.flight = some ⟨.announce, g, false, false⟩)

theorem flight_unfitPort_of_announce (flight : s.line.flight = some f) (slot : f.slot = .announce) :
    (unfitPort s x).line.flight = some f := by
  have placed (v : State) (reason : ReleaseReason) : (placeRelease v x reason).line.flight = v.line.flight := by
    unfold placeRelease placeLane
    split
    · rfl
    · rfl
  by_cases drives : (s.elect x).lane = .driving ∨ (s.elect x).lane = .holding
  · rw [unfitPort_of_drives drives]
    split
    · exact (placed (standDown s x .disabled) _).trans flight
    · exact (placed (standDown s x .disabled) _).trans flight
  · obtain ⟨drive, hold⟩ := not_or.mp drives
    by_cases claims : (s.elect x).lane = .claiming
    · rw [unfitPort_of_claiming claims, line_withdrawClaim, withdrawFrame_of_other]
      · exact flight
      · intro h flies own
        obtain rfl := Option.some.inj (flies.symm.trans flight)
        exact lane_ne_announce x (own.symm.trans slot)
    · rw [unfitPort_of_quiet drive hold claims]
      exact flight

/-- The fitness monitor's event leaves an ANNOUNCE in flight. -/
theorem flight_fitnessOnInterval_of_announce (flight : s.line.flight = some f) (slot : f.slot = .announce) :
    (fitnessOnInterval s).line.flight = some f := by
  have runs (xs : List Port) : ∀ v : State, v.line.flight = some f → (xs.foldl unfitPort v).line.flight = some f := by
    induction xs with
    | nil => exact fun _ same => same
    | cons x xs ih => exact fun v same => ih _ (flight_unfitPort_of_announce same slot)
  unfold fitnessOnInterval
  dsimp only
  split
  · unfold electionFit
    split <;> exact flight
  · exact runs four _ flight
  · exact flight

/-- What comes behind a publication leaves its ANNOUNCE pending or started, and pending on a held line. -/
theorem announces_run {e : EndAct} (awake : s.thermal.shutdown = false) (cool : sensor < 125)
    (kind : e = .send ∨ e = .take .thermal ∨ e = .take .fitness) :
    (s.announces g → (e.run sensor boot s).announces g) ∧
      ((s.line.state ≠ .idle ∨ s.line.flight ≠ none) → s.line.slots.announce = some g →
        (((e.run sensor boot s).line.state ≠ .idle ∨ (e.run sensor boot s).line.flight ≠ none) ∧
          (e.run sensor boot s).line.slots.announce = some g)) := by
  have of_line {v : State} (line : v.line = s.line) : (s.announces g → v.announces g) ∧
      ((s.line.state ≠ .idle ∨ s.line.flight ≠ none) → s.line.slots.announce = some g →
        ((v.line.state ≠ .idle ∨ v.line.flight ≠ none) ∧ v.line.slots.announce = some g)) := by
    unfold State.announces
    rw [line]
    exact ⟨id, fun held waits => ⟨held, waits⟩⟩
  obtain rfl | rfl | rfl := kind
  · show (s.announces g → (trySend s).announces g) ∧
      (_ → _ → ((trySend s).line.state ≠ .idle ∨ (trySend s).line.flight ≠ none) ∧
      (trySend s).line.slots.announce = some g)
    refine ⟨fun either => ?_, fun held waits => ?_⟩
    · obtain waits | ⟨gone, flies⟩ := either
      · exact trySend_waits_or_starts (k := .announce) waits
      · rw [trySend_of_held (.inr (by rw [flies]; exact Option.some_ne_none _))]
        exact .inr ⟨gone, flies⟩
    · rw [trySend_of_held held]
      exact ⟨held, waits⟩
  · exact of_line (line_run_take awake cool nofun)
  · by_cases works : s.working = true
    case neg =>
      have stays : (EndAct.take .fitness).run sensor boot s = s := if_neg works
      exact of_line (by rw [stays])
    have event : (EndAct.take .fitness).run sensor boot s = fitnessOnInterval s := if_pos works
    have frame := frame_fitnessOnInterval s
    rw [event]
    refine ⟨fun either => ?_, fun held waits => ⟨?_, frame.announce.trans waits⟩⟩
    · obtain waits | ⟨gone, flies⟩ := either
      · exact .inl (frame.announce.trans waits)
      · exact .inr ⟨frame.announce.trans gone, flight_fitnessOnInterval_of_announce flies rfl⟩
    · have state : (fitnessOnInterval s).line.state = s.line.state := by rw [frame.line]
      rw [state]
      exact held.imp id (mt frame.flightNone.mp)

theorem announces_foldl (cool : sensor < 125) : ∀ (acts : List EndAct),
    (∀ e ∈ acts, e = .send ∨ e = .take .thermal ∨ e = .take .fitness) → ∀ s : State, s.thermal.shutdown = false →
      (s.announces g → (acts.foldl (EndAct.run sensor boot) s).announces g) ∧
        ((s.line.state ≠ .idle ∨ s.line.flight ≠ none) → s.line.slots.announce = some g →
          (acts.foldl (EndAct.run sensor boot) s).line.slots.announce = some g)
  | [], _, _, _ => ⟨id, fun _ waits => waits⟩
  | e :: acts, kinds, s, awake => by
    obtain ⟨kind, tail⟩ := List.forall_mem_cons.mp kinds
    obtain ⟨either, held⟩ := announces_run (boot := boot) (g := g) awake cool kind
    obtain ⟨either_, held_⟩ := announces_foldl cool acts tail _ (awake_run (boot := boot) awake cool e)
    refine ⟨either_ ∘ either, fun still waits => ?_⟩
    obtain ⟨still, waits⟩ := held still waits
    exact held_ still waits

/-- The bytes that an ANNOUNCE carries of the fitness monitor and of the thermal controller. -/
def PlacedFrame.carries (g : PlacedFrame) (byte : List Byte) (reading : Int) : Prop :=
  g.frame.kind = 3 ∧ g.frame.body.take 1 = byte ∧ (g.frame.body.drop 2).take 1 = readingByte reading

theorem carries_of_announce {v : State} (frame : g.frame = v.announce) :
    g.carries (faultsByte v.fitness) v.thermal.reading := by
  unfold PlacedFrame.carries
  rw [frame, announce_eq, faultsByte_eq, readingByte_eq, numBytes_one]
  exact ⟨rfl, rfl, rfl⟩

/-- The takers leave a line restart, the line's state, and whether a frame is in flight. -/
theorem foldl_takes (cool : sensor < 125) : ∀ (xs : List Taker) (s : State), s.thermal.shutdown = false →
    let u := (xs.map EndAct.take).foldl (EndAct.run sensor boot) s
    u.election.restarting = s.election.restarting ∧ u.line.state = s.line.state ∧
      (u.line.flight = none ↔ s.line.flight = none)
  | [], _, _ => ⟨rfl, rfl, Iff.rfl⟩
  | x :: xs, s, awake => by
    have first : ((EndAct.take x).run sensor boot s).election.restarting = s.election.restarting ∧
        ((EndAct.take x).run sensor boot s).line.state = s.line.state ∧
        (((EndAct.take x).run sensor boot s).line.flight = none ↔ s.line.flight = none) := by
      by_cases event : x = .fitness
      · subst event
        by_cases works : s.working = true
        · have ran : (EndAct.take .fitness).run sensor boot s = fitnessOnInterval s := if_pos works
          have frame := frame_fitnessOnInterval s
          rw [ran]
          exact ⟨by rw [frame.rest], by rw [frame.line], frame.flightNone⟩
        · have stays : (EndAct.take .fitness).run sensor boot s = s := if_neg works
          rw [stays]
          exact ⟨rfl, rfl, Iff.rfl⟩
      · rw [line_run_take awake cool event]
        exact ⟨(sparesFitness_run awake cool fun same => event (EndAct.take.inj same)).restarting, rfl, Iff.rfl⟩
    obtain ⟨restarting, state, flight⟩ := first
    obtain ⟨restarting_, state_, flight_⟩ := foldl_takes cool xs _ (awake_run (boot := boot) awake cool (.take x))
    exact ⟨restarting_.trans restarting, state_.trans state, flight_.trans flight⟩

/-- R77, R131: the ANNOUNCE at the end of an interval end with its publication within. -/
theorem PublishingRun.announces (run : PublishingRun order sensor boot s u p t) (calm : s.election.restarting = false) :
    ∃ g : PlacedFrame, g.carries (faultsByte u.fitness) u.thermal.reading ∧ t.announces g ∧
      ((s.line.state ≠ .idle ∨ s.line.flight ≠ none) → t.line.slots.announce = some g) := by
  obtain ⟨w, latched, working⟩ := run.latched
  have awake := (State.working_iff.mp run.works).2
  obtain ⟨restarting, state, flight⟩ := foldl_takes (boot := boot) run.cool (takersBefore order s) s awake
  rw [← run.sooner] at restarting state flight
  have is : p = u.announced w := by
    rw [run.published, publishLatched_of_latched run.worksAtPublication latched working,
      electOnPublication_of_calm (restarting.trans calm)]
  obtain ⟨g, waits, frame⟩ := Option.map_eq_some_iff.mp (slot_announced u w)
  rw [← is] at waits
  have rest := rest_evaluated u w
  have carries := carries_of_announce frame
  rw [show (u.evaluated w).fitness
    = u.fitness by rw [rest]; rfl, show (u.evaluated w).thermal = u.thermal by rw [rest]; rfl] at carries
  have awakeP : p.thermal.shutdown = false := by
    rw [is, rest_announced]
    exact (State.working_iff.mp run.worksAtPublication).2
  have kinds : ∀ e ∈ actsAfter order s, e = .send ∨ e = .take .thermal ∨ e = .take .fitness :=
    fun e member => (mem_actsAfter member).imp id (Or.imp And.left And.left)
  obtain ⟨either, held⟩ := announces_foldl (boot := boot) (g := g) run.cool _ kinds p awakeP
  rw [← run.later] at either held
  refine ⟨g, carries, either (.inl waits), fun still => held ?_ waits⟩
  rw [is, state_announced, ne_eq ((u.announced w).line.flight), flight_announced_iff, state, flight]
  exact still

end Announce
end Sys2Proof.Machine
end

section
/-!
O31: where the event behind the publication makes the station UNFIT, and the theorem.
-/
namespace Sys2Proof.Machine

/-! ### The figures of a FIT station -/

section Figures
variable {s t u p : State} {sensor : Int} {boot : BootInputs} {order : EndOrder} {x : Taker}

/-- Figures that have been computed since the latch are those of a FIT station. -/
def State.figuredFit (s : State) : Prop :=
  s.interval.latched = true → s.interval.figured = true → ∃ w : Snapshot, s.interval.working = some (w.withFigures true)

theorem figuredFit_run (cool : sensor < 125) (awake : s.thermal.shutdown = false) (fit : s.fitness.state = .fit)
    (other : x ≠ .fitness) (figured : s.figuredFit) : ((EndAct.take x).run sensor boot s).figuredFit := by
  have of_interval {v : State} (interval : v.interval = s.interval) : v.figuredFit := by
    unfold State.figuredFit
    rw [interval]
    exact figured
  have of_working {v : State} (kept : v.figuredFit) : (if s.working then v else s).figuredFit := by
    split
    · exact kept
    · exact figured
  cases x with
  | latch => exact of_working fun _ no => absurd no Bool.false_ne_true
  | figures =>
    refine of_working ?_
    obtain same | ⟨w, -, -, -, same⟩ := computeFigures_cases s
    · rw [same]
      exact figured
    · rw [same, fit]
      exact fun _ _ => ⟨w, rfl⟩
  | ageing => exact of_working (of_interval (by rw [(rest_ageOnInterval s).1]))
  | fitness => exact absurd rfl other
  | thermal =>
    obtain ⟨h, more, clears, -, -, effect⟩ := takeReading_effect (s := s) (sensor := sensor) boot rfl awake
      (clampInt_below cool)
    show (takeReading s sensor boot).figuredFit
    rw [effect s rfl rfl rfl]
    exact of_interval rfl

theorem figuredFit_foldl (cool : sensor < 125) : ∀ (xs : List Taker), (∀ x ∈ xs, x ≠ .fitness) → ∀ s : State,
    s.thermal.shutdown = false → s.fitness.state = .fit → s.figuredFit →
      ((xs.map EndAct.take).foldl (EndAct.run sensor boot) s).figuredFit
  | [], _, _, _, _, figured => figured
  | x :: xs, others, s, awake, fit, figured => by
    obtain ⟨other, tail⟩ := List.forall_mem_cons.mp others
    have spares := sparesFitness_run (boot := boot) (e := .take x) awake cool fun same => other (EndAct.take.inj same)
    exact figuredFit_foldl cool xs tail _ (spares.awake.trans awake) (by rw [spares.fitness]; exact fit)
      (figuredFit_run cool awake fit other figured)

theorem filled_of_figuredFit {w : Snapshot} (latched : s.interval.latched = true)
    (working : s.interval.working = some w)
    (fit : s.fitness.state = .fit) (figured : s.figuredFit) (k : SlotNo) :
    (s.filled w).figures.get k = ((s.filled w).services.get k).map (figureOf true (s.filled w).mers) := by
  cases computed : s.interval.figured with
  | true =>
    obtain ⟨v, is⟩ := figured latched computed
    obtain rfl := Option.some.inj (working.symm.trans is)
    have same : s.filled (v.withFigures true) = v.withFigures true := if_pos computed
    rw [same]
    exact Quad.get_map ..
  | false =>
    have not_ : ¬ s.interval.figured = true := by rw [computed]; exact Bool.false_ne_true
    unfold State.filled
    rw [if_neg not_, decide_eq_true fit]
    exact Quad.get_tabulate ..

theorem interval_foldl (cool : sensor < 125) : ∀ (acts : List EndAct),
    (∀ e ∈ acts, e = .send ∨ e = .take .thermal ∨ e = .take .fitness) → ∀ s : State, s.thermal.shutdown = false →
      (acts.foldl (EndAct.run sensor boot) s).interval = s.interval
  | [], _, _, _ => rfl
  | e :: acts, kinds, s, awake => by
    obtain ⟨kind, tail⟩ := List.forall_mem_cons.mp kinds
    refine (interval_foldl cool acts tail _ (awake_run awake cool e)).trans ?_
    obtain rfl | rfl | rfl := kind
    · show (trySend s).interval = s.interval
      rw [rest_trySend]
    · obtain ⟨h, more, clears, -, -, effect⟩ := takeReading_effect (s := s) (sensor := sensor) boot rfl awake
        (clampInt_below cool)
      show (takeReading s sensor boot).interval = s.interval
      rw [effect s rfl rfl rfl]
      rfl
    · show (if s.working then fitnessOnInterval s else s).interval = s.interval
      split
      · rw [(frame_fitnessOnInterval s).rest]
      · rfl

namespace PublishingRun

theorem kinds (order : EndOrder) (s : State) : ∀ e ∈ actsAfter order s, e = .send ∨ e = .take .thermal ∨
    e = .take .fitness :=
  fun _ member => (mem_actsAfter member).imp id (Or.imp And.left And.left)

theorem interval (run : PublishingRun order sensor boot s u p t) :
    ∃ w, u.interval.latched = true ∧ u.interval.working = some w ∧ t.interval = (u.published w).interval := by
  obtain ⟨w, latched, working⟩ := run.latched
  have works := run.worksAtPublication
  have awakeP : p.thermal.shutdown = false := by
    rw [run.published, (sparesFitness_publishLatched u).awake]
    exact (State.working_iff.mp works).2
  refine ⟨w, latched, working, ?_⟩
  rw [run.later, interval_foldl run.cool _ (kinds order s) p awakeP, run.published]
  exact interval_publishLatched works latched working

/-- Where the event comes behind, the takers before the publication leave the fitness monitor but for THERMAL_SHED. -/
theorem sparesBefore (run : PublishingRun order sensor boot s u p t)
    (behind : behindPublication order s .fitness = true) :
    State.SparesFitness False s u := by
  rw [run.sooner]
  refine (sparesFitness_foldl run.cool _ (fun e member => ?_) s (State.working_iff.mp run.works).2).mono
    (publish_not_mem_take _)
  obtain ⟨x, rfl, sooner⟩ := mem_before member
  rintro same
  cases same
  exact Bool.false_ne_true (sooner.symm.trans behind)

theorem figures (run : PublishingRun order sensor boot s u p t) (unlatched : s.interval.latched = false)
    (behind : behindPublication order s .fitness = true) (fit : s.fitness.state = .fit) :
    t.interval.latched = false ∧ ∀ k, t.interval.published.figures.get k =
      (t.interval.published.services.get k).map (figureOf true t.interval.published.mers) := by
  obtain ⟨w, latched, working, interval⟩ := run.interval
  have spares := run.sparesBefore behind
  have figured : u.figuredFit := by
    rw [run.sooner]
    refine figuredFit_foldl run.cool _ (fun x member => ?_) s (State.working_iff.mp run.works).2 fit
      fun latched => absurd (unlatched.symm.trans latched) Bool.false_ne_true
    rintro rfl
    exact Bool.false_ne_true ((mem_takersBefore.mp member).2.symm.trans behind)
  rw [interval]
  exact ⟨rfl, filled_of_figuredFit latched working (by rw [spares.fitness]; exact fit) figured⟩

/-! ### What the ANNOUNCE shows -/

/-- Where the reading comes behind, it shows in nothing before. -/
theorem readingBefore (run : PublishingRun order sensor boot s u p t) (first : order.publishFirst = true) :
    s.SparesReading u := by
  rw [run.sooner]
  refine sparesReading_foldl _ (fun e member => ?_) s
  obtain ⟨x, rfl, sooner⟩ := mem_before member
  rintro same
  cases same
  exact Bool.false_ne_true (sooner.symm.trans first)

/-- Where it comes before, what follows leaves it. -/
theorem readingBehind (run : PublishingRun order sensor boot s u p t) (sooner : order.publishFirst = false) :
    u.SparesReading t := by
  have published := sparesReading_publishLatched u
  rw [← run.published] at published
  rw [run.later]
  refine published.trans (sparesReading_foldl _ (fun e member => ?_) p)
  obtain rfl | ⟨rfl, first⟩ | ⟨rfl, -⟩ := mem_actsAfter member
  · exact nofun
  · exact absurd (sooner.symm.trans first) Bool.false_ne_true
  · exact nofun

theorem shown (run : PublishingRun order sensor boot s u p t) (opens : s.intervalOpen)
    (answers : exec (.intervalEnd order sensor boot) s = .next t) :
    u.thermal.reading = (if order.publishFirst then s.thermal.reading else max (-40) (min sensor 150)) ∧
      u.fitness.faults.thermalShed =
        (if order.publishFirst then s.fitness.faults.thermalShed else t.fitness.faults.thermalShed) := by
  cases first : order.publishFirst with
  | true =>
    have spares := run.readingBefore first
    exact ⟨by rw [spares.thermal]; rfl, spares.shed⟩
  | false =>
    have spares := run.readingBehind first
    obtain ⟨h, more, clears, reading, reads⟩ := reading_spec boot opens run.cool
    refine ⟨?_, spares.shed.symm⟩
    rw [← spares.thermal, (reads order t answers).1, reading]
    rfl

/-- The fitness monitor that the ANNOUNCE shows: from before its event where that comes behind. -/
theorem standingBehind (run : PublishingRun order sensor boot s u p t)
    (behind : behindPublication order s .fitness = true) :
    u.fitness = { s.fitness with faults := { s.fitness.faults with thermalShed := u.fitness.faults.thermalShed } } :=
  (run.sparesBefore behind).fitness

/-- And from behind it where it comes before. -/
theorem standingBefore (run : PublishingRun order sensor boot s u p t) (sooner : order.publishBeforeFitness = false) :
    u.fitness = { t.fitness with faults := { t.fitness.faults with thermalShed := u.fitness.faults.thermalShed } } := by
  have published := sparesFitness_publishLatched u
  rw [← run.published] at published
  have awakeP : p.thermal.shutdown = false := published.awake.trans (State.working_iff.mp run.worksAtPublication).2
  have rest := sparesFitness_foldl (boot := boot) run.cool (actsAfter order s) (fun e member => by
    obtain rfl | ⟨rfl, -⟩ | ⟨rfl, later, -⟩ := mem_actsAfter member
    · exact nofun
    · exact nofun
    · exact absurd (sooner.symm.trans later) Bool.false_ne_true) p awakeP
  rw [← run.later] at rest
  rw [(published.trans rest).fitness]

end PublishingRun
end Figures

/-! ### The lanes of a station that becomes UNFIT behind its publication -/

section Lanes
variable {s t u v : State} {sensor : Int} {boot : BootInputs} {order : EndOrder} {a b : List EndAct} {x : Port}

/-- A lane slot holds what it held, or nothing, unless its port has begun to claim. -/
def State.slotStands (s : State) (x : Port) (u : State) : Prop :=
  u.line.slots.get (.lane x) = s.line.slots.get (.lane x) ∨ u.line.slots.get (.lane x) = none ∨
    (u.elect x).lane = .claiming

theorem slotStands_foldl (cool : sensor < 125) : ∀ (acts : List EndAct), (∀ e ∈ acts, e ≠ .take .fitness) → ∀ u : State,
    u.thermal.shutdown = false → s.slotStands x u → s.slotStands x (acts.foldl (EndAct.run sensor boot) u)
  | [], _, _, _, stands => stands
  | e :: acts, others, u, awake, stands => by
    obtain ⟨other, tail⟩ := List.forall_mem_cons.mp others
    refine slotStands_foldl cool acts tail _ (awake_run awake cool e) ?_
    by_cases sends : e = .send
    · subst sends
      show s.slotStands x (trySend u)
      unfold State.slotStands
      rw [elect_trySend]
      cases waits : u.line.slots.get (.lane x) with
      | none =>
        obtain ⟨-, -, -, j, f, -, sent⟩ | same := trySend_cases u
        · rw [sent]
          by_cases here : TxSlot.lane x = j
          · rw [← here]
            exact .inr (.inl (TxSlots.get_set_self u.line.slots (.lane x) none))
          · exact .inr (.inl ((TxSlots.get_set_of_ne _ _ here).trans waits))
        · rw [same]
          exact .inr (.inl waits)
      | some g =>
        obtain still | ⟨gone, -⟩ := trySend_waits_or_starts waits
        · rw [still, ← waits]
          exact stands
        · exact .inr (.inl gone)
    · have slots := sparesSlots_run (boot := boot) awake cool other fun same => absurd same sends
      obtain same | ⟨-, claims, -⟩ := slots.lanes x
      · refine stands.imp same.trans (Or.imp same.trans fun claims => ?_)
        exact ((sparesFitness_run awake cool other).lane_eq (by rw [claims]; decide) (by rw [claims]; decide)).trans
          claims
      · exact .inr (.inr claims)

/-- No CLAIM of the evaluation stands. -/
theorem EventRun.slotOfReleased (run : EventRun sensor boot s u v t a b) (fit : s.fitness.state = .fit)
    (unfit : (s.fitness.intervalEnd s.config).state = .unfit) (released : (s.elect x).lane = .released) :
    t.line.slots.get (.lane x) = none ∨ t.line.slots.get (.lane x) = s.line.slots.get (.lane x) := by
  have sooner := slotStands_foldl (boot := boot) (x := x) run.cool a run.before s run.awake (s := s) (.inl rfl)
  rw [← run.sooner] at sooner
  have moved := run.first.moving x (.inl released)
  have event : s.slotStands x v := by
    by_cases claims : (u.elect x).lane = .claiming
    · exact .inr (.inl (by rw [run.unfit fit unfit]; exact slot_electionUnfit_of_claiming claims))
    · have quiet : (u.elect x).lane = .released := by
        obtain lane | ⟨no, -⟩ | ⟨-, lane⟩ := moved
        · exact lane
        · exact absurd (released.symm.trans no) nofun
        · exact absurd lane claims
      have stays : v.line.slots.get (.lane x) = u.line.slots.get (.lane x) := by
        rw [run.unfit fit unfit]
        exact slot_electionUnfit_of_quiet (by rw [quiet]; decide) (by rw [quiet]; decide) claims
      exact sooner.imp stays.trans (Or.imp stays.trans fun lane => absurd lane claims)
  have last := slotStands_foldl (boot := boot) (x := x) (s := s) run.cool (b ++ [.send])
    (fun e member => (List.mem_append.mp member).elim (run.after e)
      fun one => by rw [List.mem_singleton.mp one]; exact nofun)
    v run.awakeBehind event
  rw [List.foldl_append] at last
  have ends : s.slotStands x t := by
    rw [run.later]
    exact last
  obtain same | none_ | claims := ends
  · exact .inr same
  · exact .inl none_
  · exact absurd (claims.symm.trans (run.disabledAtEnd fit unfit x)) (by decide)

/-- Nothing of a lane flies but a RELEASE, where nothing waited and nothing starts between. -/
theorem EventRun.onlyReleases (run : EventRun sensor boot s u v t a b) (fit : s.fitness.state = .fit)
    (unfit : (s.fitness.intervalEnd s.config).state = .unfit) (unsent : .send ∉ a) (takes : ∀ e ∈ b, ∃ y, e = .take y)
    (free : s.line.flight = none) (empty : ∀ x, s.line.slots.lane.get x = none) {g : Flight}
      (flies : t.line.flight = some g)
    (slot : g.slot = .lane x) : g.placed.frame.kind = 1 := by
  have slots := run.lineAtEvent fun sent => absurd sent unsent
  have freeV : v.line.flight = none := run.frame.flightNone.mpr (slots.flight.trans free)
  have line : (b.foldl (EndAct.run sensor boot) v).line = v.line := by
    refine line_foldl_takes run.cool b (fun e member => ?_) v run.awakeBehind
    obtain ⟨y, rfl⟩ := takes e member
    exact ⟨y, rfl, fun same => run.after _ member (by rw [same])⟩
  rw [run.later] at flies
  obtain ⟨-, -, -, j, f, chosen, sent⟩ | same := trySend_cases (b.foldl (EndAct.run sensor boot) v)
  · rw [sent, line] at flies
    obtain rfl := Option.some.inj flies
    obtain rfl : j = .lane x := slot
    rw [line] at chosen
    obtain ⟨waits, -⟩ := LineUnit.choose_spec chosen
    rw [run.unfit fit unfit] at waits
    obtain ⟨release, -⟩ | ⟨waited, quiet⟩ := waits_electionUnfit waits
    · exact release
    · obtain before | ⟨-, claims, -⟩ := slots.lanes x
      · exact (Option.some_ne_none f (waited.symm.trans (before.trans (empty x)))).elim
      · exact absurd claims quiet
  · rw [same, line, freeV] at flies
    cases flies

end Lanes
end Sys2Proof.Machine
end

section
/-!
O31: the theorem.
-/
namespace Sys2Proof.Machine

section Publication
variable {s t u p ended published : State} {sensor : Int} {boot : BootInputs} {order : EndOrder}

/-- A change to FIT never comes behind the publication. -/
theorem exec_of_becomesFit (opens : s.intervalOpen) (becomes : s.becomesFit = true) :
    exec (.intervalEnd order sensor boot) s =
      exec (.intervalEnd { order with publishFirst := order.publishFirst, publishBeforeFitness := false } sensor boot)
        s := by
  obtain ⟨-, -, ticks, unlatched⟩ := opens
  have behind : behindPublication order s =
      behindPublication { order with publishFirst := order.publishFirst, publishBeforeFitness := false } s := by
    funext x
    cases x with
    | fitness => rw [behindPublication, becomes, Bool.not_true, Bool.and_false]; rfl
    | latch | figures | ageing | thermal => rfl
  rw [exec_intervalEnd_eq ticks unlatched, exec_intervalEnd_eq ticks unlatched]
  unfold endActs actsBehind takersBefore takersBehind
  rw [behind]

/-- What the ANNOUNCE carries, in the words of O31. -/
theorem PublishingRun.carries (run : PublishingRun order sensor boot s u p t) {byte : List Byte} {reading : Int}
    (standing : faultsByte u.fitness = byte) (shown : u.thermal.reading = reading)
      (calm : s.election.restarting = false) :
    (s.line.state ≠ .idle ∨ s.line.flight ≠ none → ∃ g, t.line.slots.announce = some g ∧ g.carries byte reading) ∧
      (s.line.state = .idle → s.line.flight = none →
        (∃ g, t.line.slots.announce = some g ∧ g.carries byte reading) ∨
          (t.line.slots.announce = none ∧ ∃ g, t.line.flight = some ⟨.announce, g, false, false⟩ ∧
            g.carries byte reading)) := by
  obtain ⟨g, carries, either, held⟩ := run.announces calm
  rw [standing, shown] at carries
  refine ⟨fun still => ⟨g, held still, carries⟩, fun _ _ => ?_⟩
  exact either.imp (fun waits => ⟨g, waits, carries⟩) fun ⟨gone, flies⟩ => ⟨gone, g, flies, carries⟩

/-- Settles O31: what a publication leaves, and an interval end that publishes beside the two events in turn. -/
theorem publicationReplacesSnapshotAndAnnounces : Obligations.PublicationReplacesSnapshotAndAnnounces := by
  refine ⟨fun w s => publication_spec w s, ?_⟩
  intro order sensor boot s ended published t opens cool apart within ends publishes answers shown announces shed
    standing
    becomesFit losesFit
  have ends : exec (.intervalEnd (inTurn order) sensor boot) s = .next ended := ends
  obtain ⟨a', b', u', v', ended', run', ends', -⟩ := exists_eventRun (inTurn order) boot opens cool
  obtain rfl := Host.Outcome.next.inj (ends'.symm.trans ends)
  have becomes : s.becomesFit = true ↔ becomesFit := by
    rw [becomesFit_iff, ← run'.state]
  have calm_ (not_ : ¬ becomesFit) : s.becomesFit = false := Bool.eq_false_of_not_eq_true (mt becomes.mp not_)
  refine ⟨fun becomes_ _ => exec_of_becomesFit opens (becomes.mpr becomes_), fun sooner => ?_, fun later stays => ?_,
    fun later loses => ?_⟩
  · have first : order.publishFirst = true := by
      by_contra no
      exact apart ⟨Bool.eq_false_of_not_eq_true no, sooner⟩
    obtain ⟨same, fitness⟩ := eq_published opens cool answers ends publishes
      (agrees_of_sooner opens cool first sooner answers ends)
    refine ⟨same, fun calm => ?_⟩
    obtain ⟨u, p, t', run, answers'⟩ := exists_publishingRun boot opens cool
      (takersBehind_ne_nil apart fun later => absurd (sooner.symm.trans later) Bool.false_ne_true)
    obtain rfl := Host.Outcome.next.inj (answers'.symm.trans answers)
    obtain ⟨reading, shed_⟩ := run.shown opens answers
    refine run.carries ?_ reading calm
    rw [run.standingBefore sooner, fitness, shed_]
  · have behind := takersBehind_ne_nil apart fun _ => calm_ stays
    have behind_ : behindPublication order s .fitness = true := by rw [behindPublication, later, calm_ stays]; rfl
    refine ⟨fun keeps => ?_, fun calm => ?_⟩
    · refine (eq_published opens cool answers ends publishes (agrees_of_later opens cool behind ?_ ?_ answers ends)).1
      · rw [← run'.state]
        exact stays
      · rw [← run'.state]
        exact keeps
    · obtain ⟨u, p, t', run, answers'⟩ := exists_publishingRun boot opens cool behind
      obtain rfl := Host.Outcome.next.inj (answers'.symm.trans answers)
      obtain ⟨reading, shed_⟩ := run.shown opens answers
      refine run.carries ?_ reading calm
      rw [run.standingBehind behind_, shed_]
  · obtain ⟨fit, lost⟩ := loses
    have unfit : (s.fitness.intervalEnd s.config).state = .unfit := run'.state.symm.trans lost
    have stays : s.becomesFit = false := calm_ fun ⟨listens, _⟩ => absurd (listens.symm.trans fit) (by decide)
    have behind_ : behindPublication order s .fitness = true := by rw [behindPublication, later, stays]; rfl
    obtain ⟨u, p, t', run, answers'⟩ := exists_publishingRun boot opens cool (takersBehind_ne_nil apart fun _ => stays)
    obtain rfl := Host.Outcome.next.inj (answers'.symm.trans answers)
    obtain ⟨a, b, v, w, t'', event, answers'', split, -, takes⟩ := exists_eventRun order boot opens cool
    obtain rfl := Host.Outcome.next.inj (answers''.symm.trans answers)
    obtain ⟨unlatched, figures⟩ := run.figures opens.2.2.2 behind_ fit
    refine ⟨unlatched, figures, event.disabledAtEnd fit unfit, fun x released =>
      event.slotOfReleased fit unfit released,
      fun unsent free empty g flies x slot => ?_⟩
    refine event.onlyReleases fit unfit (fun member => ?_) (takes behind_) free empty flies slot
    have between := send_mem_endActs (order := order) (s := s) (by rw [split]; exact List.mem_append_left _ member)
    exact Bool.false_ne_true (unsent.symm.trans between)

end Publication
end Sys2Proof.Machine
end
